-- ==== Sys2Proof/Word.lean ====
section
/-! DEFINITION. The word types of the KRL4680: 32-bit registers (R4), bytes of the memories, and the
small containers the block repeats (four port facets, three ordered-set types). -/
namespace Sys2Proof

/-- A register or fabric-bus word (R4). -/
abbrev Word := BitVec 32
/-- One byte of the NVM, of Lapidary SRAM or of the service port. -/
abbrev Byte := BitVec 8
/-- A halfword: a PD message header, a chain-link ring entry. -/
abbrev Half := BitVec 16

end Sys2Proof
end

