-- ==== Sys2Proof/Syntax.lean ====
section
/-! DEFINITION. The commands of the block: one constructor of `Instr` per row of spec/opcode_table.json, in the
table's order, and the types of their operands. The table gives no row an operand field: the operands are what
the row's rule says the step is about (a port, a word index and value, a received message, a measured value). -/
namespace Sys2Proof

/-- The four port facets (01_architecture.md, Port facets). -/
inductive Port where
  | a | b | c | d
deriving DecidableEq, Repr

/-- One value for each port facet. -/
structure Four (α : Type) where
  a : α
  b : α
  c : α
  d : α
deriving DecidableEq, Repr

/-- The voltages of a port's two CC pins, mV. -/
structure Pins where
  cc1 : Nat
  cc2 : Nat
deriving DecidableEq, Repr

def Four.all {α : Type} (x : α) : Four α := ⟨x, x, x, x⟩

/-- The ordered-set types that carry messages (R200). -/
inductive Sop where
  | sop | sopP | sopPP
deriving DecidableEq, Repr

/-- One value for each ordered-set type (R203). -/
structure Three (α : Type) where
  sop : α
  sopP : α
  sopPP : α
deriving DecidableEq, Repr

def Three.all {α : Type} (x : α) : Three α := ⟨x, x, x⟩

/-- The two converters (R308). -/
inductive Conv where
  | cv1 | cv2
deriving DecidableEq, Repr

/-- The two node buses (R268). -/
inductive Bus where
  | nbus1 | nbus2
deriving DecidableEq, Repr

/-- The masters of the fabric bus (table of R32). -/
inductive Master where
  | loader | onyx | lapidary | service
  | link (p : Port)
deriving DecidableEq, Repr

/-- Where a facet or hub command was written: `Fx_CMD`/`H_CMD` by a master, or firmware's mailbox (R158). -/
inductive Src where
  | direct (m : Master)
  | mailbox
deriving DecidableEq, Repr

/-- The supply inputs with a supervisor (R48). -/
inductive Supply where
  | vbus (p : Port)
  | bat
  | auxin
deriving DecidableEq, Repr

/-- The two CC pins of a facet. -/
inductive CcPin where
  | cc1 | cc2
deriving DecidableEq, Repr

/-- A switch fault the gate monitor sees on a pair (R289, R290). -/
inductive LeakKind where
  | gate | vbus
deriving DecidableEq, Repr

/-- The PWM channels with a period boundary of their own (R323): each converter's legs share a counter. -/
inductive PwmChan where
  | cv (c : Conv)
  | gpwm0 | gpwm1
deriving DecidableEq, Repr

/-- How the verification of a swapped bank ends (R129, R130). -/
inductive Verify where
  | pass | mismatch | selfCheck | timeout
deriving DecidableEq, Repr

/-- The result of one NVM array operation: done, a program or an erase that failed verification (R414). -/
inductive ArrayResult where
  | done | programFailed | eraseFailed
deriving DecidableEq, Repr

/-- How a Type-C Authentication exchange ends (R264). -/
inductive AuthResult where
  | passed | failed | unsupported
deriving DecidableEq, Repr

/-- How a controller transaction ends (R472, R473). -/
inductive CtlEnd where
  | done | nack
deriving DecidableEq, Repr

/-- A received PD message: ordered set, header (R202), extended header when the header's bit 15 is set, and the data
objects or, for an Extended message, its data four bytes a word (R217). -/
structure PdMsg where
  sop  : Sop
  hdr  : Half
  ext  : Half
  objs : List Word
deriving DecidableEq, Repr

/-- What the analog side shows the hub and the facets at a refresh (R42, R279, R343): levels in the units of the
register that carries each one. -/
structure Sense where
  /-- die temperature in °C at 1 °C resolution -/
  tj     : Int
  /-- VBUS of each port, mV -/
  vbus   : Four Nat
  /-- port current, 10 mA, positive from bus to connector -/
  iport  : Four Int
  /-- VCONN current, mA -/
  ivconn : Four Nat
  /-- node-bus voltages, mV -/
  nbus1  : Nat
  nbus2  : Nat
  /-- AUXIN, mV -/
  aux    : Nat
  /-- pack voltage, mV -/
  bat    : Nat
  /-- battery current, mA, positive out of BAT+ -/
  ibat   : Int
  /-- NTC temperature, °C -/
  ntc    : Int
  /-- bus-side and battery-side currents of the converters, 10 mA -/
  iout1  : Int
  iout2  : Int
  ibat1  : Int
  ibat2  : Int
  /-- the absence probe dropped BAT+ by 10 mV or more (R343) -/
  absent : Bool
  /-- a gate of the port's pair is above 2 V (R290) -/
  gates  : Four Bool
  /-- a probe with Rp Default reads Ra on the port's non-terminated CC pin (R253) -/
  probe  : Four Bool
deriving DecidableEq, Repr

/-- The commands and events of the block, one constructor per row of spec/opcode_table.json. -/
inductive Instr where
  -- modes and supplies
  | supplyValid (sup : Supply) (valid : Bool)
  | powerOnResetRelease (tmode : Bool)
  | bootImageLoaded (ctr : ArrayResult)
  | noValidImage (ctr : ArrayResult)
  | onyxSelfTestFail (ctr : ArrayResult)
  | brownOutWarning
  | brownOutPor
  | enterStandby (m : Master) (arg : Half)
  | enterSentinel (m : Master) (arg : Half)
  | softReboot (m : Master) (arg : Half)
  | enterSafe (m : Master) (arg : Half)
  | safeExit (m : Master) (arg : Half)
  | sentinelEntryComplete (estCycles : BitVec 24)
  | wakeTimerExpiry (early late : Four Pins)
  | sentinelCalibration (estCycles : BitVec 24)
  -- floor protection
  | portHardOvercurrent (p : Port) (i10mA : Int)
  | converterPeakCurrent (c : Conv)
  | nbusOvervoltageClamp (b : Bus)
  | batOvervoltageClamp
  | dieThermalShutdown (tj : Int)
  -- clock, tick and TIME
  | clockLoss
  | tickBoundary (m : Sense)
  | tickCfgWrite (m : Master) (v : Word)
  | timeLoRead (m : Master)
  | timeWrap
  | epochAdvance (h : Option Port)
  -- facet commands
  | goLive (p : Port) (epoch : Byte) (arg : Half) (src : Src)
  | goOff (p : Port) (epoch : Byte) (arg : Half) (src : Src)
  | switchOn (p : Port) (epoch : Byte) (arg : Half) (src : Src)
  | switchOff (p : Port) (epoch : Byte) (arg : Half) (src : Src)
  | hardReset (p : Port) (epoch : Byte) (arg : Half) (src : Src)
  | quarantine (p : Port) (epoch : Byte) (arg : Half) (src : Src)
  | repair (p : Port) (epoch : Byte) (arg : Half) (src : Src)
  | softReset (p : Port) (epoch : Byte) (arg : Half) (src : Src)
  | cableReset (p : Port) (epoch : Byte) (arg : Half) (src : Src)
  | sendCaps (p : Port) (epoch : Byte) (arg : Half) (src : Src)
  | request (p : Port) (epoch : Byte) (arg : Half) (src : Src)
  | prSwap (p : Port) (epoch : Byte) (arg : Half) (src : Src)
  | drSwap (p : Port) (epoch : Byte) (arg : Half) (src : Src)
  | vconnSwap (p : Port) (epoch : Byte) (arg : Half) (src : Src)
  | eprEnter (p : Port) (epoch : Byte) (arg : Half) (src : Src)
  | eprExit (p : Port) (epoch : Byte) (arg : Half) (src : Src)
  | discover (p : Port) (epoch : Byte) (arg : Half) (src : Src)
  | enterMode (p : Port) (epoch : Byte) (arg : Half) (src : Src)
  | exitMode (p : Port) (epoch : Byte) (arg : Half) (src : Src)
  | authStart (p : Port) (epoch : Byte) (arg : Half) (src : Src)
  | authComplete (p : Port) (r : AuthResult)
  -- reconfiguration; the unit is a port facet, or the hub where no port is named
  | rcfgPrepare (u : Option Port) (epoch : Byte) (arg : Half) (src : Src)
  | rcfgRevert (u : Option Port) (epoch : Byte) (arg : Half) (src : Src)
  | rcfgApply (u : Option Port) (epoch : Byte) (arg : Half) (src : Src)
  | rcfgCancel (u : Option Port) (epoch : Byte) (arg : Half) (src : Src)
  | rcfgPrepareDone (u : Option Port)
  | rcfgRelease (u : Option Port) (v : Verify)
  | rcfgHoldLimit (u : Option Port)
  -- hub commands
  | cvRun (epoch : Byte) (arg : Half) (src : Src)
  | cvStandby (epoch : Byte) (arg : Half) (src : Src)
  | cvStop (epoch : Byte) (arg : Half) (src : Src)
  | cvClear (epoch : Byte) (arg : Half) (src : Src)
  | chgFull (epoch : Byte) (arg : Half) (src : Src)
  | chgStore (epoch : Byte) (arg : Half) (src : Src)
  | batClear (epoch : Byte) (arg : Half) (src : Src)
  | gaugeSet (epoch : Byte) (arg : Half) (src : Src)
  -- loader
  | erase (m : Master) (arg : Half)
  | openWrite (m : Master) (arg : Half)
  | closeWrite (m : Master) (arg : Half)
  | verify (m : Master) (arg : Half)
  | commit (m : Master) (arg : Half)
  | loaderCommandDone (r : ArrayResult)
  | cfgDataWrite (m : Master) (v : Word)
  | cfgSelWrite (m : Master) (v : Word)
  -- Onyx
  | challenge (m : Master) (arg : Half)
  | tokenSubmit (m : Master) (arg : Half)
  | lcAdvance (m : Master) (arg : Half)
  | keyEnrol (m : Master) (arg : Half)
  | keyRevoke (m : Master) (arg : Half)
  | debugUnlock (m : Master) (arg : Half)
  | ctrInc (m : Master) (arg : Half)
  | ctrRaise (m : Master) (arg : Half)
  | jrnWrite (m : Master) (arg : Half)
  | jrnAttest (m : Master) (arg : Half)
  | jrnVerify (m : Master) (arg : Half)
  | idkGenerate (m : Master) (arg : Half)
  | chainWrite (m : Master) (arg : Half)
  | provision (m : Master) (arg : Half)
  | onxRelease (m : Master) (arg : Half)
  | onyxCommandDone (r : ArrayResult)
  | onxDataWrite (m : Master) (n : Fin 64) (v : Word)
  | onxRngRead (m : Master)
  | nonceExpiry
  | grantLapse
  | challengeLockoutEnd
  | onyxOwnerTimeout
  | entropyHealthFail
  | entropyHealthRecover
  | onyxGlitchAlarm
  -- NVM controller
  | flush (m : Master) (arg : Half)
  | discard (m : Master) (arg : Half)
  | nvmErase (m : Master) (arg : Half)
  | nvmWindowWrite (m : Master) (w : BitVec 15) (v : Word)
  | nvmWindowRead (m : Master) (w : BitVec 15) (corrected uncorrectable : Bool)
  | nvmOperationDone (r : ArrayResult)
  | scrubStep (block : Byte) (page : Byte)
  | ledgerHour (ron : Four (Option Nat)) (osc : Option (Int × Nat)) (tjMean : Int)
  | save (m : Master)
  | ledgerPeriodicSave
  | gaugeRecordHour
  -- Lapidary
  | lapidaryInstruction (corrected uncorrectable : Bool)
  | ebreak
  | halt
  | resume
  | dbgStep (corrected uncorrectable : Bool)
  | lapEvqRead (m : Master) (q : Fin 5)
  | doorbellRing (m : Master) (code : Half)
  | lapDbCodeRead (m : Master)
  | lapWdKick (m : Master) (key : Byte)
  | watchdogExpiry
  | policyReloadDone
  | lapTmrCfgWrite (m : Master) (n : Fin 8) (v : Word)
  | lapTimerExpiry (n : Fin 8)
  | reqWrite (m : Master) (idx : Half) (v : Word)
  -- CC and attach
  | ccLevelChange (p : Port) (v : Pins)
  | ccDebounceExpiry (p : Port)
  | pdDebounceExpiry (p : Port)
  | tryCcDebounceExpiry (p : Port)
  | drpTryExpiry (p : Port)
  | drpTryWaitExpiry (p : Port)
  | drpPhaseEnd (p : Port)
  | errorRecoveryExpiry (p : Port)
  | rpValueChangeExpiry (p : Port)
  | sinkVbusInvalid (p : Port)
  | rpLevelWrite (m : Master) (p : Port) (lvl : BitVec 2)
  | vconnOvercurrent (p : Port) (mA : Nat)
  | ccOvervoltage (p : Port) (pin : CcPin)
  -- PD messages received and acknowledged
  | goodcrcReceived (p : Port) (sp : Sop) (id : BitVec 3)
  | goodcrcTimeout (p : Port)
  | crcErrorPacket (p : Port)
  | sourceCapabilitiesRx (p : Port) (m : PdMsg)
  | requestRx (p : Port) (m : PdMsg)
  | eprRequestRx (p : Port) (m : PdMsg)
  | acceptRx (p : Port) (m : PdMsg)
  | rejectRx (p : Port) (m : PdMsg)
  | waitRx (p : Port) (m : PdMsg)
  | psRdyRx (p : Port) (m : PdMsg)
  | softResetRx (p : Port) (m : PdMsg)
  | hardResetRx (p : Port)
  | prSwapRx (p : Port) (m : PdMsg)
  | drSwapRx (p : Port) (m : PdMsg)
  | vconnSwapRx (p : Port) (m : PdMsg) (raFound : Bool)
  | frSwapSignal (p : Port)
  | frSwapRx (p : Port) (m : PdMsg)
  | getSourceCapRx (p : Port) (m : PdMsg)
  | getSinkCapRx (p : Port) (m : PdMsg)
  | eprModeRx (p : Port) (m : PdMsg)
  | eprKeepaliveRx (p : Port) (m : PdMsg)
  | getPpsStatusRx (p : Port) (m : PdMsg)
  | structuredVdmRx (p : Port) (m : PdMsg)
  | vdmResponseRx (p : Port) (m : PdMsg)
  | enterModeRx (p : Port) (m : PdMsg)
  | exitModeRx (p : Port) (m : PdMsg)
  | bistRx (p : Port) (m : PdMsg)
  | bistCarrierEnd (p : Port)
  | getRevisionRx (p : Port) (m : PdMsg)
  | securityRequestRx (p : Port) (m : PdMsg)
  | firmwareMessageRx (p : Port) (m : PdMsg)
  | extendedChunkRx (p : Port) (m : PdMsg)
  | unchunkedExtendedRx (p : Port) (m : PdMsg)
  | unsupportedMessageRx (p : Port) (m : PdMsg)
  | pdTxctl (m : Master) (p : Port) (v : Word)
  | releaseRxBuffer (m : Master) (p : Port)
  -- PD timers
  | fwResponseTimeout (p : Port)
  | chunkTimeout (p : Port)
  | softResetAcceptTimeout (p : Port)
  | sinkTxWaitExpiry (p : Port)
  | sourceCapRepeat (p : Port)
  | snkSelTimeout (p : Port)
  | sinkRequestRetry (p : Port)
  | psTransitionTimeout (p : Port)
  | ppsTimeout (p : Port)
  | sourceEprKeepaliveTimeout (p : Port)
  | sinkEprKeepaliveSend (p : Port)
  | discoverIdentityRetry (p : Port)
  | hrSourceOff (p : Port)
  | hrVsafe0vReached (p : Port)
  | hrRecoveryEnd (p : Port)
  | hrSinkGraceEnd (p : Port)
  | sinkWaitCapTimeout (p : Port)
  | srcTransitionStart (p : Port)
  | transitionSettled (p : Port) (mv : Nat)
  | transitionTimeLimit (p : Port)
  | prSwapSourceOff (p : Port)
  | prSwapVsafe0v (p : Port)
  | prSwapTimeout (p : Port)
  | vconnSwapTimeout (p : Port)
  | frSwapTimeout (p : Port)
  | linkUpTimer (p : Port) (idleMark : Bool)
  -- power path
  | guardMet (p : Port)
  | guardTimeout (p : Port)
  | gateRampEnd (p : Port)
  | swObsRise (p : Port)
  | stallTimeout (p : Port)
  | gateStall (p : Port)
  | powerGoodAssert (p : Port) (mv : Nat)
  | vbusWindowExit (p : Port) (mv : Nat)
  | ilimEnter (p : Port)
  | ilimExit (p : Port)
  | faultTimerExpiry (p : Port) (drop20mV : Nat)
  | faultTimerClear (p : Port)
  | retryOffTimeExpiry (p : Port)
  | retryCountReload (p : Port)
  | leak (p : Port) (k : LeakKind)
  | dischargeEnd (p : Port)
  | ppBusWrite (m : Master) (p : Port) (bus : Bus)
  | auxEnableWrite (m : Master) (en : Bool)
  -- feeds
  | reverseBlock (p : Port)
  | feedLost (b : Bus) (code : BitVec 3)
  | feedChangeoverMake (b : Bus)
  | feedReturn (b : Bus) (code : BitVec 3)
  | busLost (b : Bus)
  | shareEqualise (b : Bus) (droop1 droop2 : Nat) (lim : Bool)
  | feedCfgWrite (m : Master) (b : Bus) (v : Word)
  -- converters and PWM
  | cvStartRampEnd (c : Conv) (mv : Nat)
  | cvStartTimeout (c : Conv)
  | cvPeakTrip (c : Conv)
  | cvUndervoltageTrip (c : Conv)
  | pwmPeriodBoundary (ch : PwmChan)
  | gpwmPerWrite (m : Master) (second : Bool) (v : Word)
  | gpwmDutyWrite (m : Master) (second : Bool) (v : Word)
  | gpwmCtlWrite (m : Master) (v : Word)
  -- battery
  | chargeStart
  | prechargeComplete (mv : Nat)
  | chargeCvEntry (mv : Nat)
  | storeSocReached
  | cvTermination
  | prechargeTimeout
  | chargeTimeout
  | batteryRemovalEdge
  | batteryRemovalConfirm
  | batteryInserted (mv : Nat)
  | batteryQualified
  | batteryDepleted
  | batteryRecovered
  | batteryOvervoltageFault
  | batteryDeepDischarge (mv : Nat)
  | ntcFault (tC : Int)
  | bandChange (band : BitVec 3)
  | gaugeSample (mA : Int)
  | restCorrection (packMv : Nat)
  | lockout
  | lockoutRelease
  -- window monitors
  | wmComparatorEdge (k : Fin 32) (high rising : Bool) (level : Int)
  | sampledMonitorSample (k : Fin 32) (hi lo : Bool) (level : Int)
  | wmSettleEnd (k : Fin 32) (hi lo : Bool) (level : Int)
  | wmThresholdWrite (m : Master) (k : Fin 32) (v : Word)
  | wmCfgWrite (m : Master) (k : Fin 32) (v : Word)
  -- ADC
  | adcStart (m : Master)
  | adcStop (m : Master)
  | adcResult (code : BitVec 12) (rail : Bool) (level : Int)
  | adcFifoRead (m : Master)
  | adcSeqWrite (m : Master) (n : Fin 8) (v : Word)
  -- faults; the unit is 0-3 facet, 4 hub, 5 system
  | faultWindowClose (u : Fin 6) (src : Byte)
  | fltAck (m : Master) (u : Fin 6) (v : Word)
  | fltHistRead (m : Master) (u : Fin 6)
  | fltSenWrite (m : Master) (u : Fin 6) (n : Fin 3) (v : Word)
  | busCapAck (m : Master) (v : Word)
  -- service port
  | svcStart
  | svcIndexBytes (idx : Half)
  | svcWordWrite (v : Word)
  | svcWordRead (corrected uncorrectable : Bool)
  | svcStop (bytes : Fin 4) (again : Bool)
  | svcBusTimeout
  | ctlGo (m : Master) (v : Word)
  | svcCArbitrationLost (byte : BitVec 5) (bit : BitVec 4) (ownAddress : Bool) (rd : List Byte)
  | svcCRetry
  | svcCDone (r : CtlEnd) (bytes : BitVec 5) (rd : List Byte)
  -- chain link
  | linkCharacterRx (p : Port) (data : Byte) (mark framing noise brk : Bool)
  | linkFalseStart (p : Port)
  | linkTxStart (p : Port)
  | linkCharacterTx (p : Port)
  | linkCollision (p : Port)
  | linkIdleTimeout (p : Port)
  | sbuOvervoltage (p : Port)
  | sbuReconnect (p : Port)
  | linkRingWrite (m : Master) (p : Port) (tx : Bool) (v : Word)
  -- GPIO and VIO
  | gpioEdge (n : Fin 4) (level : Bool)
  | gpioCfgWrite (m : Master) (n : Fin 4) (v : Word)
  | vioOvercurrent
  | vioCfgWrite (m : Master) (v : Word)
  -- any other register, and events the table lists last
  | registerWrite (m : Master) (idx : Half) (v : Word)
  | vbusVsafe0vCrossing (p : Port) (below : Bool)
  | overvoltageClampRelease (b : Option Bus)
  | reverseBlockRelease (p : Port)
  | ccOvervoltageClear (p : Port) (pin : CcPin)
  | linkBreakRearm (p : Port)
  | clockStop
  | hardResetSignallingEnd (p : Port)
  | offApplyVerifyEnd (u : Port) (v : Verify)
  | svcCBusFree
  | getSourceInfoRx (p : Port) (m : PdMsg)
deriving DecidableEq, Repr

end Sys2Proof
end

