-- ==== Sys2Proof/Config.lean ====
section
/-! DEFINITION. What the manual leaves to the die or to mathematics outside it: the constants Riorette's test writes,
the cryptographic functions the manual names by standard, and the entropy source. Each is opaque: no proof can see a
value, so a claim holds whatever it is. -/
namespace Sys2Proof

/-- SHA-256 of a byte string (R427), its first byte in bits 7:0. UNVERIFIED against FIPS 180-4, safe: log entry 5. -/
opaque Config.sha256 : List Byte → BitVec 256

/-- ECDSA P-256 verification (R78, R427): public key x ‖ y, digest, r, s. Log entry 5. -/
opaque Config.ecdsaVerify : List Byte → BitVec 256 → BitVec 256 → BitVec 256 → Bool

/-- ECDSA P-256 signature r ‖ s with a private key over a digest and a nonce of the entropy source (R427). Log entry 5. -/
opaque Config.ecdsaSign : BitVec 256 → BitVec 256 → BitVec 32 → BitVec 512

/-- The public key x ‖ y of a private key (R430). Log entry 5. -/
opaque Config.p256Public : BitVec 256 → BitVec 512

/-- A certificate of a partner's chain as X.509 v3 in DER gives it (R455): its bytes, whether it is a version 3 certificate with an
ECDSA P-256 key and an ECDSA with SHA-256 signature, its public key x ‖ y, the bytes signed, and the signature. -/
structure Cert where
  der : List Byte
  ok  : Bool
  key : List Byte
  tbs : List Byte
  r   : BitVec 256
  s   : BitVec 256

/-- The first certificate of a byte string, `none` where there is none: X.509 is the standard's, log entry 5. -/
opaque Config.firstCert : List Byte → Option Cert

/-- AES-128-CMAC under a key (R450). Log entry 5. -/
opaque Config.cmac : BitVec 128 → List Byte → BitVec 128

/-- The n-th conditioned word of the entropy source (R427): a free value, log entry 6. -/
opaque Config.rng : Nat → BitVec 32

/-- A byte of a page whose erase or program failed verification, for the n-th draw: a free value, log entry 15. -/
opaque Config.failedByte : Nat → BitVec 8

/-- Which page of an area's erase fails verification, for the n-th draw: a free value, log entry 15. -/
opaque Config.failedPage : Nat → Nat

/-- Highest erase count of the Onyx region, whose pages are Onyx's own, for the n-th draw: a free value, log entry 15. -/
opaque Config.onyxWear : Nat → BitVec 20

/-- Where a CC comparator of a port's pin stands, in mV (R174): the manual bounds each threshold and leaves its place within
the bounds to the die: port 0 to 3, `CC2` or `CC1`, boundary 0 to 9 in the order of the table. Log entry 66. -/
opaque Config.ccThreshold : Nat → Bool → Nat → Nat

/-- The duty a converter's loop gives leg `LEG0` to `LEG3` in its n-th PWM period, in 1/32 `CLK` periods (R324): the loop is
analogue in its inputs and the manual gives no law for it: a free value, log entry 65. -/
opaque Config.legDuty : Nat → Nat → Nat

/-- `mtval` of an exception (number, address or instruction concerned): the RISC-V privileged architecture lets a core give
either 0 or that word, and the manual does not say: a free value, log entry 36. -/
opaque Config.lapMtval : Nat → BitVec 32 → BitVec 32

/-- `GLB_TRACE0`, constant of the die (R505), log entry 8. -/
opaque Config.trace0 : BitVec 32
/-- `GLB_TRACE1`, constant of the die (R505), log entry 8. -/
opaque Config.trace1 : BitVec 24
/-- `GLB_CLK_STAT.TRIM`, constant of the die (R505), log entry 8. -/
opaque Config.trim : BitVec 8
/-- Delay-line taps per `CLK` period that a calibration in a given cycle finds, `H_PWM_STAT.DL_TAPS` (R324, R335), log entry 8. -/
opaque Config.dlTaps : Nat → BitVec 8
/-- Factory switch on-resistance of each port in 0.1 mΩ (`GLB_LDG_RONx.BASE`), log entry 8. -/
opaque Config.ronBase : Fin 4 → BitVec 12

end Sys2Proof
end

