-- ==== Sys2Proof/Machine/Bits.lean ====
section
/-! DEFINITION. Bit-field, byte-order and list helpers of the machine: fields of a register word, little-endian byte
strings (R4), saturating counters, and the facet and queue numbers of the tables. -/
namespace Sys2Proof

/-! ### Elements of the small containers -/

def Four.get {α : Type} (f : Four α) : Port → α
  | .a => f.a | .b => f.b | .c => f.c | .d => f.d

def Four.set {α : Type} (f : Four α) (p : Port) (x : α) : Four α :=
  match p with
  | .a => { f with a := x } | .b => { f with b := x } | .c => { f with c := x } | .d => { f with d := x }

def Three.get {α : Type} (f : Three α) : Sop → α
  | .sop => f.sop | .sopP => f.sopP | .sopPP => f.sopPP

def Three.set {α : Type} (f : Three α) (p : Sop) (x : α) : Three α :=
  match p with
  | .sop => { f with sop := x } | .sopP => { f with sopP := x } | .sopPP => { f with sopPP := x }

end Sys2Proof

namespace Sys2Proof.Machine

/-- Field of `n` bits from bit `lo` of a word, as a number. -/
def fld (w : Word) (lo n : Nat) : Nat := (w.toNat >>> lo) % 2 ^ n

/-- Bit `k` of a word. -/
def bitAt (w : Word) (k : Nat) : Bool := w.getLsbD k

/-- The number `v` placed from bit `lo` of a word. -/
def fw (lo : Nat) (v : Nat) : Word := BitVec.ofNat 32 (v <<< lo)

/-- A flag placed at bit `k`. -/
def flag (k : Nat) (b : Bool) : Word := if b then BitVec.ofNat 32 (1 <<< k) else 0

/-- `w` with its `n`-bit field from bit `lo` replaced by `v`. -/
def withFld (w : Word) (lo n : Nat) (v : Nat) : Word :=
  (w &&& ~~~ (fw lo (2 ^ n - 1))) ||| fw lo (v % 2 ^ n)

/-- A signed value in `n` bits (two's complement), as the number those bits hold. -/
def sfld (n : Nat) (x : Int) : Nat := (BitVec.ofInt n x).toNat

/-- `x + 1` that stops at `top`. -/
def satInc (top x : Nat) : Nat := if x < top then x + 1 else top

/-- `x + k` that stops at `top`. -/
def satAdd (top x k : Nat) : Nat := min top (x + k)

def minI (a b : Int) : Int := if a ≤ b then a else b
def maxI (a b : Int) : Int := if a ≤ b then b else a

/-- The `n` lowest-order bytes of a number, lowest first. -/
def leBytes : Nat → Nat → List Byte
  | 0, _ => []
  | n + 1, x => BitVec.ofNat 8 x :: leBytes n (x / 256)

/-- The number a little-endian byte string spells. -/
def leNat : List Byte → Nat
  | [] => 0
  | b :: bs => b.toNat + 256 * leNat bs

/-- Words as the bytes they occupy, lowest-addressed first. -/
def wordBytes : List Word → List Byte
  | [] => []
  | w :: ws => leBytes 4 w.toNat ++ wordBytes ws

/-- `n` words from a byte string. -/
def byteWords : Nat → List Byte → List Word
  | 0, _ => []
  | n + 1, bs => BitVec.ofNat 32 (leNat (bs.take 4)) :: byteWords n (bs.drop 4)

/-- `n` bytes at offset `o` of a byte string, absent bytes as 0. -/
def slice (bs : List Byte) (o n : Nat) : List Byte :=
  let t := (bs.drop o).take n
  t ++ List.replicate (n - t.length) 0

/-- Little-endian field of `n` bytes at offset `o`. -/
def le (bs : List Byte) (o n : Nat) : Nat := leNat (slice bs o n)

/-- A list padded with `x` or cut to `n` elements. -/
def padTo {α : Type} (n : Nat) (x : α) (l : List α) : List α := l.take n ++ List.replicate (n - l.length) x

/-- Facet number 0 to 3. -/
def portNo : Port → Nat
  | .a => 0 | .b => 1 | .c => 2 | .d => 3

def portOf : Nat → Port
  | 0 => .a | 1 => .b | 2 => .c | _ => .d

def allPorts : List Port := [.a, .b, .c, .d]

/-- Master identifiers (table of R552). -/
def masterId : Master → Nat
  | .loader => 0 | .onyx => 1 | .lapidary => 2 | .service => 3 | .link p => 4 + portNo p

/-- The master a command's result names (R554): 2 for a mailbox. -/
def srcMaster : Src → Master
  | .direct m => m
  | .mailbox => .lapidary

end Sys2Proof.Machine
end

