-- ==== Sys2Proof/Machine/Sparse.lean ====
section
/-! DEFINITION. Sparse storage by address: a list of (address, value) pairs in one canonical form, addresses strictly
rising and no entry equal to what an unlisted address reads as. Registers, NVM and Lapidary SRAM are held so. -/
namespace Sys2Proof.Machine

variable {α : Type} [DecidableEq α]

/-- What address `k` reads as; an unlisted address reads as `d k`. -/
def spGet (d : Nat → α) : List (Nat × α) → Nat → α
  | [], k => d k
  | (j, v) :: l, k => if k = j then v else if k < j then d k else spGet d l k

/-- Store `v` at `k`: a value equal to what an unlisted address reads as leaves no entry. -/
def spPut (d : Nat → α) : List (Nat × α) → Nat → α → List (Nat × α)
  | [], k, v => if v = d k then [] else [(k, v)]
  | (j, w) :: l, k, v =>
    if k < j then (if v = d k then (j, w) :: l else (k, v) :: (j, w) :: l)
    else if k = j then (if v = d k then l else (k, v) :: l)
    else (j, w) :: spPut d l k v

/-- Every listed address is above `k`. -/
def spAbove (k : Nat) : List (Nat × α) → Bool
  | [] => true
  | (j, _) :: _ => decide (k < j)

/-- The canonical form holds. -/
def spWf (d : Nat → α) : List (Nat × α) → Bool
  | [] => true
  | (j, v) :: l => decide (v ≠ d j) && spAbove j l && spWf d l

/-- Store a run of values from address `k`. -/
def spPutAll (d : Nat → α) (l : List (Nat × α)) (k : Nat) : List α → List (Nat × α)
  | [] => l
  | v :: vs => spPutAll d (spPut d l k v) (k + 1) vs

/-- Let the addresses from `a` below `b` read as unlisted ones do. -/
def spClear (a b : Nat) (l : List (Nat × α)) : List (Nat × α) := l.filter fun e => decide (e.1 < a) || decide (b ≤ e.1)

/-- The `n` values from address `k`. -/
def spRun (d : Nat → α) (l : List (Nat × α)) (k : Nat) : Nat → List α
  | 0 => []
  | n + 1 => spGet d l k :: spRun d l (k + 1) n

end Sys2Proof.Machine
end

