-- ==== Sys2Proof/Machine/RegMap.lean ====
section
/-! DEFINITION. The register map: which word indices are registers (R501), the writable, write-one-to-clear,
write-one-to-set and read-to-clear bits of each (the access codes of R6), the reset words (R503), and the word
indices by the manual's names. Read-only bits are what the hardware holds and are computed in `Machine/RegRead.lean`. -/
namespace Sys2Proof.Machine

/-- A run of registers of one layout: `count` indices from `base`, `stride` apart, and the bits of each access code. -/
structure RegRow where
  base   : Nat
  count  : Nat
  stride : Nat
  rw     : Word
  w1c    : Word
  w1s    : Word
  rc     : Word
deriving DecidableEq, Repr

/-- The row holds index `i`. -/
def RegRow.holds (r : RegRow) (i : Nat) : Bool :=
  decide (r.base ≤ i) && decide ((i - r.base) % r.stride = 0) && decide ((i - r.base) / r.stride < r.count)

/-- Registers outside the facets and fault units: global, modes, loader (R505, R506, R113). -/
def regTable1 : List RegRow :=
  [ ⟨0x0000, 3, 1, 0, 0, 0, 0⟩, ⟨0x0003, 1, 1, 0, 0x100, 0, 0⟩, ⟨0x0004, 2, 1, 0, 0, 0, 0⟩
  , ⟨0x0006, 2, 1, 0xFFFFFFFF, 0, 0, 0⟩, ⟨0x0010, 1, 1, 0x3F, 0, 0, 0⟩, ⟨0x0011, 4, 1, 0, 0, 0, 0⟩
  , ⟨0x0018, 1, 1, 0, 0, 0, 0⟩, ⟨0x0019, 1, 1, 0x03FFFFFF, 0, 0, 0⟩, ⟨0x0020, 32, 1, 0, 0, 0, 0⟩
  , ⟨0x0100, 3, 1, 0, 0, 0, 0⟩, ⟨0x0103, 1, 1, 0xFFF, 0, 0, 0⟩, ⟨0x0104, 1, 1, 0, 0, 0, 0xFFF⟩
  , ⟨0x0105, 1, 1, 0xFFFF, 0, 0, 0⟩, ⟨0x0106, 2, 1, 0, 0, 0, 0⟩, ⟨0x0108, 1, 1, 0, 0x7F, 0, 0⟩
  , ⟨0x0109, 1, 1, 1, 4, 0, 0⟩, ⟨0x0200, 1, 1, 0, 0x70, 0, 0⟩, ⟨0x0201, 4, 1, 0, 0, 0, 0⟩
  , ⟨0x0205, 1, 1, 0x1F, 0, 0, 0⟩, ⟨0x0206, 7, 1, 0, 0, 0, 0⟩ ]

/-- Onyx, window monitors, ADC, fabric bus and NVM controller (R461, R365, R388, R516, R422). -/
def regTable2 : List RegRow :=
  [ ⟨0x0300, 1, 1, 0, 0xC00, 0, 0⟩, ⟨0x0301, 3, 1, 0, 0, 0, 0⟩, ⟨0x0304, 1, 1, 0, 0, 0, 0xFFFFFFFF⟩
  , ⟨0x0305, 1, 1, 0, 0, 0, 0⟩, ⟨0x0306, 1, 1, 0x3F, 0, 0, 0⟩, ⟨0x0307, 6, 1, 0, 0, 0, 0⟩
  , ⟨0x0310, 3, 1, 0, 0, 0, 0⟩, ⟨0x0313, 1, 1, 0x1FF, 0, 0, 0⟩, ⟨0x0314, 1, 1, 0, 0, 0, 0⟩
  , ⟨0x0315, 1, 1, 0xFFFFFFFF, 0, 0, 0⟩, ⟨0x0340, 64, 1, 0xFFFFFFFF, 0, 0, 0⟩
  , ⟨0x0400, 32, 4, 0x000F3800, 0, 0, 0⟩, ⟨0x0401, 32, 4, 0xFFFF, 0, 0, 0⟩, ⟨0x0402, 32, 4, 0, 0xF0, 0, 0⟩
  , ⟨0x0403, 32, 4, 0, 0, 0, 0⟩, ⟨0x0480, 4, 1, 0, 0, 0, 0⟩, ⟨0x0500, 1, 1, 3, 0, 0, 0⟩
  , ⟨0x0501, 1, 1, 0, 0, 0, 0⟩, ⟨0x0502, 1, 1, 0, 0xF, 0, 0⟩, ⟨0x0503, 1, 1, 0x7F1F, 0, 0, 0⟩
  , ⟨0x0504, 1, 1, 0, 0, 0, 0xFFFFFFFF⟩, ⟨0x0505, 2, 1, 0, 0, 0, 0⟩, ⟨0x0508, 8, 1, 0x83FF03FF, 0, 0, 0⟩
  , ⟨0x0600, 1, 1, 0x7F, 0, 0, 0⟩, ⟨0x0601, 3, 1, 0, 0, 0, 0⟩, ⟨0x0604, 1, 1, 0, 7, 0, 0⟩
  , ⟨0x0605, 1, 1, 0, 0, 0, 0xFFFF⟩, ⟨0x0650, 3, 4, 0, 0, 0, 0⟩, ⟨0x0651, 3, 4, 0, 0, 0, 0⟩
  , ⟨0x0652, 3, 4, 0, 0, 0, 0⟩, ⟨0x065C, 1, 1, 0, 0, 0, 0⟩ ]

/-- Lapidary, service port, GPIO and debug (R151, R469, R470). -/
def regTable3 : List RegRow :=
  [ ⟨0x0700, 1, 1, 0, 0x1F0004, 0, 0⟩, ⟨0x0701, 1, 1, 0x03FFFFFF, 0, 0, 0⟩, ⟨0x0702, 2, 1, 0, 0, 0, 0⟩
  , ⟨0x0704, 1, 1, 0, 0, 0, 0xFFFF⟩, ⟨0x0705, 1, 1, 0xFFFF, 0, 0x10000, 0⟩, ⟨0x0706, 1, 1, 0, 0, 0, 0⟩
  , ⟨0x0710, 8, 2, 0x07FFFFFF, 0x08000000, 0, 0⟩, ⟨0x0711, 8, 2, 0, 0, 0, 0⟩
  , ⟨0x0720, 5, 4, 0, 0, 0, 0xFFFFFFFF⟩, ⟨0x0721, 5, 4, 0, 0, 0, 0⟩, ⟨0x0722, 5, 4, 0, 0, 0, 0⟩
  , ⟨0x0723, 5, 4, 0x3F, 0, 0, 0⟩, ⟨0x0740, 10, 1, 0, 0, 0, 0⟩
  , ⟨0x2000, 1, 1, 0, 0, 0, 0⟩, ⟨0x2001, 1, 1, 0, 0x1FF, 0, 0⟩, ⟨0x2002, 1, 1, 0x1F, 0, 0, 0⟩
  , ⟨0x2003, 2, 1, 0, 0, 0, 0⟩, ⟨0x2008, 4, 1, 0xFFFFFFFF, 0, 0, 0⟩, ⟨0x2040, 4, 1, 0xFF, 0, 0, 0⟩
  , ⟨0x2044, 1, 1, 0, 0, 0, 0⟩, ⟨0x2045, 1, 1, 0, 0xF, 0, 0⟩, ⟨0x2100, 2, 1, 0, 0, 0, 0⟩
  , ⟨0x2102, 1, 1, 0xFFFFFFFF, 0, 0, 0⟩, ⟨0x2103, 1, 1, 0x1F, 0, 0, 0⟩, ⟨0x2104, 1, 1, 0xFFFFFFFF, 0, 0, 0⟩
  , ⟨0x2105, 1, 1, 0x7FFFC, 0, 0, 0⟩, ⟨0x2106, 1, 1, 0xFFFFFFFF, 0, 0, 0⟩ ]

/-- The hub facet (hub map of R501; R319, R329, R307, R361). -/
def regTableH : List RegRow :=
  [ ⟨0x0800, 3, 1, 0, 0, 0, 0⟩, ⟨0x0804, 1, 1, 0, 0x7F, 0, 0⟩
  , ⟨0x0810, 2, 16, 0x00033F7F, 0, 0, 0⟩, ⟨0x0811, 2, 16, 0xFFF, 0, 0, 0⟩, ⟨0x0812, 2, 16, 0, 0, 0, 0⟩
  , ⟨0x0813, 2, 16, 0xFF, 0, 0, 0⟩, ⟨0x0814, 2, 16, 0, 0, 0, 0⟩, ⟨0x0815, 2, 16, 0xFFFFFFFF, 0, 0, 0⟩
  , ⟨0x0816, 2, 16, 0, 0, 0, 0⟩, ⟨0x0817, 2, 16, 0, 0, 0, 0⟩, ⟨0x0818, 2, 16, 0, 0x3F, 0, 0⟩
  , ⟨0x0819, 2, 16, 0, 0, 0, 0xFFFF⟩
  , ⟨0x0840, 1, 1, 0xFF1F, 0, 0, 0⟩, ⟨0x0841, 2, 2, 0x7FFFF, 0, 0, 0⟩, ⟨0x0842, 2, 2, 0xFFFF, 0, 0, 0⟩
  , ⟨0x0845, 1, 1, 0, 0, 0, 0⟩, ⟨0x0880, 2, 1, 0x1FFFFFFF, 0, 0, 0⟩, ⟨0x0882, 2, 1, 0, 0, 0, 0⟩
  , ⟨0x0884, 1, 1, 0x00FF01FF, 0, 0, 0⟩, ⟨0x0885, 1, 1, 0, 0, 0, 0⟩
  , ⟨0x08C0, 1, 1, 0x0FFF1FFF, 0, 0, 0⟩
  , ⟨0x08C1, 1, 1, 0x1FF, 0, 0, 0⟩, ⟨0x08C2, 1, 1, 0, 0, 0, 0⟩, ⟨0x08C3, 1, 1, 0x7F, 0, 0, 0⟩
  , ⟨0x08C4, 1, 1, 0, 0, 0, 0⟩, ⟨0x08C5, 1, 1, 0xFF, 0, 0, 0⟩, ⟨0x08C6, 1, 1, 0, 0, 0, 0⟩
  , ⟨0x08C7, 2, 1, 0xFFFFFFFF, 0, 0, 0⟩, ⟨0x08C9, 6, 1, 0, 0, 0, 0⟩, ⟨0x08CF, 1, 1, 0, 0x3FF, 0, 0⟩
  , ⟨0x08E0, 11, 1, 0x1FF, 0, 0, 0⟩, ⟨0x0F00, 3, 1, 0, 0, 0, 0⟩ ]

/-- The facet template, by offset from the facet's base (R178, R230, R266, R307, R497, R143). -/
def regTableF : List RegRow :=
  [ ⟨0x000, 3, 1, 0, 0, 0, 0⟩, ⟨0x004, 1, 1, 0, 1, 0, 0⟩, ⟨0x040, 1, 1, 0x007F7F07, 0, 0, 0⟩
  , ⟨0x041, 1, 1, 0, 0, 0, 0⟩, ⟨0x042, 1, 1, 0, 0xFF, 0, 0⟩, ⟨0x043, 1, 1, 0, 0, 0, 0⟩
  , ⟨0x080, 1, 1, 0xF, 0, 0, 0⟩, ⟨0x081, 1, 1, 0, 0, 0, 0⟩, ⟨0x082, 1, 1, 0, 0x1FFF, 0, 0⟩
  , ⟨0x083, 1, 1, 0, 0, 0, 0xFFFFFFFF⟩, ⟨0x084, 3, 1, 0, 0, 0, 0⟩, ⟨0x088, 8, 1, 0xFFFFFFFF, 0, 0, 0⟩
  , ⟨0x090, 8, 1, 0, 0, 0, 0⟩, ⟨0x100, 1, 1, 0x3FF, 0, 0, 0⟩, ⟨0x101, 3, 1, 0, 0, 0, 0⟩
  , ⟨0x104, 1, 1, 0x003F01FF, 0, 0, 0⟩, ⟨0x105, 2, 1, 0, 0, 0, 0⟩, ⟨0x107, 1, 1, 0, 0x3F, 0, 0⟩
  , ⟨0x108, 7, 1, 0, 0, 0, 0⟩, ⟨0x140, 1, 1, 0, 0, 0, 0⟩, ⟨0x141, 1, 1, 0x7F, 0, 0, 0⟩
  , ⟨0x142, 1, 1, 0x3FFFFFFF, 0, 0, 0⟩, ⟨0x143, 2, 1, 0, 0, 0, 0⟩, ⟨0x145, 1, 1, 0, 0x7FF, 0, 0⟩
  , ⟨0x146, 1, 1, 0, 0, 0, 0xFFFFFFFF⟩, ⟨0x200, 1, 1, 0xFFFD, 0, 0, 0⟩, ⟨0x201, 1, 1, 0, 0, 0, 0⟩
  , ⟨0x202, 1, 1, 0, 0x7F, 0, 0⟩, ⟨0x203, 1, 1, 0xFFF7FFFE, 0, 0, 0⟩, ⟨0x204, 1, 1, 0x0FFF0000, 0, 0, 0⟩
  , ⟨0x205, 1, 1, 0xFFF7FFFE, 0, 0, 0⟩, ⟨0x206, 1, 1, 0x0FFF0000, 0, 0, 0⟩, ⟨0x207, 1, 1, 0, 0, 0, 0xFFFFFFFF⟩
  , ⟨0x300, 4, 1, 0, 0, 0, 0⟩ ]

/-- A fault unit's registers by offset from its base (R421); the enable bits that exist come from `senMask`. -/
def regTableU : List RegRow :=
  [ ⟨0x0, 1, 1, 0, 0x80000, 0, 0⟩, ⟨0x1, 1, 1, 0, 0, 0, 0⟩, ⟨0x2, 1, 1, 0xFFFF, 0, 0, 0⟩, ⟨0x3, 1, 1, 0xFF, 0, 0, 0⟩
  , ⟨0x4, 2, 1, 0, 0, 0, 0⟩, ⟨0x6, 1, 1, 0, 0, 0, 0xFFFFFFFF⟩, ⟨0x7, 2, 1, 0, 0, 0, 0⟩
  , ⟨0x9, 1, 1, 0, 0, 0, 0x00FFFFFF⟩, ⟨0xB, 2, 1, 0xFFFFFFFF, 0, 0, 0⟩, ⟨0xD, 1, 1, 0, 0, 0, 0⟩ ]

/-- Base word index of a fault unit (R402). -/
def unitBase : Nat → Nat
  | 0 => 0x11C0 | 1 => 0x15C0 | 2 => 0x19C0 | 3 => 0x1DC0 | 4 => 0x09C0 | _ => 0x0640

/-- The source numbers 0x00 to 0x1F that exist in a unit, as `x_FLT_SEN0` bits (R404). -/
def sen0Exists (u : Nat) : Word := if u < 4 then 0x0003FFFE else if u = 4 then 0x0FFF3E3E else 0x00000FFE

/-- The bits of `x_FLT_SEN0` that a write changes: sources 0x0501 and 0x0502 keep their enables (R411). -/
def sen0Writable (u : Nat) : Word := if u = 5 then 0x00000FF8 else sen0Exists u

/-- Fault unit and offset of a word index, if it lies in a unit's block (R402). -/
def unitOf (i : Nat) : Option (Nat × Nat) :=
  if 0x0640 ≤ i ∧ i ≤ 0x064D then some (5, i - 0x0640)
  else if 0x09C0 ≤ i ∧ i ≤ 0x09CD then some (4, i - 0x09C0)
  else if 0x1000 ≤ i ∧ i < 0x2000 ∧ 0x1C0 ≤ i % 0x400 ∧ i % 0x400 ≤ 0x1CD then
    some ((i - 0x1000) / 0x400, i % 0x400 - 0x1C0)
  else none

def findRow (i : Nat) : List RegRow → Option RegRow
  | [] => none
  | r :: rs => if r.holds i then some r else findRow i rs

/-- The row of a word index below the NVM window; `none` where no register is (R17, R501). -/
def regRow (i : Nat) : Option RegRow :=
  match unitOf i with
  | some (u, 0xA) => some ⟨i, 1, 1, sen0Writable u, 0, 0, 0⟩
  | some (_, o) => findRow o regTableU
  | none =>
    if 0x1000 ≤ i ∧ i < 0x2000 then findRow (i % 0x400) regTableF
    else if 0x0800 ≤ i ∧ i < 0x1000 then findRow i regTableH
    else if i < 0x0300 then findRow i regTable1
    else if i < 0x0700 then findRow i regTable2
    else findRow i regTable3

/-- Open-circuit voltages of R352 in 10 mV, Li-ion and LiFePO₄. -/
def ocvLiIon : List Nat := [330, 355, 362, 368, 373, 379, 386, 394, 402, 410, 418]
def ocvLfp : List Nat := [280, 320, 325, 328, 330, 331, 332, 333, 334, 336, 345]

/-- Reset words of a facet's registers by offset (R503). -/
def resetWordF (o : Nat) : Word :=
  match o with
  | 0x040 => 0x00284B04 | 0x041 => 0x000807E0 | 0x080 => 0x00000003 | 0x100 => 0x00000018 | 0x104 => 0x00020113
  | 0x140 => 0x00000014 | 0x141 => 0x00000014 | 0x142 => 0x00851814 | 0x143 => 0x00000020 | 0x1C2 => 0x0000FFFF
  | 0x1CA => 0x0003FFFE | 0x1CB => 0xFFFFFFFF | 0x1CC => 0xFFFFFFFF | 0x200 => 0x00001604
  | _ => 0

/-- Reset words of the hub's registers by offset from 0x0800 (R503). -/
def resetWordH (o : Nat) : Word :=
  if o = 0x10 ∨ o = 0x20 then 0x00000240
  else if o = 0x11 ∨ o = 0x12 ∨ o = 0x21 ∨ o = 0x22 then 0x000000FA
  else if o = 0x13 ∨ o = 0x14 ∨ o = 0x23 ∨ o = 0x24 then 0x00000078
  else if o = 0x15 ∨ o = 0x25 then 0x30303030
  else if o = 0x80 ∨ o = 0x81 then 0x00800015
  else if 0xE0 ≤ o ∧ o ≤ 0xEA then BitVec.ofNat 32 (ocvLiIon.getD (o - 0xE0) 0)
  else match o with
  | 0x84 => 0x000001E0 | 0xC0 => 0x02C61000 | 0xC1 => 0x0000019A | 0xC2 => 0x0000019A | 0xC3 => 0x00000014
  | 0xC4 => 0x00000014 | 0xC5 => 0x000000A0 | 0xC6 => 0x000000A0 | 0xC7 => 0x3C0A8D40 | 0xC8 => 0x00640000
  | 0xC9 => 0x000000C5 | 0xCC => 0x00006400 | 0x1C2 => 0x0000FFFF | 0x1CA => 0x0FFF3E3E | 0x1CB => 0xFFFFFFFF
  | 0x1CC => 0xFFFFFFFF
  | _ => 0

/-- The reset word of a register (R503): 0 where the table lists none. -/
def resetWord (i : Nat) : Word :=
  if 0x1000 ≤ i ∧ i < 0x2000 then resetWordF (i % 0x400)
  else if 0x0800 ≤ i ∧ i < 0x1000 then resetWordH (i - 0x0800)
  else if 0x0400 ≤ i ∧ i < 0x0480 then (if i % 4 = 1 then 0x0000FF00 else 0)
  else if 0x0508 ≤ i ∧ i ≤ 0x050F then 0x00010000
  else if 0x0720 ≤ i ∧ i ≤ 0x0733 then (if i % 4 = 3 then 1 else 0)
  else if 0x2040 ≤ i ∧ i ≤ 0x2043 then 0x00000004
  else match i with
  | 0x0000 => 0x00014680 | 0x0010 => 0x00000404 | 0x0100 => 0x0000C001 | 0x0105 => 0x000003E8 | 0x0200 => 0x00000001
  | 0x0300 => 0x000003C0 | 0x0313 => 0x00000100 | 0x0503 => 0x00000100 | 0x0642 => 0x0000FFFF | 0x064A => 0x00000FFE
  | 0x064B => 0xFFFFFFFF | 0x064C => 0xFFFFFFFF | 0x2000 => 0x0000003A | 0x2002 => 0x0000000D
  | _ => 0

/-- Word index of a facet's register from its offset (R5). -/
def fx (p : Port) (o : Nat) : Nat := 0x1000 + 0x400 * portNo p + o

end Sys2Proof.Machine
end

