-- ==== Sys2Proof/Machine/State.lean ====
section
/-! DEFINITION. The state of the KRL4680 block as plain data: every register, FIFO, queue, counter, mode and pin the
spec gives it, the fault and refusal reasons, and the state on entry to BOOT. Registers whose bits software writes,
flags, mirrors and measurements live in `regs` by word index; what the hardware decides for itself lives in the named
structures, and the reads of `Machine/RegRead.lean` put the two together. -/
namespace Sys2Proof.Machine

/-- The device modes (R50). -/
inductive Mode where
  | cold | boot | sentinel | standby | run | safe
deriving DecidableEq, Repr

/-- Port-facet states (table of `Fx_STATE.FSTATE`, R39). -/
inductive FState where
  | off | live | held | tripped | quarantined
deriving DecidableEq, Repr

/-- Type-C states (`Fx_CC_STAT.TCSTATE`, R195). -/
inductive TcState where
  | disabled | unattachedSnk | attachWaitSnk | attachedSnk | unattachedSrc | attachWaitSrc | attachedSrc
  | trySrc | tryWaitSnk | trySnk | tryWaitSrc | errorRecovery
deriving DecidableEq, Repr

/-- What both CC pins of a facet present (R61, R172); a pin carrying VCONN is shown by `Cc.vconnOn`. -/
inductive Term where
  | deadRd | rd | rp | hiZ
deriving DecidableEq, Repr

/-- `Fx_PP_STAT.SW_STATE` (R306). -/
inductive SwState where
  | open | guardWait | ramping | closed | regulating | armed | retryWait
deriving DecidableEq, Repr

/-- The discharge on the connector side (`DISCH`, R277). -/
inductive Disch where
  | off | bleeder | strong
deriving DecidableEq, Repr

/-- `Fx_RCFG_STAT.PHASE` (R143). -/
inductive Phase where
  | idle | preparing | ready | holding | applied | failed | rolledBack | aborted
deriving DecidableEq, Repr

/-- Area states of the loader (R107). -/
inductive AreaState where
  | unchecked | empty | writing | written | valid | invalid
deriving DecidableEq, Repr

/-- Converter states (`H_CVn_STAT.STATE`, R316). -/
inductive CvState where
  | off | standby | starting | regulating | tripped
deriving DecidableEq, Repr

/-- Battery states (R345). -/
inductive BatState where
  | absent | qualifying | present | depleted | fault | unconfigured
deriving DecidableEq, Repr

/-- Charge phases (R349). -/
inductive ChgPhase where
  | idle | precharge | cc | cv | done | suspended | timeout
deriving DecidableEq, Repr

/-- Lapidary's run state; clock gating follows from the mode (`LAP_STATUS.RUNSTATE`, R151). -/
inductive RunState where
  | reset | running | halted
deriving DecidableEq, Repr

/-- `Fx_PD_TXSTAT.STATE` (R231). -/
inductive TxStat where
  | idle | busy | done | failed
deriving DecidableEq, Repr

/-- Message classes of a PD message. -/
inductive MsgClass where
  | control | data | extended
deriving DecidableEq, Repr

/-- A message the facet sends (R202): the engine fills MessageID, revision and roles. -/
structure TxMsg where
  sop     : Sop
  cls     : MsgClass
  typ     : BitVec 5
  objs    : List Word
  /-- data size of an Extended message, and the chunk on the line (R210) -/
  len     : Nat
  chunk   : Nat
  /-- resends made (R205) -/
  resends : Nat
  /-- it initiates a sequence, so collision avoidance holds it back (R207, R208) -/
  init    : Bool
  /-- it came from the firmware buffer (R219) -/
  fw      : Bool
  /-- the header sent, filled when the message starts (R202) -/
  hdr     : Half
deriving DecidableEq, Repr

/-- A request: the object asked for and the voltage and current it means (R238, R242). -/
structure Req where
  pos  : Nat
  epr  : Bool
  pps  : Bool
  /-- voltage in mV -/
  mv   : Nat
  /-- current in 10 mA -/
  ma10 : Nat
  rdo  : Word
deriving DecidableEq, Repr

/-- Where a PR_Swap stands (R252). -/
inductive PrsPhase where
  | requested        -- PR_Swap sent, awaiting Accept
  | accepting        -- Accept sent, awaiting its GoodCRC
  | srcWait          -- old source: tSrcTransition runs
  | srcOff           -- old source: switch open, waiting for vSafe0V
  | srcPsRdy         -- old source, now sink: PS_RDY sent, waiting for the partner's
  | snkWait          -- old sink: switch open, waiting for PS_RDY
  | snkClosing       -- old sink, now source: close sequence runs
  | snkPsRdy         -- old sink, now source: PS_RDY sent
deriving DecidableEq, Repr

/-- Where a VCONN_Swap stands (R253). -/
inductive VcsPhase where
  | requested | accepting | turningOn | waitPsRdy
deriving DecidableEq, Repr

/-- Where an FR_Swap stands: as new source (R255), or as the old source that signals (R257). -/
inductive FrsPhase where
  | recognised | accepting | waitPsRdy | psRdySent | txSignalled
deriving DecidableEq, Repr

/-- Where EPR mode entry or exit stands (R247, R249). -/
inductive EprPhase where
  | srcEntering | srcSucceeded | snkEntering | exiting
deriving DecidableEq, Repr

/-- The VDM on SOP awaiting its response (R260, R262). -/
inductive VdmStep where
  | identity | svids | modes | enterMode | exitMode | ackEnter | ackExit
deriving DecidableEq, Repr

/-- The message sequence in progress on SOP (R124 condition 3 names those that are atomic). -/
inductive Seq where
  | none
  | srcOffer                 -- Source_Capabilities sent, awaiting a Request (R237)
  | srcAccepted (r : Req)    -- Accept sent to a Request, awaiting its GoodCRC
  | srcWait (r : Req)        -- tSrcTransition runs (R244)
  | srcRamp (r : Req)        -- the setpoint moves, VBUS to settle (R245)
  | srcReady (r : Req)       -- PS_RDY sent
  | snkSelect                -- Source_Capabilities received, SNK_SEL 2 waits for REQUEST (R241)
  | snkRequested (r : Req)
  | snkAccepted (r : Req)    -- waits tPSTransition for PS_RDY (R243)
  | snkRetry (r : Req)       -- tSinkRequest after Wait (R243)
  | prs (ph : PrsPhase)
  | drs (initiator : Bool)
  | vcs (ph : VcsPhase)
  | frs (ph : FrsPhase)
  | epr (ph : EprPhase)
  | vdm (st : VdmStep)
  | vdmBusy (st : VdmStep)   -- answered BUSY, to be asked again after tVDMBusy (R230)
  | auth
  | getSourceCap             -- Get_Source_Cap sent (R133, R265)
  | getSinkCap               -- Get_Sink_Cap sent (R257)
  | softReset                -- Soft_Reset sent, waits for Accept (R221)
deriving DecidableEq, Repr

/-- What the facet starts by itself once a contract stands and nothing else runs (R133, R249, R257, R258, R262, R264). -/
inductive StartStep where
  | getCaps | auth | epr | cable | link | sinkCap
deriving DecidableEq, Repr

/-- A Type-C Authentication exchange that Onyx runs as initiator (R264, R455): the request answered next (1 GET_DIGESTS,
2 GET_CERTIFICATE, 3 CHALLENGE), the certificate chain read so far, the CHALLENGE sent, and the result once it is known. -/
structure AuthX where
  stage  : Nat
  got    : List Byte
  chal   : List Byte
  result : Option AuthResult
deriving DecidableEq, Repr

/-- An Extended message being assembled (R210). -/
structure ChunkRx where
  typ  : BitVec 5
  size : Nat
  next : Nat
  got  : List Word
deriving DecidableEq, Repr

/-- PDO_TABLES (R95). -/
structure PdoTables where
  srcSpr : List Word
  srcEpr : List Word
  snkSpr : List Word
  snkEpr : List Word
deriving DecidableEq, Repr

/-- One SVID of VDM_TABLES with its mode VDOs (R96). -/
structure Svid where
  svid  : Half
  modes : List Word
deriving DecidableEq, Repr

/-- VDM_TABLES (R96). -/
structure VdmTables where
  ids   : List Word
  svids : List Svid
deriving DecidableEq, Repr

/-- The FACET section in force (R89) with its logic rules (R90). -/
structure FacetCfg where
  present : Bool
  role    : BitVec 2
  tryRole : BitVec 2
  auth    : Bool
  /-- sink operating current for a 5 V contract in mA, 0 selecting 500 -/
  snkOpMa : Nat
  rules   : List (BitVec 64)
deriving DecidableEq, Repr

/-- A facet's configuration bank (R520): its section, its tables and the writable registers of its range. -/
structure Bank where
  cfg  : FacetCfg
  pdo  : Option PdoTables
  vdm  : Option VdmTables
  regs : List (Nat × Word)
deriving DecidableEq, Repr

/-- The hub's configuration bank: grant priorities, PARALLEL (R91) and the writable registers of its range. -/
structure HubBank where
  prio     : Four Nat
  parallel : Bool
  regs     : List (Nat × Word)
deriving DecidableEq, Repr

/-- The CC timers and supervisor edges that move the attach state machine (R178). -/
inductive CcTimer where
  | ccDebounce | pdDebounce | tryCcDebounce | drpTry | drpTryWait | drpPhase | vbusGone | supply | errorRecovery
deriving DecidableEq, Repr

/-- A reconfiguration block (R143), for a port facet or for the hub. -/
structure Rcfg (β : Type) where
  phase    : Phase
  base     : Bool
  tables   : Bool
  /-- the staged contents hold PDO_TABLES (R133, R134) -/
  pdoTab   : Bool
  /-- `ROLLBACK` of the staged patch -/
  roll     : Nat
  err      : Byte
  abort    : BitVec 4
  refuse   : BitVec 4
  version  : Word
  /-- `BASE`, `TABLES` and `VERSION` of the contents last applied (R143) -/
  last     : Bool × Bool × Word
  holdUs   : Half
  /-- the shadow bank, once staged -/
  shadow   : Option β
  /-- register writes held during HOLDING (R521), newest last -/
  held     : List (Nat × Word)
  /-- cycle in which the hold began -/
  start    : Nat
  /-- the deferred message (R127) -/
  deferred : Option PdMsg
  /-- CC timers that ran out during the hold and take effect at release (R125) -/
  late     : List CcTimer
  /-- an OFF facet's RCFG_APPLY awaits the end of its verification (R137) -/
  offApply : Bool
deriving DecidableEq, Repr

/-- The CC physical layer and attach state of a facet. -/
structure Cc where
  tc        : TcState
  attached  : Bool
  /-- `ORIENT`: true for CC2 -/
  orient    : Bool
  /-- last stable classification of each pin (R195) -/
  lvl1      : BitVec 3
  lvl2      : BitVec 3
  /-- the pins' own voltages as last shown, mV -/
  pins      : Pins
  /-- a change the comparators have shown is not classified yet (R176) -/
  unheard   : Bool
  /-- the cycle until which the comparators are ignored after a packet (R176) -/
  quiet     : Nat
  term      : Term
  /-- `RP_OUT` (R182) -/
  rpOut     : BitVec 2
  partnerRp : BitVec 2
  ra        : Bool
  acc       : BitVec 2
  vconnOn   : Bool
  vconnOc   : Bool
  /-- the facet became VCONN source through VCONN_Swap (R185) -/
  vconnSwap : Bool
  /-- the non-terminated pin was left Hi-Z after a probe (R253) -/
  probed    : Bool
  ov1       : Bool
  ov2       : Bool
  /-- a CC over-voltage has lasted for tPDDebounce while attached (R190) -/
  ovLong    : Bool
  /-- tCCDebounce, tPDDebounce, tTryCCDebounce and tRpValueChange running (R177) -/
  ccDeb     : Bool
  pdDeb     : Bool
  tryDeb    : Bool
  rpDeb     : Bool
  /-- tDRPTry has expired in this Try state -/
  tryDone   : Bool
  /-- the debounced condition is stable and waits for VBUS or for tDRPTry (R178) -/
  stable    : Bool
  /-- the DRP toggle period and Rp share in force for this cycle, ms (R183) -/
  drpPeriod : Nat
  drpRpMs   : Nat
  /-- the boot port of a dead-battery BOOT acts as a sink whatever its `ROLE` until its first detach (R191) -/
  asSink    : Bool
deriving DecidableEq, Repr

/-- The PD protocol engine of a facet. -/
structure Pd where
  /-- 0 no PD partner yet, 1 Revision 2.0, 2 Revision 3.x -/
  rev       : BitVec 2
  partner   : Bool
  txId      : Three (BitVec 3)
  rxId      : Three (BitVec 3)
  /-- a message has been received on the ordered set since its MessageIDs were reset (R203, R204) -/
  rxSeen    : Three Bool
  inFlight  : Option TxMsg
  queue     : List TxMsg
  seq       : Seq
  /-- the cycle in which the wait for the partner's answer to the sequence ends (R230) -/
  seqDue    : Option Nat
  /-- Discover Identity awaits its answer on SOP′ or SOP″ (R258, R259), and the cycle in which that wait ends -/
  cable     : Option Sop
  cableDue  : Option Nat
  /-- Soft_Reset sent on SOP′ or SOP″ waits for Accept (R221) -/
  srCable   : Option Sop
  /-- Cable Resets sent (R228) -/
  cableRsts : Nat
  /-- the cycle in which a source that has sent Hard Reset gives up waiting for its partner (tNoResponse, R230) -/
  noResp    : Option Nat
  /-- the last GoodCRC started, with the MessageID it carried (R204) -/
  goodCrc   : Option (Sop × BitVec 3)
  /-- `HR_PHASE` (R224) -/
  hrPhase   : BitVec 2
  hrSink    : Bool
  hrCount   : BitVec 2
  /-- Hard Reset signalling ordered and not yet ended (R222) -/
  hrSending : Bool
  /-- the facet has stopped sending Hard Reset and runs without PD (R227) -/
  mute      : Bool
  bistCarrier : Bool
  bistData    : Bool
  chunkRx   : Option ChunkRx
  /-- a multi-chunk message whose next chunk waits for its request (R210) -/
  chunkTx   : Option TxMsg
  /-- waits for a firmware answer (R218) -/
  fwAwait   : Bool
  /-- the cycle until which a message answers the firmware's last one (R212), and whether that one asked for an answer -/
  fwDue     : Option Nat
  fwAsk     : Bool
  txStat    : TxStat
  rxSop     : Sop
  rxFull    : Bool
  /-- PD_EN in force: a write takes effect at the next detach while a contract stands -/
  pdEn      : Bool
  /-- the source holds Rp at SinkTxNG for a sequence of its own (R207) -/
  txNg      : Bool
  /-- the 18 ms of R207 run -/
  txWait    : Bool
  capsSent  : Nat
  /-- GoodCRC of an offer came (R237) -/
  capsAck   : Bool
  /-- BUSY answers of the cable counted, at nBusyCount where it has answered otherwise (R258, R259) -/
  busyCount : Nat
  /-- BUSY answers of the partner to the VDM in progress (R230) -/
  vdmTries  : Nat
deriving DecidableEq, Repr

/-- Contract, offers and roles of a facet. -/
structure Ct where
  contract   : Bool
  now        : Req
  epr        : Bool
  prole      : Bool
  drole      : Bool
  vconnSrc   : Bool
  /-- objects last offered, and the OFFER code (R236, R267) -/
  offer      : List Word
  offerCode  : BitVec 3
  /-- objects received in Source_Capabilities -/
  srcCaps    : List Word
  /-- objects received in Sink_Capabilities (R257) -/
  snkCaps    : List Word
  /-- grant and pending request in 0.5 W (R234) -/
  grant      : Nat
  pending    : Nat
  /-- cycle in which the pending request was registered (R38) -/
  pendAt     : Nat
  /-- new capabilities are owed once the grant and the sequence in progress allow them (R133, R235), and within 2 ms (R133) -/
  offerOwed  : Bool
  offerFast  : Bool
  /-- the request was refused with this headroom and is to be sized to it (R235) -/
  resize     : Option Nat
  /-- a voltage transition is in progress (`TRANS`, R246) -/
  trans      : Bool
  frsActive  : Bool
  partnerLink : Bool
  linkOn     : Bool
  /-- AUTH with ARG 0 was posted since attach (R265) -/
  authed     : Bool
  authRun    : Bool
  authX      : AuthX
  /-- what the facet is still to start by itself -/
  startup    : List StartStep
  /-- an explicit contract was made since attach -/
  hadContract : Bool
  /-- the boot port asks for 5 V only, until commanded otherwise (R58) -/
  only5v     : Bool
deriving DecidableEq, Repr

/-- The power path of a facet. -/
structure Pp where
  swCmd      : Bool
  swObs      : Bool
  sw         : SwState
  pg         : Bool
  ilimAct    : Bool
  disch      : Disch
  /-- VBUS is below vSafe0V, and has been for 10 ms (R272) -/
  below      : Bool
  guardOk    : Bool
  /-- RETRY recloses made since the count last reloaded (R285, R286) -/
  retryUsed  : Nat
  /-- 0 none, 1 fault timer, 2 safe operating area, 3 floor -/
  tripCause  : BitVec 2
  floorLatch : Bool
  /-- port current is at or above the floor threshold (release condition of R22) -/
  overFloor  : Bool
  leak       : Bool
  /-- the LEAK condition that is still present (R290, R291) -/
  leakNow    : Option LeakKind
  stall      : Bool
  revblk     : Bool
  selOpen    : Bool
  /-- the fault timer has counted and not returned to 0 (R281) -/
  timing     : Bool
  /-- the stall timer runs (R274) -/
  stallRun   : Bool
  /-- `CLK` cycles the fault timer has counted, but those since the cycle in which the port last entered regulation (R281) -/
  ftCount    : Nat
  ftSince    : Option Nat
  /-- the effective fault time of the last trip (R282), and the cycle of that trip, from which the off time runs (R285) -/
  ftLast     : Nat
  tripAt     : Nat
deriving DecidableEq, Repr

/-- The chain link of a facet. -/
structure Lk where
  linkUp   : Bool
  polInv   : Bool
  txActive : Bool
  rxActive : Bool
  txHalt   : Bool
  isolated : Bool
  /-- the receiver waits for one full mark bit after a BREAK (R487) -/
  brkWait  : Bool
  /-- LINK_RX was posted since the last write of RXRD (R493) -/
  posted   : Bool
  /-- the cycle in which the transceiver was connected (R479), and the entry of the character being sent (R492) -/
  connAt   : Nat
  txChar   : Half
deriving DecidableEq, Repr

/-- One port facet. -/
structure Facet where
  fstate   : FState
  /-- a quarantine ordered during a hold (R39) -/
  qPending : Bool
  epoch    : Byte
  /-- an epoch advance is pending, and the cycle of the last advance (R41) -/
  epPend   : Bool
  epLast   : Option Nat
  /-- the epoch advanced in the cycle in progress, and that one advance covers its further changes (R41) -/
  fresh    : Bool
  cfg      : FacetCfg
  pdo      : Option PdoTables
  vdm      : Option VdmTables
  cc       : Cc
  pd       : Pd
  ct       : Ct
  pp       : Pp
  lk       : Lk
  rc       : Rcfg Bank
  /-- envelope narrowing of ILIM is active (Fx_CLAMP bit 16, R169) -/
  clampIlim : Bool
  /-- a QUARANTINED record for this facet stands in NVM (R40) -/
  qRecord  : Bool
deriving DecidableEq, Repr

/-- What the two switches of a converter leg do: the high side and the low side conduct (R325). -/
structure LegSw where
  hi : Bool
  lo : Bool
deriving DecidableEq, Repr

/-- One converter. -/
structure Cv where
  st        : CvState
  /-- true in CHARGE -/
  charge    : Bool
  /-- the state a charge left (R316) -/
  before    : CvState
  peakLatch : Bool
  /-- consecutive PWM periods in which the floor peak limit acted, and whether it acted in this one (R318) -/
  peaks     : Nat
  acted     : Bool
  batlim    : Bool
  /-- regulating at `ILIM` (R309) -/
  cc        : Bool
  /-- available power at the last tick, 0.5 W (R314) -/
  avail     : Nat
  /-- the share loop's narrowing of the setpoint in force, 20 mV (R313) -/
  droop     : Nat
  /-- the battery-side legs are held off (R22, R357) -/
  legsOff   : Bool
  /-- the NBUS clamp holds the converter off (R22) -/
  clampOff  : Bool
  /-- the slewed setpoint when the effective `VSET` last changed, mV, and the cycle of that change (R310) -/
  slewMv    : Nat
  slewAt    : Nat
  /-- the cycle of the last start (R316, R318) -/
  startAt   : Nat
  /-- `CLK` cycles counted in the PWM period in progress; the model's own count of periods begun, which draws the loop's duty
  (log entry 65) -/
  cnt       : Nat
  periods   : Nat
  /-- levels of the battery-side and the bus-side leg that a stop of the generator holds (R171, R330) -/
  heldB     : LegSw
  heldO     : LegSw
deriving DecidableEq, Repr

/-- Feed combining on one node bus (R294 to R304). -/
structure FeedBus where
  /-- the `H_FEEDn_CFG` word in force (R307) -/
  cfg       : Word
  /-- codes of the feeds now supplying, of R295's list -/
  supplying : List (BitVec 3)
  /-- feeds lost and not yet available again (R294) -/
  lostFeeds : List (BitVec 3)
  gap       : Bool
  shareLim  : Bool
  lost      : Bool
  ovr       : Bool
  clamped   : Bool
deriving DecidableEq, Repr

/-- Battery, charger and gauge. -/
structure Bat where
  st         : BatState
  phase      : ChgPhase
  band       : BitVec 3
  ntcOk      : Bool
  inLim      : Bool
  full       : Bool
  gaugeValid : Bool
  deep       : Bool
  chgCv      : Conv
  /-- charge remaining in 0.1 µA · `CLK` cycle, `FCC` in mAh, equivalent full cycles, and charge discharged toward the
  next (R350, R356) -/
  qrem       : Nat
  fcc        : Nat
  cycles     : Nat
  drained    : Nat
  lastMa     : Int
  /-- SOC at the last rest correction, per mille, and charge counted in since (R355) -/
  lastRest   : Option Int
  counted    : Int
  /-- a new 2 s qualification must pass before charging resumes (R358) -/
  requalify  : Bool
  eolRaised  : Bool
  lockoutLatch : Bool
  clampLatch : Bool
  /-- a removal was recorded after the gauge record (R345) -/
  removedSince : Bool
  record     : Option (Nat × Nat × Nat)
  drain5mA   : Bool
  /-- consecutive ticks at which the pack was below its cut-off, above it by 0.10 V, and above 107 % of its charge voltage, at
  which the battery was absent, and at which the NTC reading was out of range (R340, R345) -/
  lowT       : Nat
  highT      : Nat
  ovT        : Nat
  goneT      : Nat
  ntcT       : Nat
  /-- the band of the last NTC reading, and the consecutive ticks it has had (R341) -/
  bandSeen   : BitVec 3
  bandT      : Nat
  /-- the cycle since which a pack has been valid (R345, R358) -/
  okSince    : Option Nat
  /-- the cycle since which the battery current has stayed within ±10 mA (R353) -/
  restSince  : Option Nat
  /-- the cycle in which the next gauge sample is due (R350) -/
  sampleAt   : Nat
  /-- the cycle since which the current in CV has been below the end current (R349) -/
  cvLow      : Option Nat
  /-- the cycle in which the charge phase in progress began, and the cycles of charging and of PRECHARGE before it (R349) -/
  chgSince   : Nat
  chgFor     : Nat
  preFor     : Nat
deriving DecidableEq, Repr

/-- The hub facet. -/
structure Hub where
  fstate   : FState
  epoch    : Byte
  epPend   : Bool
  epLast   : Option Nat
  fresh    : Bool
  prio     : Four Nat
  parallel : Bool
  cv1      : Cv
  cv2      : Cv
  feed1    : FeedBus
  feed2    : FeedBus
  /-- the `AUXIN` pair conducts -/
  auxOn    : Bool
  bat      : Bat
  rc       : Rcfg HubBank
  /-- ACTIVE flags of `H_CLAMP` bits 22:16 (R169) -/
  clamp    : BitVec 7
  frozen   : Bool
  /-- period boundary pending for a GPWM write (R328): PER held until DUTY -/
  per0     : Option Word
  per1     : Option Word
  /-- GPWM period, prescaler and duty in force, EN and COMP in force -/
  run0     : Word
  run1     : Word
  duty0    : Half
  duty1    : Half
  en0      : Bool
  en1      : Bool
  comp     : Bool
  /-- `CLK` cycles counted in the period in progress of each GPWM channel, and the outputs that a stop of the generator holds -/
  gcnt0    : Nat
  gcnt1    : Nat
  gheld    : Bool × Bool
  /-- converter periods in force (R323) -/
  period1  : Nat
  period2  : Nat
deriving DecidableEq, Repr

/-- One entry of a fault history (R413). -/
structure HistEntry where
  w0 : Word
  ts : Word
deriving DecidableEq, Repr

/-- An open counting window (R407). -/
structure Window where
  src   : Byte
  count : Nat
  left  : Nat
deriving DecidableEq, Repr

/-- One fault unit (R402, R421). -/
structure FltUnit where
  pend    : BitVec 16
  /-- pending level of class c in bits 2c+1:2c -/
  lvl     : Word
  seq     : Byte
  hist    : List HistEntry
  windows : List Window
deriving DecidableEq, Repr

/-- One source entry of FAULT_CLASSES (R93). -/
structure SrcEntry where
  id  : Half
  cls : BitVec 4
  lvl : BitVec 2
  n   : Nat
  w   : Nat
deriving DecidableEq, Repr

/-- FAULT_CLASSES in force; no reaction table before its commit (R419). -/
structure FltCfg where
  reactions : List Byte
  sources   : List SrcEntry
deriving DecidableEq, Repr

/-- The state of one NVM area (R107). -/
structure Area where
  st    : AreaState
  err   : Byte
  inUse : Bool
  /-- `ROLLBACK` of what is in use from this area (R103) -/
  roll  : Nat
deriving DecidableEq, Repr

/-- The six areas of one slot (R76). -/
structure SlotAreas where
  img   : Area
  cellA : Area
  cellB : Area
  cellC : Area
  cellD : Area
  cellH : Area
deriving DecidableEq, Repr

/-- The write session (R108): target, owner, words taken, page 0 and the page being filled. -/
structure Session where
  slot  : BitVec 2
  area  : BitVec 3
  owner : Master
  words : Nat
  page0 : List Byte
  page  : List Byte
  /-- a word was discarded under R112 -/
  ovr   : Bool
deriving DecidableEq, Repr

/-- A loader command that runs over time (R113). -/
inductive LdrOp where
  | erase | openWrite | closeWrite | verify | commit
deriving DecidableEq, Repr

/-- An accepted loader command with its target and its writer, or one that waits for a live patch (R142). -/
structure LdrCmd where
  op     : LdrOp
  slot   : BitVec 2
  area   : BitVec 3
  m      : Master
deriving DecidableEq, Repr

/-- The configuration loader. -/
structure Ldr where
  s0      : SlotAreas
  s1      : SlotAreas
  s2      : SlotAreas
  cmd     : Option LdrCmd
  /-- a command written while LOADER reads 3 waits for its end -/
  waiting : Option (Master × Word)
  session : Option Session
  /-- the reload of POLICY_CODE after a watchdog restart runs (R164) -/
  reload  : Bool
  booting : Bool
deriving DecidableEq, Repr

/-- The state of a key slot with its content (R430, R431). -/
inductive KeySlot where
  | empty
  | enabled (key : List Byte)
  | revoked
deriving DecidableEq, Repr

/-- The ten key slots by slot code (R440). -/
structure Keys where
  img0 : KeySlot
  img1 : KeySlot
  img2 : KeySlot
  img3 : KeySlot
  svc0 : KeySlot
  svc1 : KeySlot
  anc0 : KeySlot
  anc1 : KeySlot
  anc2 : KeySlot
  anc3 : KeySlot
deriving DecidableEq, Repr

/-- A grant (R441). -/
structure Grant where
  op     : Byte
  arg    : Byte
  master : Master
deriving DecidableEq, Repr

/-- The Onyx opcodes (R457). -/
inductive OnxOp where
  | challenge | tokenSubmit | lcAdvance | keyEnrol | keyRevoke | debugUnlock | ctrInc | ctrRaise | jrnWrite
  | jrnAttest | jrnVerify | idkGenerate | chainWrite | provision | release
deriving DecidableEq, Repr

/-- An accepted Onyx command that runs (R457). -/
structure OnxCmd where
  op  : OnxOp
  arg : Half
  m   : Master
deriving DecidableEq, Repr

/-- Onyx: keys, counters, authorisation, journal. -/
structure Onx where
  keys      : Keys
  /-- the 64 monotonic counters, those that read 0 left out, in rising order (R433) -/
  counters  : List (Nat × Nat)
  /-- the private key of `IDK`, never shown by any register (R427, R430) -/
  idk       : Option (BitVec 256)
  chain     : List Byte
  chainDone : Bool
  /-- the journal key `JK` (R430) -/
  jk        : Option (BitVec 128)
  nonce     : Option (List Byte)
  grant     : Option Grant
  rejects   : Nat
  lockout   : Bool
  owner     : Option Master
  cmd       : Option OnxCmd
  /-- commands written while one runs: master, opcode and `ARG`, oldest first -/
  waiting   : List (Master × Nat × Half)
  alarm     : Byte
  alarmLock : Bool
  rngOk     : Bool
  selfTest  : Bool
  dbgEn     : Bool
  /-- journal open; records written since PROVISION; the tag of the last; records since the last SEAL -/
  jrnOpen   : Bool
  jrnCount  : Nat
  jrnTag    : List Byte
  sinceSeal : Nat
  /-- `SEAL_N` as `LC_ADVANCE` to 2 locked it (R18, R459) -/
  sealLock  : Option Nat
  lastJrnWrite : Option Nat
  /-- the cycles in which the nonce was issued, the grant created, `CHALLENGE` locked out and the owner last had access (R439,
  R441, R442, R458) -/
  nonceAt   : Nat
  grantAt   : Nat
  lockAt    : Nat
  ownerAt   : Nat
  vfyDone   : Bool
  vfyOk     : Bool
  breaks    : Nat
deriving DecidableEq, Repr

/-- A queued or running operation of the NVM array (R515). -/
inductive NvmOp where
  | journal (rec : List Byte) (addr : Nat)
  | quarantine (p : Port) (set : Bool)
  | page (addr : Nat) (data : List Byte)
  | gauge
  | ledger
  /-- a `FLUSH` of a master, or none for the flush of SENTINEL entry (R513, R514) -/
  | flush (m : Option Master)
  | eraseUser (page : Nat) (m : Master)
  | scrub (block : Nat) (page : Nat)
deriving DecidableEq, Repr

/-- The ageing ledger's record (R546): its registers, and `EQH` in millionths of an hour (R544). -/
structure Ledger where
  regs : List (Nat × Word)
  eqh  : Nat
deriving DecidableEq, Repr

/-- The NVM controller. -/
structure Nvm where
  mem     : List (Nat × Byte)
  buf     : Option (Nat × List Byte)
  /-- operations pending or running, the running one first -/
  ops     : List NvmOp
  /-- blocks' retention age in millionths of an equivalent hour, blocks at 0 left out (R540) -/
  age     : List (Nat × Nat)
  /-- pages erased and programmed since their block's age last returned to 0 (R540) -/
  renewed : List Nat
  /-- pages that hold a word no read can correct (log entry 14) -/
  bad     : List Nat
  /-- scrub-buffer entries not marked done: page and contents (R541, R542) -/
  scrubBuf : List (Nat × List Byte)
  /-- blocks that have warned and have not been scrubbed since (R543) -/
  warned  : List Nat
  /-- erases of each page, pages at 0 left out (R544) -/
  erases  : List (Nat × Nat)
  /-- `EQH` as it stands, in millionths of an hour (R544) -/
  eqh     : Nat
  /-- the ledger record in NVM -/
  ledger  : Ledger
deriving DecidableEq, Repr

/-- A policy timer's running part (R162, R163). -/
structure Tmr where
  count : Nat
  /-- CLK cycles until the next µs unit -/
  pre   : Nat
deriving DecidableEq, Repr

/-- The machine-level CSRs of Lapidary (The core). -/
structure Csrs where
  mstatus  : Word
  misa     : Word
  mie      : Word
  mtvec    : Word
  mscratch : Word
  mepc     : Word
  mcause   : Word
  mtval    : Word
  mcycle   : BitVec 64
  minstret : BitVec 64
deriving DecidableEq, Repr

/-- The policy core: registers x1 to x31 in order, CSRs, SRAM and debug halt. -/
structure Lap where
  run      : RunState
  pc       : Word
  xs       : List Word
  csr      : Csrs
  sram     : List (Nat × Byte)
  /-- `DBG_STAT.CAUSE` (R470) -/
  dbgCause : BitVec 4
  entry    : Word
  wdCount  : Nat
  tmr0     : Tmr
  tmr1     : Tmr
  tmr2     : Tmr
  tmr3     : Tmr
  tmr4     : Tmr
  tmr5     : Tmr
  tmr6     : Tmr
  tmr7     : Tmr
deriving DecidableEq, Repr

/-- One event queue (R152 to R155), oldest entry first, and the latched word 1. -/
structure Evq where
  ents : List (Word × Word)
  w1   : Word
deriving DecidableEq, Repr

/-- A command mailbox's sequence count (R158). -/
structure Mbx where
  seq : BitVec 4
  res : Word
deriving DecidableEq, Repr

/-- One ADC FIFO entry (R396). -/
structure AdcEntry where
  w0 : Word
  w1 : Word
deriving DecidableEq, Repr

/-- The telemetry ADC's sequencer (R388 to R398). -/
structure Adc where
  running : Bool
  armed   : Bool
  mode    : BitVec 2
  step    : Nat
  left    : Nat
  /-- settings in force: channel, gain, filter -/
  chan    : BitVec 6
  gain    : BitVec 2
  filt    : BitVec 2
  last    : Bool
  /-- settle counters (R391) -/
  cStart  : Nat
  cChan   : Nat
  cGain   : Nat
  cFilt   : Nat
  fifo    : List AdcEntry
  w1      : Word
  /-- the cycle in which the result in progress ends (R385, R387) -/
  due     : Nat
deriving DecidableEq, Repr

/-- The sample window of the SAMPLED monitors: the cycle in which it ends, and the monitors it has still to latch (R374). -/
structure Mon where
  latchAt : Nat
  latches : Word
deriving DecidableEq, Repr

/-- The target side of the service port (R462 to R468): no START seen, a START seen, index loaded, words moving, or ignoring
the bus until the next START. -/
inductive SvcTx where
  | idle | started | index | data | dead
deriving DecidableEq, Repr

/-- The controller engine's state (R471 to R477). -/
inductive CtlState where
  | idle | waitBus | running | lost
deriving DecidableEq, Repr

/-- The service port. -/
structure Svc where
  addr     : BitVec 7
  ptr      : Half
  tx       : SvcTx
  /-- the word fetched for the read in progress (R466) -/
  fetched  : Option Word
  ctl      : CtlState
  ctlCmd   : Word
  attempts : BitVec 3
  /-- a START was seen and no STOP since (R471) -/
  busBusy  : Bool
deriving DecidableEq, Repr

/-- The four GPIO pins: levels the input buffers see, and pins released at SAFE entry (R564). -/
structure Gpio where
  level    : BitVec 4
  released : BitVec 4
deriving DecidableEq, Repr

/-- A wake or SENTINEL entry in progress (R63). -/
inductive SentEntry where
  | none | waitTick (m : Master) | calibrating (m : Master)
deriving DecidableEq, Repr

/-- An action that hardware owes within a few cycles: of a logic rule (R156) or of a fault reaction (R410). -/
inductive Act where
  | openSwitch (p : Port)
  | hardReset (p : Port)
  | quarantine (p : Port)
  | safe (unit : Nat) (cls : BitVec 4)
  | thermalSafe
  | ruleEvent (p : Port) (arg : Half)
  | gpio (pin : BitVec 2) (level : Bool)
  | ilim (p : Port) (ma : Nat)
  | abort (p : Port) (code : BitVec 4)
  | wake
  | frs (b : Bus)
deriving DecidableEq, Repr

/-- An event posted in the cycle in progress, for the queue of facet A to D or the hub (R154). -/
structure Post where
  q    : Nat
  code : Byte
  arg  : Half
  /-- word 1 of its entry, taken in the cycle of the event (R30, R152) -/
  ts   : Word
deriving DecidableEq, Repr

/-- Where a command that waits for its evaluation came from: `MODE_CMD` with its writer, or a unit's command register or
mailbox (R44, R52, R158). -/
inductive CmdTo where
  | mode (m : Master)
  | unit (u : Option Port) (src : Src)
deriving DecidableEq, Repr

/-- A command written and not yet evaluated (R554); `due` once the cycle of its write is over. -/
structure Await where
  who   : CmdTo
  op    : Nat
  epoch : Byte
  arg   : Nat
  due   : Bool
deriving DecidableEq, Repr

/-- A SENTINEL burst in progress (R67): its remaining cycles, the wake sources that have decided or joined, a wake whatever
`MODE_WAKE_EN` holds (R68), and the SAMPLED monitors not yet latched. -/
structure Burst where
  left   : Nat
  cause  : Word
  forced : Bool
  wms    : Word
deriving DecidableEq, Repr

/-- The whole block. -/
structure State where
  mode      : Mode
  /-- CLK cycles since entry to BOOT: TIME is its low 48 bits and the wrap count the rest (R27, R28) -/
  cycles    : Nat
  /-- cycle of the next tick boundary (R550) -/
  nextTick  : Nat
  /-- a `TICK_Q` written in the cycle of a boundary leaves this one to the boundary (R26) -/
  tickOld   : Option Nat
  clkStopped : Bool
  tmode     : Bool
  dbBoot    : Bool
  bootPort  : Port
  imgAuth   : Bool
  bow       : Bool
  bootSlot  : BitVec 2
  vbusOk    : Four Bool
  batOk     : Bool
  auxOk     : Bool
  tsd       : Bool
  sentEntry : SentEntry
  lastWake  : Nat
  wakes     : Nat
  /-- the burst in progress, in SENTINEL only -/
  burst     : Option Burst
  sense     : Sense
  regs      : List (Nat × Word)
  fa        : Facet
  fb        : Facet
  fc        : Facet
  fd        : Facet
  hub       : Hub
  flt0      : FltUnit
  flt1      : FltUnit
  flt2      : FltUnit
  flt3      : FltUnit
  flt4      : FltUnit
  flt5      : FltUnit
  fltCfg    : FltCfg
  ldr       : Ldr
  onx       : Onx
  nvm       : Nvm
  lap       : Lap
  q0        : Evq
  q1        : Evq
  q2        : Evq
  q3        : Evq
  q4        : Evq
  m0        : Mbx
  m1        : Mbx
  m2        : Mbx
  m3        : Mbx
  m4        : Mbx
  adc       : Adc
  /-- `OUT_HI` and `OUT_LO` of monitor k in bit k, and which of its comparators settle (R366, R375) -/
  wmHi      : Word
  wmLo      : Word
  wmSetHi   : Word
  wmSetLo   : Word
  mon       : Mon
  svc       : Svc
  gpio      : Gpio
  /-- events posted in the cycle in progress and not yet in their queues; empty between steps -/
  posts     : List Post
  /-- hardware actions owed and not yet taken -/
  todo      : List Act
  /-- commands written and not yet evaluated, oldest first -/
  awaits    : List Await
  /-- the model's own: free values drawn so far -/
  draws     : Nat
  pending   : List Instr
deriving DecidableEq, Repr

/-- Why a step stops with a fault. No rule of the spec stops the whole block, so no meaning raises one: every command
and event the spec describes answers a next state. -/
inductive Fault where
  /-- Raised by nobody: safe, since a stop can hide no behaviour that is never reached. -/
  | never
deriving DecidableEq, Repr

/-- Why a step is refused. -/
inductive Refusal where
  /-- Raised by the dispatch alone for a row that has no meaning yet: safe, the model stops where the block goes on. -/
  | notModelled (mnemonic : String)
deriving DecidableEq, Repr

/-- A request that asks for nothing. -/
def Req.zero : Req := ⟨0, false, false, 0, 0, 0⟩

def Cc.reset : Cc :=
  { tc := .disabled, attached := false, orient := false, lvl1 := 7, lvl2 := 7, pins := ⟨0, 0⟩, unheard := false, quiet := 0, term := .deadRd, rpOut := 0, partnerRp := 0
    ra := false, acc := 0, vconnOn := false, vconnOc := false, vconnSwap := false, probed := false, ov1 := false, ov2 := false, ovLong := false
    ccDeb := false, pdDeb := false, tryDeb := false, rpDeb := false, tryDone := false, stable := false
    drpPeriod := 75, drpRpMs := 30, asSink := false }

def Pd.reset : Pd :=
  { rev := 0, partner := false, txId := .all 0, rxId := .all 0, rxSeen := .all false, inFlight := none, queue := [], seq := .none
    seqDue := none, cable := none, cableDue := none, srCable := none, cableRsts := 0, noResp := none
    goodCrc := none, hrPhase := 0, hrSink := false, hrCount := 0, hrSending := false, mute := false
    bistCarrier := false, bistData := false, chunkRx := none, chunkTx := none, fwAwait := false, fwDue := none, fwAsk := false, txStat := .idle, rxSop := .sop
    rxFull := false, pdEn := true, txNg := false, txWait := false, capsSent := 0, capsAck := false, busyCount := 0, vdmTries := 0 }

def AuthX.reset : AuthX := { stage := 0, got := [], chal := [], result := none }

def Ct.reset : Ct :=
  { contract := false, now := .zero, epr := false, prole := false, drole := false, vconnSrc := false, offer := []
    offerCode := 0, srcCaps := [], snkCaps := [], grant := 0, pending := 0, pendAt := 0, offerOwed := false, offerFast := false, resize := none, trans := false, frsActive := false
    partnerLink := false, linkOn := false, authed := false, authRun := false, authX := .reset, startup := [], hadContract := false, only5v := false }

def Pp.reset : Pp :=
  { swCmd := false, swObs := false, sw := .open, pg := false, ilimAct := false, disch := .bleeder, below := true
    guardOk := false, retryUsed := 0, tripCause := 0, floorLatch := false, overFloor := false, leak := false
    leakNow := none, stall := false, revblk := false, selOpen := false, timing := false, stallRun := false
    ftCount := 0, ftSince := none, ftLast := 0, tripAt := 0 }

def Lk.reset : Lk :=
  { linkUp := false, polInv := false, txActive := false, rxActive := false, txHalt := false, isolated := false
    brkWait := false, posted := false, connAt := 0, txChar := 0 }

def Rcfg.reset {β : Type} : Rcfg β :=
  { phase := .idle, base := false, tables := false, pdoTab := false, roll := 0, err := 0, abort := 0, refuse := 0, version := 0
    last := (false, false, 0), holdUs := 0
    shadow := none, held := [], start := 0, deferred := none, late := [], offApply := false }

/-- A facet with no section: absent, sink (R20). -/
def FacetCfg.reset : FacetCfg :=
  { present := false, role := 0, tryRole := 0, auth := false, snkOpMa := 0, rules := [] }

def Facet.reset : Facet :=
  { fstate := .off, qPending := false, epoch := 0, epPend := false, epLast := none, fresh := false, cfg := .reset, pdo := none
    vdm := none, cc := .reset, pd := .reset, ct := .reset, pp := .reset, lk := .reset, rc := .reset
    clampIlim := false, qRecord := false }

def Cv.reset : Cv :=
  { st := .off, charge := false, before := .off, peakLatch := false, peaks := 0, acted := false, batlim := false, cc := false, avail := 0
    droop := 0, legsOff := false, clampOff := false, slewMv := 5000, slewAt := 0, startAt := 0, cnt := 0, periods := 0, heldB := ⟨false, false⟩, heldO := ⟨false, false⟩ }

/-- Reset word of `H_FEEDn_CFG` (R503). -/
def FeedBus.reset : FeedBus :=
  { cfg := 0x00800015, supplying := [], lostFeeds := [], gap := false, shareLim := false, lost := false, ovr := false
    clamped := false }

def Bat.reset : Bat :=
  { st := .unconfigured, phase := .idle, band := 3, ntcOk := false, inLim := false, full := false, gaugeValid := false
    deep := false, chgCv := .cv1, qrem := 0, fcc := 0, cycles := 0, drained := 0, lastMa := 0, lastRest := none
    counted := 0, requalify := false, eolRaised := false, lockoutLatch := false, clampLatch := false
    removedSince := false, record := none, drain5mA := false, lowT := 0, highT := 0, ovT := 0, goneT := 0, ntcT := 0
    bandSeen := 3, bandT := 0, okSince := none, restSince := none, sampleAt := 0, cvLow := none, chgSince := 0, chgFor := 0, preFor := 0 }

def Hub.reset : Hub :=
  { fstate := .off, epoch := 0, epPend := false, epLast := none, fresh := false, prio := .all 0, parallel := false, cv1 := .reset
    cv2 := .reset, feed1 := .reset, feed2 := .reset, auxOn := false, bat := .reset, rc := .reset, clamp := 0
    frozen := false, per0 := none, per1 := none, run0 := 0, run1 := 0, duty0 := 0, duty1 := 0, en0 := false
    en1 := false, comp := false, gcnt0 := 0, gcnt1 := 0, gheld := (false, false), period1 := 64, period2 := 64 }

def FltUnit.reset : FltUnit := { pend := 0, lvl := 0, seq := 0, hist := [], windows := [] }
def FltCfg.reset : FltCfg := { reactions := [], sources := [] }
def Area.reset : Area := { st := .empty, err := 0, inUse := false, roll := 0 }
def SlotAreas.reset : SlotAreas := ⟨.reset, .reset, .reset, .reset, .reset, .reset⟩

def Ldr.reset : Ldr :=
  { s0 := .reset, s1 := .reset, s2 := .reset, cmd := none, waiting := none, session := none
    reload := false, booting := true }

def Keys.reset : Keys :=
  ⟨.empty, .empty, .empty, .empty, .empty, .empty, .empty, .empty, .empty, .empty⟩

/-- Onyx as a device leaves Riorette (R560), at entry to BOOT. -/
def Onx.reset : Onx :=
  { keys := .reset, counters := [], idk := none, chain := [], chainDone := false, jk := none, nonce := none
    grant := none, rejects := 0, lockout := false, owner := none, cmd := none, waiting := [], alarm := 0, alarmLock := false
    rngOk := false, selfTest := false, dbgEn := false, jrnOpen := false, jrnCount := 0
    jrnTag := List.replicate 16 0, sinceSeal := 0, sealLock := none, lastJrnWrite := none, nonceAt := 0
    grantAt := 0, lockAt := 0, ownerAt := 0, vfyDone := false, vfyOk := false, breaks := 0 }

/-- The ledger record of a new device: every margin 100 % and nothing counted (log entry 16). -/
def Ledger.reset : Ledger :=
  { regs := [(0x24, 0x64000000), (0x25, 0x64000000), (0x26, 0x64000000), (0x27, 0x64000000), (0x28, 0x00640000),
      (0x29, 0x06400000), (0x2A, 0x06400000), (0x2B, 0x06400000), (0x2C, 0x06400000), (0x2D, 0x64), (0x2E, 0x64)]
    eqh := 0 }

def Nvm.reset : Nvm :=
  { mem := [], buf := none, ops := [], age := [], renewed := [], bad := [], scrubBuf := [], warned := [], erases := [], eqh := 0
    ledger := .reset }
def Tmr.reset : Tmr := { count := 0, pre := 0 }

/-- CSRs at reset under the RISC-V privileged architecture: MIE 0, and MPP 3 as the only mode there is. -/
def Csrs.reset : Csrs :=
  { mstatus := 0x1800, misa := 0x40001104, mie := 0, mtvec := 0, mscratch := 0, mepc := 0, mcause := 0, mtval := 0
    mcycle := 0, minstret := 0 }

def Lap.reset : Lap :=
  { run := .reset, pc := 0x10000000, xs := List.replicate 31 0, csr := .reset, sram := [], dbgCause := 0
    entry := 0x10000000, wdCount := 0, tmr0 := .reset, tmr1 := .reset, tmr2 := .reset, tmr3 := .reset
    tmr4 := .reset, tmr5 := .reset, tmr6 := .reset, tmr7 := .reset }

def Evq.reset : Evq := { ents := [], w1 := 0 }
def Mbx.reset : Mbx := { seq := 0, res := 0 }

def Adc.reset : Adc :=
  { running := false, armed := false, mode := 0, step := 0, left := 0, chan := 0, gain := 0, filt := 0, last := false
    cStart := 0, cChan := 0, cGain := 0, cFilt := 0, fifo := [], w1 := 0, due := 0 }

def Svc.reset : Svc :=
  { addr := 0x3A, ptr := 0, tx := .idle, fetched := none, ctl := .idle, ctlCmd := 0, attempts := 0, busBusy := false }

def Gpio.reset : Gpio := { level := 0, released := 0 }

/-- Nothing sensed yet: 25 °C and no voltage anywhere. -/
def senseReset : Sense :=
  { tj := 25, vbus := .all 0, iport := .all 0, ivconn := .all 0, nbus1 := 0, nbus2 := 0, aux := 0, bat := 0, ibat := 0
    ntc := 25, iout1 := 0, iout2 := 0, ibat1 := 0, ibat2 := 0, absent := false
    gates := .all false, probe := .all false }

/-- The block on entry to BOOT of a device as it leaves Riorette: every register at its reset word (R9, R503), NVM
erased, keys empty, counters 0 (R560), no input seen yet and no command waiting. -/
def State.reset : State :=
  { mode := .boot, cycles := 0, nextTick := 96000, tickOld := none, clkStopped := false, tmode := false, dbBoot := false
    bootPort := .a, imgAuth := false, bow := false, bootSlot := 3, vbusOk := .all false
    batOk := false, auxOk := false, tsd := false, sentEntry := .none, lastWake := 0, wakes := 0, burst := none
    sense := senseReset
    regs := [], fa := .reset, fb := .reset, fc := .reset, fd := .reset, hub := .reset
    flt0 := .reset, flt1 := .reset, flt2 := .reset, flt3 := .reset, flt4 := .reset, flt5 := .reset
    fltCfg := .reset, ldr := .reset, onx := .reset, nvm := .reset, lap := .reset
    q0 := .reset, q1 := .reset, q2 := .reset, q3 := .reset, q4 := .reset
    m0 := .reset, m1 := .reset, m2 := .reset, m3 := .reset, m4 := .reset
    adc := .reset, wmHi := 0, wmLo := 0, wmSetHi := 0, wmSetLo := 0
    mon := { latchAt := 0, latches := 0 }, svc := .reset, gpio := .reset, posts := [], todo := [], awaits := []
    draws := 0, pending := [] }

end Sys2Proof.Machine
end

