-- ==== Sys2Proof/Machine/Ops.lean ====
section
/-! DEFINITION. The shared operations over the state: registers, facets and hub with their epochs (R41), time stamps,
events and logic rules (R152 to R157), fault events (R405 to R412), first-error captures (R414), the NVM operation
queue (R515) and journal records (R446 to R450). -/
namespace Sys2Proof.Machine

/-! ### Registers -/

/-- The word stored for a register. -/
def State.reg (s : State) (i : Nat) : Word := spGet resetWord s.regs i

def State.setReg (s : State) (i : Nat) (w : Word) : State := { s with regs := spPut resetWord s.regs i w }

/-- Set the bits of `m` in a register. -/
def State.orReg (s : State) (i : Nat) (m : Word) : State := s.setReg i (s.reg i ||| m)

/-- Clear the bits of `m` in a register. -/
def State.clrReg (s : State) (i : Nat) (m : Word) : State := s.setReg i (s.reg i &&& ~~~ m)

/-- A field of a register as a number. -/
def State.rf (s : State) (i lo n : Nat) : Nat := fld (s.reg i) lo n

/-- A bit of a register. -/
def State.bit (s : State) (i k : Nat) : Bool := (s.reg i).getLsbD k

/-- Replace a field of a register. -/
def State.setFld (s : State) (i lo n v : Nat) : State := s.setReg i (withFld (s.reg i) lo n v)

/-- Count one in a saturating field of a register. -/
def State.count (s : State) (i lo n : Nat) : State := s.setFld i lo n (satInc (2 ^ n - 1) (s.rf i lo n))

/-! ### Parts of the state -/

def State.facet (s : State) : Port → Facet
  | .a => s.fa | .b => s.fb | .c => s.fc | .d => s.fd

def State.setFacet (s : State) (p : Port) (f : Facet) : State :=
  match p with
  | .a => { s with fa := f } | .b => { s with fb := f } | .c => { s with fc := f } | .d => { s with fd := f }

def State.modNvm (s : State) (g : Nvm → Nvm) : State := { s with nvm := g s.nvm }
def State.modOnx (s : State) (g : Onx → Onx) : State := { s with onx := g s.onx }
def State.modLdr (s : State) (g : Ldr → Ldr) : State := { s with ldr := g s.ldr }
def State.modLap (s : State) (g : Lap → Lap) : State := { s with lap := g s.lap }
def State.modAdc (s : State) (g : Adc → Adc) : State := { s with adc := g s.adc }
def State.modSvc (s : State) (g : Svc → Svc) : State := { s with svc := g s.svc }
def State.modGpio (s : State) (g : Gpio → Gpio) : State := { s with gpio := g s.gpio }

def State.feed (s : State) : Bus → FeedBus
  | .nbus1 => s.hub.feed1 | .nbus2 => s.hub.feed2

def State.modFeed (s : State) (b : Bus) (g : FeedBus → FeedBus) : State :=
  match b with
  | .nbus1 => { s with hub := { s.hub with feed1 := g s.hub.feed1 } }
  | .nbus2 => { s with hub := { s.hub with feed2 := g s.hub.feed2 } }

/-- Fault unit by its code (R402). -/
def State.flt (s : State) : Nat → FltUnit
  | 0 => s.flt0 | 1 => s.flt1 | 2 => s.flt2 | 3 => s.flt3 | 4 => s.flt4 | _ => s.flt5

def State.setFlt (s : State) (u : Nat) (f : FltUnit) : State :=
  match u with
  | 0 => { s with flt0 := f } | 1 => { s with flt1 := f } | 2 => { s with flt2 := f }
  | 3 => { s with flt3 := f } | 4 => { s with flt4 := f } | _ => { s with flt5 := f }

/-- Event queue by its number, 0 to 3 for facets A to D and 4 for the hub. -/
def State.evq (s : State) : Nat → Evq
  | 0 => s.q0 | 1 => s.q1 | 2 => s.q2 | 3 => s.q3 | _ => s.q4

def State.setEvq (s : State) (q : Nat) (e : Evq) : State :=
  match q with
  | 0 => { s with q0 := e } | 1 => { s with q1 := e } | 2 => { s with q2 := e }
  | 3 => { s with q3 := e } | _ => { s with q4 := e }

def State.mbx (s : State) : Nat → Mbx
  | 0 => s.m0 | 1 => s.m1 | 2 => s.m2 | 3 => s.m3 | _ => s.m4

def State.setMbx (s : State) (m : Nat) (x : Mbx) : State :=
  match m with
  | 0 => { s with m0 := x } | 1 => { s with m1 := x } | 2 => { s with m2 := x }
  | 3 => { s with m3 := x } | _ => { s with m4 := x }

/-! ### Facet state and epochs -/

/-- The facet properties whose change advances the epoch (R41; the attach state is the pair of R179). -/
structure EpochKey where
  fstate   : FState
  attached : Bool
  orient   : Bool
  swCmd    : Bool
  swObs    : Bool
  latch    : Bool
  contract : Option Req
  prole    : Bool
  drole    : Bool
deriving DecidableEq, Repr

def Facet.key (f : Facet) : EpochKey :=
  ⟨f.fstate, f.cc.attached, f.cc.orient, f.pp.swCmd, f.pp.swObs, f.pp.floorLatch, if f.ct.contract then some f.ct.now else none, f.ct.prole, f.ct.drole⟩

/-- R41: a change advances the epoch at once, or makes an advance pending when the last fell less than 12 500 cycles
ago; further changes of the same cycle are covered. -/
def Facet.advance (now : Nat) (f : Facet) : Facet :=
  if f.fresh || f.epPend then f
  else match f.epLast with
    | none => { f with epoch := f.epoch + 1, epLast := some now, fresh := true }
    | some t =>
      if now < t + 12500 then { f with epPend := true }
      else { f with epoch := f.epoch + 1, epLast := some now, fresh := true }

def Hub.advance (now : Nat) (h : Hub) : Hub :=
  if h.fresh || h.epPend then h
  else match h.epLast with
    | none => { h with epoch := h.epoch + 1, epLast := some now, fresh := true }
    | some t =>
      if now < t + 12500 then { h with epPend := true }
      else { h with epoch := h.epoch + 1, epLast := some now, fresh := true }

/-- Change a facet; a change of a property of R41 advances its epoch. -/
def State.modF (s : State) (p : Port) (g : Facet → Facet) : State :=
  let f := s.facet p
  let f' := g f
  s.setFacet p (if f'.key = f.key then f' else f'.advance s.cycles)

/-- Change the parts of a facet that R41 does not list alone. -/
def State.modCc (s : State) (p : Port) (g : Cc → Cc) : State := s.modF p fun f => { f with cc := g f.cc }
def State.modPd (s : State) (p : Port) (g : Pd → Pd) : State := s.modF p fun f => { f with pd := g f.pd }
def State.modCt (s : State) (p : Port) (g : Ct → Ct) : State := s.modF p fun f => { f with ct := g f.ct }
def State.modPp (s : State) (p : Port) (g : Pp → Pp) : State := s.modF p fun f => { f with pp := g f.pp }
def State.modLk (s : State) (p : Port) (g : Lk → Lk) : State := s.modF p fun f => { f with lk := g f.lk }
def State.modRc (s : State) (p : Port) (g : Rcfg Bank → Rcfg Bank) : State :=
  s.modF p fun f => { f with rc := g f.rc }

/-- The hub properties whose change advances its epoch: facet state (R502), converter states (R316), battery state
(R345). -/
structure HubKey where
  fstate : FState
  cv1    : CvState
  cv1f   : Bool
  cv2    : CvState
  cv2f   : Bool
  bat    : BatState
deriving DecidableEq, Repr

def Hub.key (h : Hub) : HubKey := ⟨h.fstate, h.cv1.st, h.cv1.charge, h.cv2.st, h.cv2.charge, h.bat.st⟩

/-- Change the hub; a change of a property of its key advances its epoch by the rules of R41. -/
def State.modHub (s : State) (g : Hub → Hub) : State :=
  let h := g s.hub
  { s with hub := if h.key = s.hub.key then h else h.advance s.cycles }

def State.modBat (s : State) (g : Bat → Bat) : State := s.modHub fun h => { h with bat := g h.bat }

def State.cv (s : State) : Conv → Cv
  | .cv1 => s.hub.cv1 | .cv2 => s.hub.cv2

def State.modCv (s : State) (c : Conv) (g : Cv → Cv) : State :=
  s.modHub fun h => match c with
    | .cv1 => { h with cv1 := g h.cv1 }
    | .cv2 => { h with cv2 := g h.cv2 }

/-- The epoch an event of facet `q` (4 the hub) carries: the value a pending advance will set (R553). -/
def State.eventEpoch (s : State) (q : Nat) : Byte :=
  if q < 4 then
    let f := s.facet (portOf q)
    if f.epPend then f.epoch + 1 else f.epoch
  else if s.hub.epPend then s.hub.epoch + 1 else s.hub.epoch

/-! ### Time -/

/-- TIME, the low 48 bits of the cycle count (R28). -/
def State.time (s : State) : Nat := s.cycles % 2 ^ 48

/-- The wrap count, 15 bits (R28). -/
def State.wraps (s : State) : Nat := s.cycles / 2 ^ 48 % 2 ^ 15

/-- A timestamp word: TIME[35:5] and the ESTIMATED flag (R30, R152). -/
def State.stamp (s : State) : Word := fw 0 (s.time / 32 % 2 ^ 31) ||| flag 31 (decide (s.mode = .sentinel))

/-- A µs timer after `n` cycles: it counts every 96 (R162) and stays at 0 once due. -/
def Tmr.elapse (n : Nat) (t : Tmr) : Tmr :=
  if t.count = 0 then t
  else
    let left := 96 * (t.count - 1) + t.pre
    if left ≤ n then { count := 0, pre := 96 }
    else { count := (left - n + 95) / 96, pre := (left - n - 1) % 96 + 1 }

/-- Timer `k` counts µs: `EN` set and `UNIT` 0 (R162). -/
def State.usTimer (s : State) (k : Nat) : Bool := s.bit (0x0710 + 2 * k) 26 && !s.bit (0x0710 + 2 * k) 24

/-- Lapidary runs and is clocked: `RUNSTATE` 1 (R151). -/
def State.lapClocked (s : State) : Bool :=
  decide (s.lap.run = .running) && decide (s.mode ≠ .standby) && decide (s.mode ≠ .sentinel)

/-- `n` cycles of `CLK` pass: TIME, the µs timers but in a debug halt (R170), and `mcycle` while Lapidary is clocked. -/
def State.elapse (s : State) (n : Nat) : State :=
  let go := decide (s.lap.run ≠ .halted)
  let t := fun k x => if go && s.usTimer k then Tmr.elapse n x else x
  let cyc := if s.lapClocked then s.lap.csr.mcycle + BitVec.ofNat 64 n else s.lap.csr.mcycle
  { s with
    cycles := s.cycles + n
    lap :=
      { s.lap with
        csr := { s.lap.csr with mcycle := cyc }
        tmr0 := t 0 s.lap.tmr0, tmr1 := t 1 s.lap.tmr1, tmr2 := t 2 s.lap.tmr2, tmr3 := t 3 s.lap.tmr3
        tmr4 := t 4 s.lap.tmr4, tmr5 := t 5 s.lap.tmr5, tmr6 := t 6 s.lap.tmr6, tmr7 := t 7 s.lap.tmr7 } }

/-! ### Events and logic rules -/

/-- An action the hardware owes. -/
def State.owe (s : State) (a : Act) : State := { s with todo := s.todo ++ [a] }

/-- R565: the qualification of a logic rule holds. -/
def ruleQual (s : State) (r : BitVec 64) : Bool :=
  let wm := ((r >>> 8).toNat) % 256
  match ((r >>> 16).toNat) % 4 with
  | 0 => true
  | 1 => s.wmHi.getLsbD wm
  | 2 => s.wmLo.getLsbD wm
  | _ => !s.wmHi.getLsbD wm && !s.wmLo.getLsbD wm

/-- The action of a matching rule (table of R157). -/
def ruleAct (p : Port) (r : BitVec 64) : Option Act :=
  let arg := (r >>> 32).toNat
  match ((r >>> 24).toNat) % 256 with
  | 1 => some (.ruleEvent p (BitVec.ofNat 16 arg))
  | 2 => some (.openSwitch p)
  | 3 => some (.hardReset p)
  | 4 => some (.gpio (BitVec.ofNat 2 arg) (arg.testBit 2))
  | 5 => some (.ilim p arg)
  | _ => none

/-- The actions of every matching rule, in ascending rule number (R156). -/
def ruleActs (s : State) (p : Port) (code : Byte) : List (BitVec 64) → List Act
  | [] => []
  | r :: rs =>
    let rest := ruleActs s p code rs
    if r.setWidth 8 = code ∧ code ≠ 0 ∧ ruleQual s r = true then
      match ruleAct p r with
      | some a => a :: rest
      | none => rest
    else rest

/-- Post an event to queue `q`; it enters the queue at the end of the cycle (R154). -/
def State.post (s : State) (q : Nat) (code : Byte) (arg : Half) : State :=
  { s with posts := s.posts ++ [⟨q, code, arg, s.stamp⟩] }

/-- Post a facet's event and take what its logic rules order, unless the facet is HELD (R156, R157). -/
def State.postF (s : State) (p : Port) (code : Byte) (arg : Half) : State :=
  let s' := s.post (portNo p) code arg
  if (s.facet p).fstate = .held then s'
  else { s' with todo := s'.todo ++ ruleActs s p code (s.facet p).cfg.rules }

/-- Post an event to the hub's queue. -/
def State.postH (s : State) (code : Byte) (arg : Half) : State := s.post 4 code arg

/-- R155: what arrives at a queue of 31 entries becomes the OVERFLOW entry, and later arrivals count in it. -/
def enqueue (e : Evq) (w0 w1 ovf : Word) : Evq :=
  let n := e.ents.length
  if n < 31 then { e with ents := e.ents ++ [(w0, w1)] }
  else if n = 31 then { e with ents := e.ents ++ [(ovf, w1)] }
  else match e.ents.getLast? with
    | none => e
    | some (l0, l1) =>
      { e with ents := e.ents.dropLast ++ [(withFld l0 16 16 (satInc 0xFFFF (fld l0 16 16)), l1)] }

/-- One posted event enters its queue (R152). -/
def State.deliver (s : State) (x : Post) : State :=
  let ep := (s.eventEpoch x.q).toNat
  let w0 := fw 0 x.code.toNat ||| fw 8 ep ||| fw 16 x.arg.toNat
  let ovf := fw 0 1 ||| fw 8 ep ||| fw 16 1
  s.setEvq x.q (enqueue (s.evq x.q) w0 x.ts ovf)

/-- Insert behind every event of the same queue with a code no higher (R154). -/
def insertPost (x : Post) : List Post → List Post
  | [] => [x]
  | y :: ys => if x.code < y.code then x :: y :: ys else y :: insertPost x ys

def sortPosts : List Post → List Post → List Post
  | acc, [] => acc
  | acc, x :: xs => sortPosts (insertPost x acc) xs

def deliverAll (s : State) : List Post → State
  | [] => s
  | x :: xs => deliverAll (s.deliver x) xs

/-- The events of the cycle enter their queues in ascending order of code (R154). -/
def State.flushPosts (s : State) : State := deliverAll { s with posts := [] } (sortPosts [] s.posts)

/-! ### NVM operations and the journal -/

/-- The array's start order of pending operations (R515). -/
def nvmOrder : NvmOp → Nat
  | .journal _ _ => 2
  | .page _ _ => 3
  | .quarantine _ _ => 3
  | .gauge => 4
  | .ledger => 4
  | .flush _ => 5
  | .eraseUser _ _ => 5
  | .scrub _ _ => 6

def insertOp (x : NvmOp) : List NvmOp → List NvmOp
  | [] => [x]
  | y :: ys => if nvmOrder x < nvmOrder y then x :: y :: ys else y :: insertOp x ys

/-- R515: the running operation stays first, and the rest start by their row and, within one, in order of request. -/
def queueOp (x : NvmOp) : List NvmOp → List NvmOp
  | [] => [x]
  | r :: l => r :: insertOp x l

def State.nvmQueue (s : State) (x : NvmOp) : State := s.modNvm fun n => { n with ops := queueOp x n.ops }

/-- A value of the entropy source: the next free value (log entry 6). -/
def State.rand (s : State) : Word × State := (Config.rng s.draws, { s with draws := s.draws + 1 })

/-- `n` bytes of the entropy source. -/
def State.randBytes (s : State) : Nat → List Byte × State
  | 0 => ([], s)
  | n + 1 =>
    let (w, s) := s.rand
    let (bs, s) := s.randBytes n
    (leBytes 4 w.toNat ++ bs, s)

/-- Value of a monotonic counter (R433). -/
def State.ctr (s : State) (n : Nat) : Nat := spGet (fun _ => 0) s.onx.counters n

def State.setCtr (s : State) (n v : Nat) : State :=
  s.modOnx fun o => { o with counters := spPut (fun _ => 0) o.counters n v }

/-- The lifecycle code, counter 8. -/
def State.lc (s : State) : Nat := s.ctr 8

/-- The device is in the certified configuration (R459). -/
def State.certified (s : State) : Bool := decide (s.lc = 2) && s.onx.selfTest && !s.onx.alarmLock

/-- The public key of `IDK`, x ‖ y; none before `IDK_GENERATE`. -/
def State.idkPub (s : State) : Option (List Byte) :=
  match s.onx.idk with
  | none => none
  | some k => some (leBytes 64 (Config.p256Public k).toNat)

/-- The device identifier: the first 16 bytes of the digest of the uncompressed public key, 0 before it exists. -/
def State.devId (s : State) : List Byte :=
  match s.idkPub with
  | none => List.replicate 16 0
  | some k => leBytes 16 (Config.sha256 (0x04 :: k)).toNat

/-- Byte address of journal record `n` (R446). -/
def jrnAddr (n : Nat) : Nat := 0x610000 + 64 * (n % 131072)

/-- Bytes 0x00 to 0x2F of the next record (R448). -/
def State.jrnHead (s : State) (typ flags : Nat) (payload : List Byte) : List Byte :=
  [BitVec.ofNat 8 typ, BitVec.ofNat 8 (flags + if s.mode = .sentinel then 1 else 0), 0, 0]
    ++ leBytes 4 s.onx.jrnCount ++ leBytes 4 (s.ctr 6) ++ leBytes 6 s.time ++ leBytes 2 s.wraps
    ++ padTo 28 0 payload

/-- Append one record to an open journal: chained under R449, its programming queued (R515). -/
def State.jrnRaw (s : State) (typ flags : Nat) (payload : List Byte) : State :=
  let rec48 := s.jrnHead typ flags payload
  let tag := leBytes 16 (Config.sha256 (s.onx.jrnTag ++ rec48)).toNat
  let n := s.onx.jrnCount
  let s := s.modOnx fun o => { o with jrnCount := n + 1, jrnTag := tag, sinceSeal := o.sinceSeal + 1 }
  s.nvmQueue (.journal (rec48 ++ tag) (jrnAddr n))

/-- A SEAL record (R450). -/
def State.jrnSeal (s : State) : State :=
  match s.onx.jk with
  | none => s
  | some k =>
    let mac := Config.cmac k (s.devId ++ leBytes 4 (s.onx.jrnCount - 1) ++ s.onx.jrnTag)
    let s := s.jrnRaw 0x0C 0 (leBytes 16 mac.toNat)
    s.modOnx fun o => { o with sinceSeal := 0 }

/-- `SEAL_N` as it acts, 16 to 256 (R461). -/
def State.sealN (s : State) : Nat := max 16 (min 256 (s.rf 0x0313 0 9))

/-- Append a record to the journal if it is open, and a SEAL record after every `SEAL_N` (R448, R450). -/
def State.jrn (s : State) (typ : Nat) (payload : List Byte) (fw : Bool := false) : State :=
  if s.onx.jrnOpen then
    let s := s.jrnRaw typ (if fw then 2 else 0) payload
    if s.sealN ≤ s.onx.sinceSeal then s.jrnSeal else s
  else s

/-! ### Fault events -/

/-- Default class and level of a source, `none` where the unit has no such source (R404). -/
def srcDefault (u src : Nat) : Option (Nat × Nat) :=
  if 0x80 ≤ src then (if src ≤ 0xBF then some (11, 1) else none)
  else if u < 4 then
    match src with
    | 0x01 => some (1, 2) | 0x02 => some (1, 1) | 0x03 => some (1, 2) | 0x04 => some (2, 2) | 0x05 => some (2, 2)
    | 0x06 => some (3, 1) | 0x07 => some (3, 2) | 0x08 => some (5, 2) | 0x09 => some (4, 0) | 0x0A => some (4, 1)
    | 0x0B => some (4, 1) | 0x0C => some (4, 2) | 0x0D => some (3, 1) | 0x0E => some (5, 1) | 0x0F => some (6, 2)
    | 0x10 => some (7, 0) | 0x11 => some (0, 1) | _ => none
  else if u = 4 then
    match src with
    | 0x01 => some (8, 0) | 0x02 => some (8, 2) | 0x03 => some (8, 2) | 0x04 => some (8, 3) | 0x05 => some (8, 1)
    | 0x09 => some (8, 0) | 0x0A => some (8, 2) | 0x0B => some (8, 2) | 0x0C => some (8, 3) | 0x0D => some (8, 1)
    | 0x10 => some (9, 3) | 0x11 => some (9, 1) | 0x12 => some (9, 1) | 0x13 => some (9, 2) | 0x14 => some (9, 2)
    | 0x15 => some (9, 1) | 0x16 => some (15, 1) | 0x17 => some (10, 1) | 0x18 => some (10, 1) | 0x19 => some (10, 1)
    | 0x1A => some (10, 2) | 0x1B => some (10, 0) | _ => none
  else
    match src with
    | 0x01 => some (12, 3) | 0x02 => some (13, 3) | 0x03 => some (14, 2) | 0x04 => some (13, 1) | 0x05 => some (13, 2)
    | 0x06 => some (14, 1) | 0x07 => some (12, 0) | 0x08 => some (15, 1) | 0x09 => some (15, 1) | 0x0A => some (6, 2)
    | 0x0B => some (0, 1) | _ => none

/-- Class, level, N and W of a source. -/
structure SrcCfg where
  cls : Nat
  lvl : Nat
  n   : Nat
  w   : Nat
deriving DecidableEq, Repr

def findSrc (id : Half) : List SrcEntry → Option SrcEntry
  | [] => none
  | e :: es => if e.id = id then some e else findSrc id es

/-- The configuration of a source: its FAULT_CLASSES entry, or the defaults of R404; level 3 where R411 fixes it. -/
def State.srcCfg (s : State) (u src : Nat) : SrcCfg :=
  let d := (srcDefault u src).getD (0, 0)
  let c : SrcCfg := match findSrc (BitVec.ofNat 16 (256 * u + src)) s.fltCfg.sources with
    | some e => ⟨e.cls.toNat, e.lvl.toNat, e.n, e.w⟩
    | none => ⟨d.1, d.2, 255, 1000⟩
  if u = 5 ∧ (src = 1 ∨ src = 2) then { c with lvl := 3 } else c

/-- R405: the source's enable bit. -/
def State.srcEnabled (s : State) (u src : Nat) : Bool :=
  let b := unitBase u
  if src < 0x20 then s.bit (b + 0xA) src
  else if 0x80 ≤ src ∧ src < 0xA0 then s.bit (b + 0xB) (src - 0x80)
  else if 0xA0 ≤ src ∧ src < 0xC0 then s.bit (b + 0xC) (src - 0xA0)
  else false

/-- Pending level of a class (`x_FLT_LVL`). -/
def FltUnit.pLvl (f : FltUnit) (c : Nat) : Nat := fld f.lvl (2 * c) 2

def findWindow (src : Byte) : List Window → Option Window
  | [] => none
  | w :: ws => if w.src = src then some w else findWindow src ws

def dropWindow (src : Byte) (ws : List Window) : List Window := ws.filter fun w => decide (w.src ≠ src)

/-- R407: count an event in its window; a window with no tick left has closed (R425). The flag says it was promoted. Before FAULT_CLASSES no window opens (R419). -/
def countWindow (committed : Bool) (c : SrcCfg) (src : Byte) (ws : List Window) : List Window × Bool :=
  if !committed then (ws, false)
  else
    let open' := match findWindow src ws with | some w => if w.left = 0 then none else some w | none => none
    let k := match open' with | some w => w.count + 1 | none => 1
    let left := match open' with | some w => w.left | none => c.w
    if c.n ≤ k then (dropWindow src ws, true) else (dropWindow src ws ++ [⟨src, k, left⟩], false)

/-- R408: the level an event of class `c` takes. -/
def evtLevel (promoted pend : Bool) (b p : Nat) : Nat :=
  if promoted then 3 else if pend then min 3 (max b p + 1) else b

/-- Reaction code of a class and level (R93, R409); 0 before FAULT_CLASSES is committed (R419). -/
def State.reaction (s : State) (c l : Nat) : Nat := (s.fltCfg.reactions.getD (4 * c + l) 0).toNat

/-- The action of a reaction code on its unit (R410, R411, R94). -/
def reactAct (u src c code : Nat) : Option Act :=
  if u = 5 ∧ src = 1 then some .thermalSafe
  else match code with
  | 2 => if u < 4 then some (.openSwitch (portOf u)) else none
  | 3 => if u < 4 then some (.hardReset (portOf u)) else none
  | 4 => if u < 4 then some (.quarantine (portOf u)) else none
  | 5 => some (.safe u (BitVec.ofNat 4 c))
  | _ => none

/-- R413: the history keeps the last 8 events. -/
def pushHist (h : List HistEntry) (e : HistEntry) : List HistEntry := if h.length < 8 then h ++ [e] else h.drop 1 ++ [e]

/-- One fault event of source `src` of unit `u` with the value it records (R405 to R413); `l3` raises it at L3 whatever
is configured (source 0x0503 after a failed reload). -/
def State.fault (s : State) (u src : Nat) (value : Nat) (l3 : Bool := false) : State :=
  if !s.srcEnabled u src then s
  else
    let f := s.flt u
    let c := s.srcCfg u src
    let (ws, prom) := countWindow (decide (s.fltCfg.reactions ≠ [])) c (BitVec.ofNat 8 src) f.windows
    let pend := f.pend.getLsbD c.cls
    let p := f.pLvl c.cls
    let l := if l3 then 3 else evtLevel prom pend c.lvl p
    let esc := !prom && pend && decide (c.lvl < l) && !l3
    let raises := !pend || decide (p < l)
    let bus := decide (u = 5) && decide (4 ≤ src) && decide (src ≤ 6)
    let w0 := fw 0 src ||| fw 8 c.cls ||| fw 12 l ||| flag 14 prom ||| flag 15 esc ||| fw 16 (value % 65536)
    let f' : FltUnit :=
      { pend := f.pend ||| BitVec.ofNat 16 (1 <<< c.cls)
        lvl := withFld f.lvl (2 * c.cls) 2 (if pend then max p l else l)
        seq := f.seq + 1
        hist := if bus then f.hist else pushHist f.hist ⟨w0, s.stamp⟩
        windows := ws }
    let s1 := s.setFlt u f'
    let s2 := s1.count (unitBase u + 9) 0 16
    let s3 := if !bus && decide (8 ≤ f.hist.length) then s2.count (unitBase u + 9) 16 8 else s2
    let arg := BitVec.ofNat 16 (c.cls + 16 * l)
    let s4 := if !raises then s3 else if u < 4 then s3.postF (portOf u) 0x31 arg else if u = 4 then s3.postH 0x31 arg else s3
    let s5 := if raises && decide (2 ≤ l) then
        s4.jrn 0x04 [BitVec.ofNat 8 u, BitVec.ofNat 8 src, BitVec.ofNat 8 c.cls, BitVec.ofNat 8 l,
          BitVec.ofNat 8 value, BitVec.ofNat 8 (value / 256)]
      else s4
    let s6 := match reactAct u src c.cls (s.reaction c.cls l) with
      | some a => s5.owe a
      | none => s5
    if s.mode = .sentinel ∧ l = 3 then s6.owe .wake else s6

/-- Record a bus-type error in capture `j` (R414) and raise its source 0x0504 + `j`: address, master, access type, size
and cause of R422. A source that is not enabled produces no event, so nothing is captured (R405, log entry 60). -/
def State.capture (s : State) (j addr master typ size cause : Nat) : State :=
  if !s.srcEnabled 5 (4 + j) then s
  else
    let b := 0x0650 + 4 * j
    let s' :=
      if s.bit (b + 1) 16 then s.count (b + 1) 24 8
      else ((s.setReg b (BitVec.ofNat 32 addr)).setReg (b + 1)
          (fw 0 master ||| fw 4 typ ||| fw 6 size ||| fw 8 cause ||| flag 16 true)).setReg (b + 2) s.stamp
    s'.fault 5 (4 + j) j

/-- A fabric bus error on word index `i` (R17, R149, R77): `wr` for a write. -/
def State.busError (s : State) (i : Nat) (m : Nat) (wr : Bool) (size cause : Nat) : State :=
  s.capture 0 (0x40000000 + 4 * i) m (if wr then 1 else 0) size cause

end Sys2Proof.Machine
end

