-- ==== Sys2Proof/Machine/Operands.lean ====
section
/-! DEFINITION. The operand forms of the commands: command words and mailboxes (R44, R554), PD message headers (R202),
power data objects, request objects and VDM headers. The bit layouts of the PD objects are those of USB Power Delivery
3.1, which the manual cites and does not print (PRESUMED, log entry 12). -/
namespace Sys2Proof

/-! ### PD messages -/

/-- Message Type, header bits 4:0. -/
def PdMsg.typ (m : PdMsg) : Nat := m.hdr.toNat % 32
/-- Specification Revision, header bits 7:6. -/
def PdMsg.rev (m : PdMsg) : Nat := m.hdr.toNat / 64 % 4
/-- MessageID, header bits 11:9. -/
def PdMsg.id (m : PdMsg) : BitVec 3 := BitVec.ofNat 3 (m.hdr.toNat / 512)
/-- Number of Data Objects, header bits 14:12. -/
def PdMsg.nobj (m : PdMsg) : Nat := m.hdr.toNat / 4096 % 8
/-- Extended, header bit 15. -/
def PdMsg.extended (m : PdMsg) : Bool := m.hdr.getLsbD 15
/-- Chunked, extended header bit 15. -/
def PdMsg.chunked (m : PdMsg) : Bool := m.ext.getLsbD 15
/-- Chunk Number, extended header bits 14:11. -/
def PdMsg.chunkNo (m : PdMsg) : Nat := m.ext.toNat / 2048 % 16
/-- Request Chunk, extended header bit 10. -/
def PdMsg.reqChunk (m : PdMsg) : Bool := m.ext.getLsbD 10
/-- Data Size, extended header bits 8:0. -/
def PdMsg.size (m : PdMsg) : Nat := m.ext.toNat % 512

def PdMsg.cls (m : PdMsg) : Machine.MsgClass := if m.extended then .extended else if m.nobj = 0 then .control else .data

def PdMsg.obj (m : PdMsg) (k : Nat) : Word := m.objs.getD k 0

end Sys2Proof

namespace Sys2Proof.Machine

/-! ### Command words -/

/-- `RESULT` codes (R554). -/
inductive Res where
  | accepted | stale | refused
deriving DecidableEq, Repr

def resCode : Res → Nat
  | .accepted => 1 | .stale => 2 | .refused => 3

/-- Reason codes for REFUSED (table of R44). -/
inductive Reason where
  | none | badCmd | deviceMode | facetState | hardware | precondition | notAuthenticated
deriving DecidableEq, Repr

def reasonCode : Reason → Nat
  | .none => 0 | .badCmd => 1 | .deviceMode => 2 | .facetState => 3 | .hardware => 4 | .precondition => 5
  | .notAuthenticated => 6

/-- A word with the layout of `Fx_CMD_STAT`. -/
def statWord (r : Nat) (why : Reason) (epoch : Byte) (m : Master) : Word :=
  fw 0 r ||| fw 8 (reasonCode why) ||| fw 16 epoch.toNat ||| fw 24 (masterId m)

/-- The PENDING word of R554. -/
def pendingWord (epoch : Byte) (m : Master) : Word := statWord 0 .none epoch m

def sopNo : Sop → Nat
  | .sop => 0 | .sopP => 1 | .sopPP => 2

def sopOf : Nat → Sop
  | 0 => .sop | 1 => .sopP | _ => .sopPP

def clsBits : MsgClass → Nat
  | .control => 0 | .data => 32 | .extended => 64

/-- `ARG` of PD_RX and PD_TX_FAIL: type, class and ordered set. -/
def pdArg (typ : Nat) (c : MsgClass) (sp : Sop) : Half := BitVec.ofNat 16 (typ + clsBits c + 256 * sopNo sp)

def mkCtl (sp : Sop) (typ : Nat) : TxMsg :=
  { sop := sp, cls := .control, typ := BitVec.ofNat 5 typ, objs := [], len := 0, chunk := 0, resends := 0
    init := false, fw := false, hdr := 0 }

def mkData (sp : Sop) (typ : Nat) (objs : List Word) : TxMsg :=
  { sop := sp, cls := .data, typ := BitVec.ofNat 5 typ, objs := objs, len := 0, chunk := 0, resends := 0
    init := false, fw := false, hdr := 0 }

def mkExt (sp : Sop) (typ len : Nat) (objs : List Word) : TxMsg :=
  { sop := sp, cls := .extended, typ := BitVec.ofNat 5 typ, objs := objs, len := len, chunk := 0, resends := 0
    init := false, fw := false, hdr := 0 }

/-- The same message as one that initiates a sequence (R207, R208). -/
def TxMsg.initiate (m : TxMsg) : TxMsg := { m with init := true }

/-! ### Power data objects -/

/-- The kinds of source and sink objects. -/
inductive PdoKind where
  | fixed | battery | variable | pps | avs
deriving DecidableEq, Repr

def pdoKind (w : Word) : PdoKind :=
  match fld w 30 2 with
  | 0 => .fixed
  | 1 => .battery
  | 2 => .variable
  | _ => if fld w 28 2 = 0 then .pps else .avs

/-- Highest voltage of an object, mV. -/
def pdoMv (w : Word) : Nat :=
  match pdoKind w with
  | .fixed => 50 * fld w 10 10
  | .battery => 50 * fld w 20 10
  | .variable => 50 * fld w 20 10
  | .pps => 100 * fld w 17 8
  | .avs => 100 * fld w 17 9

/-- Lowest voltage of an object, mV. -/
def pdoMinMv (w : Word) : Nat :=
  match pdoKind w with
  | .fixed => 50 * fld w 10 10
  | .battery => 50 * fld w 10 10
  | .variable => 50 * fld w 10 10
  | .pps => 100 * fld w 8 8
  | .avs => 100 * fld w 8 8

/-- Highest current of an object, 10 mA. -/
def pdoMa10 (w : Word) : Nat :=
  match pdoKind w with
  | .fixed => fld w 0 10
  | .battery => 0
  | .variable => fld w 0 10
  | .pps => 5 * fld w 0 7
  | .avs => 0

/-- Power of an object in mW: V × Imax, PPS as Vmax × Imax (R234); a Battery object's power in 250 mW, an AVS object's PDP in W. -/
def pdoMw (w : Word) : Nat :=
  match pdoKind w with
  | .battery => 250 * fld w 0 10
  | .avs => 1000 * fld w 0 8
  | _ => pdoMv w * pdoMa10 w / 100

/-- mW rounded up to 0.5 W units (R234). -/
def halfWattsUp (mw : Nat) : Nat := (mw + 499) / 500

/-- A Fixed object is EPR Mode Capable (bit 23 of the first object). -/
def eprCapable (caps : List Word) : Bool := (caps.getD 0 0).getLsbD 23

/-- The object with its current replaced, in 10 mA for Fixed and in 50 mA units for PPS. -/
def pdoWithMa10 (w : Word) (ma10 : Nat) : Word :=
  match pdoKind w with
  | .fixed => withFld w 0 10 ma10
  | .pps => withFld w 0 7 (ma10 / 5)
  | _ => w

/-- An AVS object with its PDP replaced, in W. -/
def pdoWithPdp (w : Word) (pdp : Nat) : Word := withFld w 0 8 pdp

/-! ### Request data objects -/

/-- Object position, bits 31:28. -/
def rdoPos (w : Word) : Nat := fld w 28 4
/-- Capability Mismatch, bit 26. -/
def rdoMismatch (w : Word) : Bool := w.getLsbD 26
/-- Operating current of a Fixed request, 10 mA. -/
def rdoMa10 (w : Word) : Nat := fld w 10 10
/-- Output voltage of a PPS request, mV. -/
def rdoPpsMv (w : Word) : Nat := 20 * fld w 9 12
/-- Operating current of a PPS request, 10 mA. -/
def rdoPpsMa10 (w : Word) : Nat := 5 * fld w 0 7

/-- A Fixed request object. -/
def mkRdo (pos ma10 : Nat) (mismatch : Bool) : Word :=
  fw 28 pos ||| flag 26 mismatch ||| flag 25 true ||| fw 10 (min ma10 1023) ||| fw 0 (min ma10 1023)

/-- An AVS request object: voltage in 25 mV, current in 50 mA. -/
def mkRdoAvs (pos mv ma10 : Nat) : Word := fw 28 pos ||| flag 25 true ||| fw 9 (mv / 25) ||| fw 0 (ma10 / 5)

/-- A PPS request object. -/
def mkRdoPps (pos mv ma10 : Nat) : Word := fw 28 pos ||| flag 25 true ||| fw 9 (mv / 20) ||| fw 0 (ma10 / 5)

/-! ### Structured VDMs -/

/-- SVID, bits 31:16 of the VDM header. -/
def vdmSvid (w : Word) : Half := BitVec.ofNat 16 (fld w 16 16)
/-- Structured VDM, bit 15. -/
def vdmStructured (w : Word) : Bool := w.getLsbD 15
/-- Command Type, bits 7:6: 0 REQ, 1 ACK, 2 NAK, 3 BUSY. -/
def vdmCmdType (w : Word) : Nat := fld w 6 2
/-- Command, bits 4:0. -/
def vdmCmd (w : Word) : Nat := fld w 0 5
/-- Object position, bits 10:8. -/
def vdmPos (w : Word) : Nat := fld w 8 3
/-- Structured VDM Version (minor), bits 14:11. -/
def vdmVersion (w : Word) : Nat := fld w 11 4

/-- A structured VDM header; version 2.1 is code 0b0101 (R260). -/
def vdmHeader (svid : Half) (ver pos cmdType cmd : Nat) : Word :=
  fw 16 svid.toNat ||| flag 15 true ||| fw 11 ver ||| fw 8 pos ||| fw 6 cmdType ||| fw 0 cmd

/-- The lower of version 2.1 and the partner's (R260). -/
def vdmAnswerVersion (w : Word) : Nat := min 5 (vdmVersion w)

/-- The PD SID of Discover Identity and Discover SVIDs. -/
def pdSid : Half := 0xFF00
/-- The chain link's SVID (R261). -/
def linkSvid : Half := 0x2F7A

end Sys2Proof.Machine
end

