-- ==== Sys2Proof/Machine/Power.lean ====
section
/-! DEFINITION. The shared operations of the power path and the feeds: opening and closing a port's switch pair (R270 to
R277), trips (R283 to R287), power-good (R292), feed combining (R294 to R302), the requested and effective values with
their envelopes (R166 to R169, R278, R279, R312), and bus ownership (R232). -/
namespace Sys2Proof.Machine

/-! ### Buses and feeds -/

/-- The node bus a port connects to, `Fx_PP_CFG.BUS` (R268). -/
def State.busOf (s : State) (p : Port) : Bus := if s.bit (fx p 0x142) 21 then .nbus2 else .nbus1

/-- The measured voltage of a node bus, mV. -/
def State.nbus (s : State) : Bus → Nat
  | .nbus1 => s.sense.nbus1 | .nbus2 => s.sense.nbus2

def busNo : Bus → Nat
  | .nbus1 => 0 | .nbus2 => 1

def convNo : Conv → Nat
  | .cv1 => 0 | .cv2 => 1

/-- Base of a converter's registers (R334). -/
def convBase : Conv → Nat
  | .cv1 => 0x0810 | .cv2 => 0x0820

/-- The converter whose settings govern a bus; none on `NBUS2` in parallel (R320). -/
def State.busConv (s : State) : Bus → Option Conv
  | .nbus1 => some .cv1
  | .nbus2 => if s.hub.parallel then none else some .cv2

/-- The bus a converter serves (R320). -/
def State.convBus (s : State) : Conv → Bus
  | .cv1 => .nbus1
  | .cv2 => if s.hub.parallel then .nbus1 else .nbus2

/-- Within the vSafe5V range of R233. -/
def inSafe5V (mv : Nat) : Bool := decide (4750 ≤ mv) && decide (mv ≤ 5500)

/-- A converter runs in BUS: it is switching and not charging. -/
def Cv.inBus (c : Cv) : Bool := (decide (c.st = .starting) || decide (c.st = .regulating)) && !c.charge

/-- The feed codes of a bus's `LIST` in order, each once, 0 and 7 left out (R295). -/
def feedList (cfg : Word) : List Nat :=
  let raw := [fld cfg 9 3, fld cfg 12 3, fld cfg 15 3, fld cfg 18 3]
  (raw.eraseDups).filter fun c => decide (c ≠ 0 ∧ c ≠ 7)

/-- The bus is in PRIORITY (`H_FEEDn_CFG.MODE` in force). -/
def FeedBus.priority (f : FeedBus) : Bool := f.cfg.getLsbD 0

/-- The facet sinks through its port: attached, power role sink. -/
def Facet.sinking (f : Facet) : Bool := f.cc.attached && !f.ct.prole

/-- A switch state in which the pair conducts. -/
def SwState.conducts : SwState → Bool
  | .ramping => true | .closed => true | .regulating => true
  | .open => false | .guardWait => false | .armed => false | .retryWait => false

/-- A feed conducts onto a bus. -/
def State.feedConducts (s : State) (b : Bus) (code : Nat) : Bool :=
  if 1 ≤ code ∧ code ≤ 4 then
    let p := portOf (code - 1)
    let f := s.facet p
    f.sinking && f.pp.sw.conducts && decide (s.busOf p = b)
  else if code = 5 then s.hub.auxOn && decide (s.bit 0x0884 1 = decide (b = .nbus2))
  else if code = 6 then
    match s.busConv b with
    | some c => (s.cv c).inBus
    | none => false
  else false

/-- A feed's code is listed on its bus (R295). -/
def State.listed (s : State) (b : Bus) (code : Nat) : Bool := (feedList (s.feed b).cfg).contains code

/-- A feed is available to a bus (table of feeds); the NBUS clamp holds the bus's converter off (R22). -/
def State.feedAvailable (s : State) (b : Bus) (code : Nat) : Bool :=
  if (s.feed b).lostFeeds.contains (BitVec.ofNat 3 code) then false
  else if 1 ≤ code ∧ code ≤ 4 then
    let p := portOf (code - 1)
    let f := s.facet p
    decide (f.fstate = .live) && f.sinking && f.pp.swCmd && decide (s.busOf p = b)
      && !f.pp.leak
  else if code = 5 then s.bit 0x0884 0 && s.auxOk && decide (s.bit 0x0884 1 = decide (b = .nbus2))
  else if code = 6 then
    match s.busConv b with
    | some c => (decide ((s.cv c).st = .standby) || (s.cv c).inBus) && !(s.cv c).clampOff
    | none => false
  else false

/-- An available feed that a make may close (R300): a port's pair is armed. -/
def State.feedArmed (s : State) (b : Bus) (code : Nat) : Bool :=
  s.feedAvailable b code && (decide (code = 0 ∨ 4 < code) || decide ((s.facet (portOf (code - 1))).pp.sw = .armed))

/-- The codes that supply a bus: what conducts and is not lost. In PRIORITY one feed supplies, and a converter that runs
on beside a closed feed is not it (R299). -/
def State.supplyingNow (s : State) (b : Bus) : List (BitVec 3) :=
  let l := ([1, 2, 3, 4, 5, 6].filter fun c =>
    s.feedConducts b c && !(s.feed b).lostFeeds.contains (BitVec.ofNat 3 c)).map (BitVec.ofNat 3)
  if (s.feed b).priority && l.any fun c => decide (c ≠ 6#3) then l.filter fun c => decide (c ≠ 6#3) else l

/-- A bus has a supplying feed other than `code`. -/
def State.otherFeed (s : State) (b : Bus) (code : Nat) : Bool :=
  ((s.feed b).supplying.filter fun c => decide (c.toNat ≠ code)) ≠ []

/-- The `SUPPLYING` bits of one feed code on a bus (R307). -/
def feedBits (par : Bool) (b : Bus) (code : Nat) : Nat :=
  if 1 ≤ code ∧ code ≤ 4 then 2 ^ (code - 1)
  else if code = 5 then 16
  else if code = 6 then (match b with | .nbus1 => if par then 96 else 32 | .nbus2 => 64)
  else 0

def maskOf (par : Bool) (b : Bus) : List (BitVec 3) → Nat
  | [] => 0
  | c :: cs => feedBits par b c.toNat ||| maskOf par b cs

/-- `H_FEED_STAT.SUPPLYING`. -/
def State.supplyMask (s : State) : Nat :=
  maskOf s.hub.parallel .nbus1 s.hub.feed1.supplying ||| maskOf s.hub.parallel .nbus2 s.hub.feed2.supplying

/-- Bring one bus's supplying feeds up to date; a gap in progress keeps them until its make (R300). -/
def State.syncBus (s : State) (b : Bus) : State :=
  if (s.feed b).gap then s
  else
    let l := s.supplyingNow b
    s.modFeed b fun f => { f with supplying := l, lost := f.lost && decide (l = []) }

/-- Bring both buses' supplying feeds up to date and post FEED at a change of `SUPPLYING` (R307). -/
def State.syncFeeds (s : State) : State :=
  let s' := (s.syncBus .nbus1).syncBus .nbus2
  if s'.supplyMask = s.supplyMask then s' else s'.postH 0x51 (BitVec.ofNat 16 s'.supplyMask)

/-- The feed code `ACTn` shows: the one that supplies a bus in PRIORITY (R307). -/
def FeedBus.act (f : FeedBus) : Nat :=
  if f.priority && !f.gap then
    match (feedList f.cfg).filter fun c => f.supplying.contains (BitVec.ofNat 3 c) with
    | c :: _ => c
    | [] => match f.supplying with
      | c :: _ => c.toNat
      | [] => 0
  else 0

/-! ### The switch pair -/

/-- Post POWER_GOOD 0 and drop power-good (R292). -/
def State.pgDown (s : State) (p : Port) : State :=
  if (s.facet p).pp.pg then
    ((s.modPp p fun x => { x with pg := false }).orReg (fx p 0x145) (flag 6 true)).postF p 0x15 0
  else s

/-- Raise power-good (R292). -/
def State.pgUp (s : State) (p : Port) : State :=
  if (s.facet p).pp.pg then s
  else ((s.modPp p fun x => { x with pg := true }).orReg (fx p 0x145) (flag 5 true)).postF p 0x15 1

/-- The partner is sourcing (text of R276). -/
def Facet.partnerSourcing (f : Facet) : Bool :=
  match f.cc.tc with
  | .attachedSnk => true
  | .attachWaitSnk => true
  | .tryWaitSnk => true
  | _ => f.pd.hrSink

/-- The discharge that runs while the switch is open (R277); `src` when it was opened as source. -/
def dischargeOf (f : Facet) (src : Bool) : Disch :=
  if f.partnerSourcing then .off
  else if src && !f.pp.below then .strong
  else .bleeder

/-- Both gates off. -/
def Pp.gatesOff (x : Pp) : Pp :=
  { x with swObs := false, sw := .open, ilimAct := false, guardOk := false, revblk := false, timing := false
           stallRun := false, ftCount := 0, ftSince := none }

/-- Both gates of a port off, power-good dropped and the discharge set; `cmd` is the commanded state left. -/
def State.gates (s : State) (p : Port) (cmd : Bool) : State :=
  let f := s.facet p
  let src := f.ct.prole && (f.pp.swCmd || f.pp.swObs)
  let s := s.modPp p fun x => { x.gatesOff with swCmd := cmd }
  let s := s.modPp p fun x =>
    { x with disch := if f.pp.sw = .open then (if f.partnerSourcing then .off else x.disch)
                      else dischargeOf (s.facet p) src }
  s.pgDown p

/-- A feed that closes or runs again is no longer counted as lost (R294). -/
def State.unlose (s : State) (b : Bus) (code : Nat) : State :=
  s.modFeed b fun f => { f with lostFeeds := f.lostFeeds.filter fun c => decide (c.toNat ≠ code) }

/-- A converter regulates its bus from the present voltage at full loop speed: its setpoint does not slew (R316). -/
def Cv.regulate (v : Cv) (now : Nat) : Cv := { v with st := .regulating, charge := false, slewMv := 0, slewAt := now }

/-- Mark a feed lost (R294). -/
def State.markLost (s : State) (b : Bus) (code : Nat) : State :=
  (s.unlose b code).modFeed b fun f => { f with lostFeeds := f.lostFeeds ++ [BitVec.ofNat 3 code] }

/-- R300 step 3 for one feed: it closes at full gate speed, or the converter begins to regulate at full loop speed (R316). -/
def State.makeFeed (s : State) (b : Bus) (code : Nat) : State :=
  let s := s.unlose b code
  if 1 ≤ code ∧ code ≤ 4 then
    s.modPp (portOf (code - 1)) fun x => { x with sw := .closed, swObs := true, disch := .off }
  else if code = 5 then { s with hub := { s.hub with auxOn := true } }
  else if code = 6 then
    match s.busConv b with
    | some c =>
      let go := fun (v : Cv) => if v.st = .standby ∧ v.clampOff = false then v.regulate s.cycles else v
      let s := s.modCv c go
      if s.hub.parallel then s.modCv .cv2 go else s
    | none => s
  else s

/-- The first armed feed of a bus's list, in list order (R299, R300). -/
def State.firstAvailable (s : State) (b : Bus) : Option Nat :=
  ((feedList (s.feed b).cfg).filter fun c => s.feedArmed b c).head?

/-- R300 steps 1 and 2 after the supplying feed of a PRIORITY bus has ended: the converter starts at the break, any
other feed waits for the gap. -/
def State.breakBus (s : State) (b : Bus) : State :=
  match s.firstAvailable b with
  | none => s
  | some 6 => s.makeFeed b 6
  | some _ => s.modFeed b fun f => { f with gap := true }

/-! ### Charge phases -/

def chgCode : ChgPhase → Nat
  | .idle => 0 | .precharge => 1 | .cc => 2 | .cv => 3 | .done => 4 | .suspended => 5 | .timeout => 6

/-- The charge phases in which a converter charges. -/
def ChgPhase.active : ChgPhase → Bool
  | .precharge => true | .cc => true | .cv => true
  | .idle => false | .done => false | .suspended => false | .timeout => false

/-- A phase begins in cycle `now`: time in the active phases is kept, and a charge that starts afresh begins from 0 (R349). -/
def Bat.phaseTo (x : ChgPhase) (now : Nat) (b : Bat) : Bat :=
  let ran := if b.phase.active then now - b.chgSince else 0
  let again := b.phase.active || decide (b.phase = .suspended)
  { b with phase := x, inLim := false, cvLow := none, chgSince := now
           chgFor := if again then b.chgFor + ran else 0
           preFor := if again then (if b.phase = .precharge then b.preFor + ran else b.preFor) else 0 }

/-- Change the charge phase and post CHARGE (R349). -/
def State.setPhase (s : State) (x : ChgPhase) : State :=
  if s.hub.bat.phase = x then s else (s.modBat (Bat.phaseTo x s.cycles)).postH 0x53 (BitVec.ofNat 16 (chgCode x))

/-- R308: a converter in CHARGE whose bus has no other supplying feed left regulates the bus, and the charge is
suspended. -/
def State.chargeToBus (s : State) (b : Bus) : State :=
  match s.busConv b with
  | none => s
  | some c =>
    if (s.cv c).charge && decide ((s.cv c).st = .regulating) && (s.supplyingNow b).isEmpty && !(s.feed b).gap then
      let s := s.modCv c fun v => { v with charge := false }
      let s := if s.hub.parallel then s.modCv .cv2 fun v => { v with charge := false } else s
      s.setPhase .suspended
    else s

/-- A feed ends or is lost (R294): it stops supplying, and a PRIORITY bus changes over (R300). -/
def State.feedEnd (s : State) (b : Bus) (code : Nat) : State :=
  let was := (s.feed b).act = code ∧ (s.feed b).priority = true
  let s := if was then s.breakBus b else s
  s.chargeToBus b

/-- A detach, a Hard Reset, the end of its contract or a trip loses a port's sink feed (R294); where pass-through alone fed the
bus, its sources are told (R257). -/
def State.feedGone (s : State) (p : Port) : State :=
  let f := s.facet p
  let b := s.busOf p
  if f.sinking && f.pp.sw.conducts then
    let through := (s.feed b).supplying.all fun c => decide (1 ≤ c.toNat ∧ c.toNat ≤ 4)
    let s := s.markLost b (portNo p + 1)
    if through then { s with todo := s.todo ++ [.frs b] } else s
  else s

/-- A PRIORITY bus opens a feed, which stays armed (R299, R300 step 1): a port's pair, or `AUXIN`'s. The hub has no transition
that stops a converter (R316), and a HELD facet keeps its pair (R125). -/
def State.breakFeed (s : State) (code : Nat) : State :=
  if 1 ≤ code ∧ code ≤ 4 then
    let p := portOf (code - 1)
    if (s.facet p).fstate = .held then s
    else (s.gates p (s.facet p).pp.swCmd).modPp p fun x => { x with sw := if x.swCmd then .armed else .open }
  else if code = 5 then { s with hub := { s.hub with auxOn := false } }
  else s

/-- Open a port's switch (R276): both gates off, `SW_CMD` 0, and a sink feed that ran through it ends (R294). -/
def State.openSwitch (s : State) (p : Port) : State :=
  let f := s.facet p
  let fed := f.sinking && f.pp.sw.conducts
  let s := s.gates p false
  if fed then s.feedEnd (s.busOf p) (portNo p + 1) else s

/-- The side a closing pair brings up is below vSafe0V (R272): the connector as source, the bus as sink. -/
def State.energisedBelow (s : State) (p : Port) : Bool :=
  if (s.facet p).ct.prole then (s.facet p).pp.below else decide (s.nbus (s.busOf p) < 800)

/-- Start the close sequence (R274); the discharge stays on while the guard is awaited. As sink onto a bus that a feed supplies it
is an admission: armed in PRIORITY, without a guard in SHARE (R299). A sink port not listed on its bus does not close (R295). -/
def State.closeSwitch (s : State) (p : Port) : State :=
  let f := s.facet p
  let b := s.busOf p
  if !f.ct.prole && !s.listed b (portNo p + 1) then s.modPp p fun x => { x with swCmd := false, sw := .open }
  else
    let s := s.unlose b (portNo p + 1)
    if !f.ct.prole && (s.otherFeed b (portNo p + 1) || (s.feed b).gap) then
      if (s.feed b).priority then
        s.modPp p fun x => { x with swCmd := true, sw := .armed, disch := .off }
      else
        s.modPp p fun x => { x with swCmd := true, sw := .ramping, guardOk := true, stallRun := false, disch := .off }
    else
      s.modPp p fun x => { x with swCmd := true, sw := .guardWait, guardOk := false, stallRun := false }

/-- The sink ports that await their guard on a bus that a feed now supplies are admitted (R297, R299). -/
def State.admitOthers (s : State) (p : Port) : State :=
  let b := s.busOf p
  allPorts.foldl (fun s q =>
    if q ≠ p ∧ s.busOf q = b ∧ (s.facet q).sinking = true ∧ (s.facet q).pp.sw = .guardWait then s.closeSwitch q else s) s

/-- In PRIORITY one feed supplies, the one at the lowest `LIST` position; the others are armed (R299). -/
def State.armOthers (s : State) (b : Bus) : State :=
  let keep := (feedList (s.feed b).cfg).find? fun c => s.feedConducts b c
  [1, 2, 3, 4, 5].foldl (fun s c => if s.feedConducts b c && decide (keep ≠ some c) then s.breakFeed c else s) s

/-- In SHARE every listed available feed supplies (R297): an armed pair goes on with the close its `SWITCH_ON` began. -/
def State.admitShare (s : State) (b : Bus) : State :=
  let s := allPorts.foldl (fun s p =>
    if s.listed b (portNo p + 1) && s.feedArmed b (portNo p + 1) then
      s.modPp p fun x => { x with sw := .ramping, guardOk := true, stallRun := false }
    else s) s
  if s.listed b 5 && s.feedAvailable b 5 then { s with hub := { s.hub with auxOn := true } } else s

/-- A written `H_FEEDn_CFG` takes effect (R307), but in a gap and in a hub hold, and its mode is established
(log entry 91). -/
def State.latchFeed (s : State) (b : Bus) : State :=
  if (s.feed b).gap ∨ s.hub.fstate = .held then s
  else
    let s := s.modFeed b fun f => { f with cfg := s.reg (0x0880 + busNo b) }
    if (s.feed b).priority then s.armOthers b else s.admitShare b

/-- A requested code limited to its field's range. -/
def clampTo (lo hi v : Nat) : Nat := max lo (min hi v)

/-! ### Power-good's window -/

/-- A voltage lies in the window of a contract: ±5 %, or for PPS ±3 % or ±100 mV, whichever is wider (R245, R292). -/
def Req.window (r : Req) (mv : Nat) : Bool :=
  if r.pps then
    let d := max (3 * r.mv) 10000
    decide (100 * r.mv ≤ 100 * mv + d) && decide (100 * mv ≤ 100 * r.mv + d)
  else decide (95 * r.mv ≤ 100 * mv) && decide (100 * mv ≤ 105 * r.mv)

/-- A voltage lies in the window that power-good checks (R292). -/
def Facet.window (f : Facet) (mv : Nat) : Bool :=
  if f.ct.contract then f.ct.now.window mv
  else decide ((if f.ct.prole then 4750 else 4400) ≤ mv) && decide (mv ≤ 5500)

/-- VBUS of a port is seen at a voltage. -/
def State.seeVbus (s : State) (p : Port) (mv : Nat) : State :=
  { s with sense := { s.sense with vbus := s.sense.vbus.set p mv } }

/-! ### The fault timer -/

/-- The fault timer's count at a cycle (R281). -/
def Pp.ftNow (x : Pp) (now : Nat) : Nat :=
  x.ftCount + match x.ftSince with | some t => now - t | none => 0

/-- `FT` in `CLK` cycles (R306). -/
def State.ftCycles (s : State) (p : Port) : Nat := 48000 * clampTo 1 200 (s.rf (fx p 0x142) 0 8)

/-- The safe-operating-area time for a drop across the pair in mV, in `CLK` cycles (R282). -/
def soaCycles (mv : Nat) : Option Nat :=
  if mv ≤ 2000 then none else if mv ≤ 10000 then some 960000 else if mv ≤ 25000 then some 192000 else some 48000

/-- The safe-operating-area time is the smaller (R283). -/
def State.soaRules (s : State) (p : Port) (mv : Nat) : Bool :=
  match soaCycles mv with
  | some t => decide (t < s.ftCycles p)
  | none => false

/-- The effective fault time in `CLK` cycles (R282). -/
def State.faultTime (s : State) (p : Port) (mv : Nat) : Nat :=
  match soaCycles mv with
  | some t => min t (s.ftCycles p)
  | none => s.ftCycles p

/-- The cycle in which the fault timer reaches the effective fault time (R281); none where it stands still below it. -/
def State.faultDue (s : State) (p : Port) (mv : Nat) : Option Nat :=
  let x := (s.facet p).pp
  let n := s.faultTime p mv - x.ftCount
  match x.ftSince with
  | some t => some (t + n)
  | none => if n = 0 then some s.cycles else none

/-- The cycle in which the off time of a retry ends (R285). -/
def State.retryAt (s : State) (p : Port) : Nat :=
  let x := (s.facet p).pp
  let d := match s.rf (fx p 0x142) 9 2 with | 0 => 15 | 1 => 63 | _ => 255
  x.tripAt + d * x.ftLast

/-! ### Trips -/

/-- RETRY recloses that remain (`RETRY_LEFT`): 0 under LATCH or unlimited retries (R306). -/
def State.retryLeft (s : State) (p : Port) : Nat :=
  if s.bit (fx p 0x142) 8 then s.rf (fx p 0x142) 11 4 - (s.facet p).pp.retryUsed else 0

/-- What a trip leaves (R283 to R287): gates off, TRIPPED unless HELD, flags and counters, and the wait for a retry or
the latch. `cause` is `TRIP_CAUSE`; 3 is the floor, which always latches. -/
def State.trip (s : State) (p : Port) (cause : Nat) : State :=
  let retry := s.bit (fx p 0x142) 8 && decide (cause ≠ 3)
  let more := decide (s.rf (fx p 0x142) 11 4 = 0) || decide (0 < s.retryLeft p)
  let b := s.busOf p
  let fed := (s.facet p).sinking && (s.facet p).pp.sw.conducts
  let was := (s.facet p).fstate
  let s := s.feedGone p
  let s := s.gates p ((s.facet p).pp.swCmd && retry && more)
  let s := s.modF p fun f =>
    { f with fstate := if f.fstate = .live then .tripped else f.fstate
             pp := { f.pp with tripCause := BitVec.ofNat 2 cause, sw := if retry && more then .retryWait else .open } }
  let s := s.orReg (fx p 0x145) (flag 0 true ||| flag 4 (decide (cause = 2)) ||| flag 1 (retry && !more))
  let s := s.count (fx p 0x146) 0 16
  let s := if fed then s.feedEnd b (portNo p + 1) else s
  let s := if was = .live then s.postF p 0x12 3 else s
  s.postF p 0x18 (if cause = 3 then 1 else 0)

/-- The grants a bus carries. -/
def State.granting (s : State) (b : Bus) : Nat :=
  allPorts.foldl (fun n p => if s.busOf p = b then n + (s.facet p).ct.grant else n) 0

/-- The power remainder of a bus. -/
def State.remainder (s : State) (b : Bus) : Nat := s.rf 0x0883 (16 * busNo b) 16 - s.granting b

/-! ### Requests, envelopes and effective values -/

/-- Thermal envelope of a port's limit in 50 mA codes (R279). -/
def envPort (tj : Int) : Nat := if tj < 140 then 120 else max 10 (Int.toNat (100 - 5 * (tj - 140)))

/-- Thermal envelope of a converter's limit in 50 mA codes (R312). -/
def envConv (tj : Int) : Nat := if tj < 140 then 200 else max 10 (Int.toNat (200 - 10 * (tj - 140)))

/-- Recompute a port's effective `ILIM` and its clamp bit (R166, R169, R278); frozen while HELD (R125). -/
def State.refreshIlim (s : State) (p : Port) : State :=
  if (s.facet p).fstate = .held then s
  else
    let req := clampTo 10 120 (s.rf (fx p 0x141) 0 7)
    let eff := min req (envPort s.sense.tj)
    let act := decide (eff ≠ req)
    let rose := act && !(s.facet p).clampIlim
    let s := s.setReg (fx p 0x140) (fw 0 eff)
    let s := if act then s.orReg (fx p 0x004) 1 else s
    let s := s.modF p fun f => { f with clampIlim := act }
    if rose then s.postF p 0x32 0 else s

/-- Note a hub clamp: flag k while narrowed, a CLAMPED event at each rise of `ACTIVE` (R169). -/
def State.hubClamp (s : State) (k : Nat) (act : Bool) : State :=
  let rose := act && !s.hub.clamp.getLsbD k
  let bitk : BitVec 7 := BitVec.ofNat 7 (2 ^ k)
  let s := if act then s.orReg 0x0804 (flag k true) else s
  let s := s.modHub fun h => { h with clamp := if act then h.clamp ||| bitk else h.clamp &&& ~~~ bitk }
  if rose then s.postH 0x32 (BitVec.ofNat 16 k) else s

/-- An effective upper limit in a hub hold: envelopes run and may only narrow it (R138). -/
def State.holdMin (s : State) (now v : Nat) : Nat := if s.hub.fstate = .held then min now v else v

/-- R232: the facet owns its bus. -/
def State.owner (s : State) (p : Port) : Bool :=
  let b := s.busOf p
  let f := s.facet p
  f.cc.attached && f.ct.prole && decide (0 < f.ct.grant) && decide (s.supplyingNow b = [6#3])
    && (allPorts.all fun q => decide (q = p) || decide (s.busOf q ≠ b)
        || (!(s.facet q).pp.swCmd && !(s.facet q).pp.swObs))

/-- The facet that owns a bus, if one does. -/
def State.busOwner (s : State) (b : Bus) : Option Port :=
  (allPorts.filter fun p => decide (s.busOf p = b) && s.owner p).head?

/-- Slew of the setpoint in force, mV in each ms: the owner's `Fx_CT_TRANS.SLEW`, else the converter's (R310, R320). -/
def State.slewRate (s : State) (c : Conv) : Nat :=
  match s.busOwner (s.convBus c) with
  | some p => 500 * clampTo 1 40 (s.rf (fx p 0x104) 16 6)
  | none => 500 * clampTo 1 40 (s.rf (convBase (if s.hub.parallel then .cv1 else c)) 8 6)

/-- Effective `VSET`, mV; in parallel CV1's governs both (R320). -/
def State.vsetMv (s : State) (c : Conv) : Nat := 20 * s.rf (convBase (if s.hub.parallel then .cv1 else c) + 2) 0 12

/-- The setpoint the loop follows now, mV: it moves monotonically from where it stood to the effective `VSET` (R310); a value of
0 marks a start at full loop speed (R316). -/
def State.setpoint (s : State) (c : Conv) : Nat :=
  let v := s.cv c
  let step := s.slewRate c * (s.cycles - v.slewAt) / 96000
  let goal := s.vsetMv c
  if v.slewMv = 0 then goal else if v.slewMv ≤ goal then min goal (v.slewMv + step) else max goal (v.slewMv - step)

/-- A converter's setpoint still moves (R139, R245). -/
def State.slews (s : State) (c : Conv) : Bool := (s.cv c).inBus && decide (s.setpoint c ≠ s.vsetMv c)

/-- Recompute a converter's effective `VSET` and `ILIM` (R166, R309, R312); `droop` is the share loop's narrowing in
20 mV (R313). A changed `VSET` slews from the setpoint that stands (R310). In a hub hold the limit may only narrow (R138). -/
def State.refreshConv (s : State) (c : Conv) (droop : Nat) : State :=
  let b := convBase c
  let vreq := clampTo 165 2400 (s.rf (b + 1) 0 12)
  let veff := vreq - min droop 25
  let ireq := clampTo 10 200 (s.rf (b + 3) 0 8)
  let ieff := s.holdMin (s.rf (b + 4) 0 8) (min ireq (envConv s.sense.tj))
  let at' := s.setpoint c
  let s := if veff = s.rf (b + 2) 0 12 then s else s.modCv c fun v => { v with slewMv := at', slewAt := s.cycles }
  let s := s.setReg (b + 2) (fw 0 veff)
  let s := s.setReg (b + 4) (fw 0 ieff)
  let s := s.hubClamp (convNo c) (decide (ieff ≠ ireq))
  s.hubClamp (2 + convNo c) (decide (veff ≠ vreq))

/-- Droop now in force on a converter, 20 mV. -/
def State.droopOf (s : State) (c : Conv) : Nat := if (s.feed (s.convBus c)).priority then 0 else (s.cv c).droop

/-- The hub writes the setpoint request of a bus's converter (R232, R310): `mv` in mV; not in a hub hold (R138). -/
def State.hubVset (s : State) (b : Bus) (mv : Nat) : State :=
  match s.busConv b with
  | none => s
  | some c =>
    if s.hub.fstate = .held then s else
    let s := s.setFld (convBase c + 1) 0 12 (mv / 20)
    let s := if s.hub.parallel then s.setFld 0x0821 0 12 (mv / 20) else s
    let s := s.refreshConv c 0
    if s.hub.parallel then s.refreshConv .cv2 0 else s

end Sys2Proof.Machine
end

