-- ==== Sys2Proof/Machine/Contract.lean ====
section
/-! DEFINITION. What a facet offers and asks for: its tables, the cable's limits (R259), the offer narrowed by grant, bus
and cable (R233, R236, R265), power requests (R234, R235), the sink's selection (R241 to R243), the Rp it presents
(R182, R207), VCONN (R185), and the start and end of a contract. -/
namespace Sys2Proof.Machine

/-- Source SPR objects of the facet's table (R95). -/
def Facet.srcTable (f : Facet) : List Word := match f.pdo with | some t => t.srcSpr | none => []
/-- Source EPR objects of the facet's table. -/
def Facet.eprTable (f : Facet) : List Word := match f.pdo with | some t => t.srcEpr | none => []
/-- The sink operating current at 5 V in 10 mA, 500 mA by default (R89). -/
def Facet.snkOp10 (f : Facet) : Nat := (if f.cfg.snkOpMa = 0 then 500 else f.cfg.snkOpMa) / 10
/-- Sink objects; a facet without tables sinks at 5 V with `SNK_OP_MA` (text of R97). -/
def Facet.snkTable (f : Facet) : List Word :=
  match f.pdo with
  | some t => t.snkSpr ++ t.snkEpr
  | none => [fw 10 100 ||| fw 0 f.snkOp10]

/-- Revision 2.0 is in use with the partner (R202). -/
def Facet.rev2 (f : Facet) : Bool := decide (f.pd.rev = 1)

/-- The cable's current limit, 10 mA (R259, `Fx_CT_CABLE`). -/
def State.cableMa10 (s : State) (p : Port) : Nat := if s.rf (fx p 0x106) 0 2 = 2 then 500 else 300
/-- The cable's voltage limit, mV. -/
def State.cableMv (s : State) (p : Port) : Nat := 20000 + 10000 * s.rf (fx p 0x106) 2 2

/-- A grant of 0.5 W units at a voltage, in 10 mA (R236). -/
def grantMa10 (g mv : Nat) : Nat := if mv = 0 then 0 else g * 50000 / mv

/-- A Fixed object's voltage lies within ±5 % of the bus's, or it is the 5 V object on a vSafe5V bus (R233). -/
def nearBus (mv bus : Nat) : Bool :=
  decide (mv * 100 ≤ bus * 105 ∧ bus * 95 ≤ mv * 100) || (decide (mv = 5000) && inSafe5V bus)

/-- One object as it is offered, `none` when it is omitted (R233, R236). -/
def offerObj (own rev2 : Bool) (bus g cabMa cabMv : Nat) (w : Word) : Option Word :=
  let mv := pdoMv w
  match pdoKind w with
  | .fixed =>
    let i := min (pdoMa10 w) (min cabMa (grantMa10 g mv))
    if cabMv < mv || (!own && !nearBus mv bus) then none
    else if i < 50 && decide (mv ≠ 5000) then none
    else some (pdoWithMa10 w i)
  | .pps =>
    let i := min (pdoMa10 w) (min cabMa (grantMa10 g mv)) / 5 * 5
    if !own || rev2 || decide (cabMv + 1000 < mv) || decide (i < 100) then none else some (pdoWithMa10 w i)
  | .avs =>
    let pdp := min (fld w 0 8) (g / 2)
    if !own || rev2 || decide (cabMv < mv) || decide (pdp = 0) then none else some (pdoWithPdp w pdp)
  | .battery => none
  | .variable => none

/-- R265: the offer is gated. -/
def State.gated (s : State) (p : Port) : Bool := s.bit (fx p 0x100) 8 && !(s.facet p).ct.authed

/-- The SPR objects a source facet offers now. -/
def State.offerNow (s : State) (p : Port) : List Word :=
  let f := s.facet p
  let l := f.srcTable.filterMap
    (offerObj (s.owner p) f.rev2 (s.nbus (s.busOf p)) f.ct.grant (s.cableMa10 p) (s.cableMv p))
  if s.gated p then l.filter fun w => decide (pdoKind w = .fixed) && decide (pdoMv w = 5000) else l

/-- The EPR objects a source facet offers in EPR mode, after the SPR objects filled to seven (R247); none while gated (R265). -/
def State.eprOfferNow (s : State) (p : Port) : List Word :=
  let f := s.facet p
  padTo 7 0 (s.offerNow p) ++ (if s.gated p then [] else f.eprTable.filterMap
    (offerObj (s.owner p) f.rev2 (s.nbus (s.busOf p)) f.ct.grant (s.cableMa10 p) (s.cableMv p)))

/-- The bus keeps a non-owner from sending Source_Capabilities (R233). -/
def State.offerBlocked (s : State) (p : Port) : Bool := !s.owner p && !inSafe5V (s.nbus (s.busOf p))

/-- `OFFER` of what a facet would offer now (R267). -/
def State.offerCodeNow (s : State) (p : Port) : Nat :=
  let f := s.facet p
  if s.offerBlocked p then 4
  else if f.ct.grant = 0 ∧ 0 < f.ct.pending then 3
  else if s.gated p then 5
  else if s.offerNow p = f.srcTable then 1 else 2

/-- Ownership were the facet a source with a grant: what R234 judges offerability by, before an FR_Swap's change of role too (R255). -/
def State.wouldOwn (s : State) (p : Port) : Bool :=
  (s.modCt p fun c => { c with grant := 1, prole := true }).owner p

/-- The power request of R234 in 0.5 W: the largest V × Imax of the offerable source objects. -/
def State.sizeRequest (s : State) (p : Port) : Nat :=
  let f := s.facet p
  let own := s.wouldOwn p
  let objs := f.srcTable ++ (if f.ct.epr then f.eprTable else [])
  let ok := objs.filter fun w => (offerObj own f.rev2 (s.nbus (s.busOf p)) 60000 500 (s.cableMv p) w).isSome
  halfWattsUp (ok.foldl (fun a w => max a (pdoMw w)) 0)

/-- Register a request for the facet's power (R38, R134); none is registered in a hold (R125). -/
def State.registerGrant (s : State) (p : Port) : State :=
  if (s.facet p).fstate = .held then s
  else
    let n := s.sizeRequest p
    s.modCt p fun c => { c with pending := n, pendAt := s.cycles, resize := none }

/-- R234: withdraw the grant and register a request; none is registered in a hold (R125). -/
def State.requestGrant (s : State) (p : Port) : State :=
  if (s.facet p).fstate = .held then s
  else (s.modCt p fun c => { c with grant := 0, pending := 0 }).registerGrant p

/-! ### Rp and VCONN -/

/-- `Fx_CC_CFG.RP_LEVEL`. -/
def State.rpLevel (s : State) (p : Port) : Nat := s.rf (fx p 0x040) 0 2

/-- The Rp a facet presents, coded as `RP_OUT` (R182, R207). -/
def State.rpWanted (s : State) (p : Port) : Nat :=
  let f := s.facet p
  if f.cc.term ≠ .rp then 0
  else if f.ct.contract && f.ct.prole && decide (f.pd.rev = 2) then (if f.pd.txNg then 2 else 3)
  else s.rpLevel p + 1

/-- Present the Rp due; frozen while HELD (R125). -/
def State.refreshRp (s : State) (p : Port) : State :=
  if (s.facet p).fstate = .held then s
  else s.modCc p fun c => { c with rpOut := BitVec.ofNat 2 (s.rpWanted p) }

/-- Present a termination on both pins (R172). -/
def State.present (s : State) (p : Port) (t : Term) : State := (s.modCc p fun c => { c with term := t }).refreshRp p

/-- R185: the facet applies VCONN, in Attached.SRC or once it has become its source through VCONN_Swap; off while Hard Reset
recovery holds VBUS off (R224). -/
def State.vconnDue (s : State) (p : Port) : Bool :=
  let f := s.facet p
  f.cc.attached && f.ct.vconnSrc && (decide (f.cc.tc = .attachedSrc) || f.cc.vconnSwap) && f.cc.ra && s.bit (fx p 0x040) 2 && !f.cc.vconnOc
    && !(if f.cc.orient then f.cc.ov1 else f.cc.ov2) && decide (f.pd.hrPhase ≠ 2) && decide (f.pd.hrPhase ≠ 3)

/-- Apply or remove VCONN (R185); frozen while HELD (R125). -/
def State.refreshVconn (s : State) (p : Port) : State :=
  if (s.facet p).fstate = .held then s
  else s.modCc p fun c => { c with vconnOn := s.vconnDue p }

/-! ### Sink selection -/

/-- The lowest voltage of an object that a sink must take: of PPS and AVS it chooses the voltage, and the model the highest. -/
def pdoLowMv (w : Word) : Nat :=
  match pdoKind w with
  | .variable => pdoMinMv w
  | .battery => pdoMinMv w
  | _ => pdoMv w

/-- A sink object covers an offered object in voltage (R241). -/
def covers (w t : Word) : Bool := decide (pdoMinMv t ≤ pdoLowMv w) && decide (pdoMv w ≤ pdoMv t)

/-- The sink table object that matches an offered object (R242). -/
def Facet.snkFor (f : Facet) (w : Word) : Option Word := f.snkTable.find? (covers w)

/-- A sink object's operating current at a voltage, 10 mA. -/
def snkMa10 (t : Word) (mv : Nat) : Nat :=
  match pdoKind t with
  | .pps => pdoMa10 t
  | .battery => pdoMw t * 100 / mv
  | .avs => pdoMw t * 100 / mv
  | _ => fld t 0 10

/-- Positions and objects of received Source_Capabilities, from position `k`. -/
def numbered : Nat → List Word → List (Nat × Word)
  | _, [] => []
  | k, w :: ws => (k, w) :: numbered (k + 1) ws

/-- The voltage a facet's port delivers or takes now: its contract's, or 5 V. -/
def Facet.nowMv (f : Facet) : Nat := if f.ct.contract then f.ct.now.mv else 5000

/-- Another port's switch on the same bus is closed in the source role (R243). -/
def State.busSourcingOther (s : State) (p : Port) : Bool :=
  allPorts.any fun q => decide (q ≠ p) && decide (s.busOf q = s.busOf p) && (s.facet q).pp.sw.conducts
    && (s.facet q).ct.prole

/-- R243: an object at the present contract voltage, where another port sources the same bus. -/
def State.busAllows (s : State) (p : Port) (w : Word) : Bool :=
  !s.busSourcingOther p || (decide (pdoKind w = .fixed) && decide (pdoMv w = (s.facet p).nowMv))

/-- R243 for the vSafe5V object. -/
def State.busAllows5 (s : State) (p : Port) : Bool := !s.busSourcingOther p || decide ((s.facet p).nowMv = 5000)

/-- The vSafe5V object. -/
def isSafe5 (w : Word) : Bool := decide (pdoKind w = .fixed) && decide (pdoMv w = 5000)

/-- The objects a sink may ask for by itself, with their positions (R241, R243, R265, R58). -/
def State.candidates (s : State) (p : Port) (caps : List Word) : List (Nat × Word) :=
  let f := s.facet p
  (numbered 1 caps).filter fun kw =>
    decide (0 < pdoMv kw.2) && (f.snkFor kw.2).isSome && (!(s.gated p || f.ct.only5v) || isSafe5 kw.2) && s.busAllows p kw.2

/-- The better of two objects: higher power, or lower voltage when `SNK_SEL` is 1; the earlier one at a tie. -/
def betterObj (low : Bool) (a b : Nat × Word) : Nat × Word :=
  if low then (if pdoMv b.2 < pdoMv a.2 then b else a) else (if pdoMw a.2 < pdoMw b.2 then b else a)

/-- The request for an object at a current: of a PPS or AVS object at its highest voltage, for which neither `REQUEST` nor a table
gives another (the model's choice, log entry 71). -/
def reqAt (k : Nat) (epr : Bool) (w : Word) (ma10 : Nat) : Req :=
  let mv := pdoMv w
  match pdoKind w with
  | .pps => ⟨k, epr, true, mv, ma10, mkRdoPps k mv ma10⟩
  | .avs => ⟨k, epr, false, mv, ma10, mkRdoAvs k mv ma10⟩
  | .battery => ⟨k, epr, false, mv, ma10, mkRdo k (ma10 * mv / 25000) false⟩
  | _ => ⟨k, epr, false, mv, ma10, mkRdo k ma10 false⟩

/-- The request for an object, its current that of the matching sink object (R242). -/
def State.requestFor (s : State) (p : Port) (k : Nat) (w : Word) (epr : Bool) : Req :=
  let f := s.facet p
  reqAt k epr w (match f.snkFor w with
    | some t => if f.ct.only5v then f.snkOp10 else snkMa10 t (pdoMv w)
    | none => f.snkOp10)

/-- R241: the sink's choice among Source_Capabilities; with no match, the vSafe5V object with Capability Mismatch (R242), but no
request at all where R243 forbids that one (log entry 24). -/
def State.selectReq (s : State) (p : Port) (caps : List Word) : Option Req :=
  let f := s.facet p
  match s.candidates p caps with
  | [] =>
    if s.busAllows5 p then
      some { pos := 1, epr := false, pps := false, mv := 5000, ma10 := f.snkOp10, rdo := mkRdo 1 f.snkOp10 true }
    else none
  | c :: cs =>
    let b := cs.foldl (betterObj (decide (s.rf (fx p 0x100) 0 2 = 1))) c
    some (s.requestFor p b.1 b.2 (decide (7 < b.1)))

/-- The position that `REQUEST` names, among the objects received: `ARG`[3] counts on from the seven SPR ones (the model's choice,
log entry 72). -/
def argPos (arg : Nat) : Nat := if arg / 8 % 2 = 1 then arg % 8 + 7 else arg % 8

/-- The object that `REQUEST` names. -/
def State.argObj (s : State) (p : Port) (arg : Nat) : Word := (s.facet p).ct.srcCaps.getD (argPos arg - 1) 0

/-- The request an accepted `REQUEST` makes from its position, EPR bit and current, 0 taking the table's (R266). -/
def State.commandReq (s : State) (p : Port) (arg : Nat) : Req :=
  let k := argPos arg
  let epr := decide (arg / 8 % 2 = 1)
  if arg / 16 = 0 then s.requestFor p k (s.argObj p arg) epr else reqAt k epr (s.argObj p arg) (arg / 16)

/-! ### Start and end of a contract -/

/-- R239: the converter's limit request follows a PPS contract, rounded up to 50 mA. -/
def State.ppsLimit (s : State) (p : Port) (r : Req) : State :=
  match s.busConv (s.busOf p) with
  | none => s
  | some c =>
    if s.hub.fstate = .held then s
    else if r.pps then (s.setFld (convBase c + 3) 0 8 (min 255 ((r.ma10 + 4) / 5))).refreshConv c (s.droopOf c) else s

/-- The contract takes effect (R238): CONTRACT is posted. -/
def State.startContract (s : State) (p : Port) (r : Req) : State :=
  let s := s.modCt p fun c => { c with contract := true, now := r, hadContract := true }
  (s.refreshRp p).postF p 0x13 (BitVec.ofNat 16 (r.pos % 8 + if r.epr then 8 else 0))

/-- The contract ends: CONTRACT_END is posted, EPR mode and a transition in progress end with it. -/
def State.endContract (s : State) (p : Port) : State :=
  if (s.facet p).ct.contract then
    let s := s.modCt p fun c => { c with contract := false, now := .zero, epr := false, trans := false }
    (s.refreshRp p).postF p 0x14 0
  else s.modCt p fun c => { c with epr := false, trans := false }

/-- A transceiver connected or disconnected: characters in progress are abandoned (R495); a halt lasts until `COLLISION`
is cleared (R490), and the mark of R493 until `RXRD` is written. -/
def Lk.cut (l : Lk) : Lk := { Lk.reset with txHalt := l.txHalt, posted := l.posted }

/-- The chain-link mode ends: transceiver disconnected, ALTMODE posted with `ARG`[0] = 0 (R263). -/
def State.linkOff (s : State) (p : Port) : State :=
  if (s.facet p).ct.linkOn then
    let s := s.modF p fun f => { f with lk := f.lk.cut, ct := { f.ct with linkOn := false } }
    s.postF p 0x25 0
  else s

/-- The facet's own VDM table lists the chain link's SVID (R96, R262). -/
def Facet.listsLink (f : Facet) : Bool :=
  match f.vdm with
  | some t => t.svids.any fun v => decide (v.svid = linkSvid)
  | none => false

/-- What the probe of the non-terminated pin shows: the class it reads while Rp is presented, or what a probe with Rp Default
finds (R253). -/
def State.raFound (s : State) (p : Port) : Bool :=
  if (s.facet p).cc.term = .rp then (s.facet p).cc.ra else s.sense.probe.get p

/-- Index of SVID 0x2F7A in the VDM table. -/
def linkIndex : Nat → List Svid → Nat
  | _, [] => 0
  | k, v :: vs => if v.svid = linkSvid then k else linkIndex (k + 1) vs

/-- The chain-link mode is entered: transceiver connected, ALTMODE posted with `ARG`[0] = 1 (R263). -/
def State.linkEnter (s : State) (p : Port) : State :=
  let idx := match (s.facet p).vdm with | some t => linkIndex 0 t.svids | none => 0
  let s := s.modF p fun f => { f with lk := { f.lk.cut with connAt := s.cycles }, ct := { f.ct with linkOn := true } }
  s.postF p 0x25 (BitVec.ofNat 16 (1 + 256 * idx))

end Sys2Proof.Machine
end

