-- ==== Sys2Proof/Machine/Pd.lean ====
section
/-! DEFINITION. The PD protocol engine's shared operations: starting and queueing messages under collision avoidance
(R202 to R208), failures (R205), Soft Reset and the ordering of Hard Reset (R220 to R222), offers and requests on the
line, and the steps the facet takes when a message of its own is acknowledged. -/
namespace Sys2Proof.Machine

/-! ### Transmission -/

/-- An explicit Revision 3.x contract stands, so collision avoidance applies (R207, R208). -/
def Facet.avoids (f : Facet) : Bool := f.ct.contract && decide (f.pd.rev = 2)

/-- The message may start now (R207, R208). -/
def Facet.mayStart (f : Facet) (m : TxMsg) : Bool :=
  !m.init || !f.avoids || (if f.ct.prole then f.pd.txNg && !f.pd.txWait else decide (f.cc.partnerRp = 3))

/-- Data objects on the line: of an Extended message, its extended header and up to 26 data bytes a chunk (R210). -/
def TxMsg.lineObjs (m : TxMsg) : Nat :=
  if m.cls = .extended then (5 + min 26 (m.len - 26 * m.chunk)) / 4 else min 7 m.objs.length

/-- More chunks follow the one on the line. -/
def TxMsg.more (m : TxMsg) : Bool := decide (m.cls = .extended) && decide (26 * (m.chunk + 1) < m.len)

/-- The header of a message as it starts (R202): type, roles, revision, MessageID, count of objects, Extended. -/
def Facet.txHeader (f : Facet) (m : TxMsg) : Half :=
  let rev := if f.pd.rev = 1 then 1 else 2
  let d := if m.sop = .sop ∧ f.ct.drole = true then 32 else 0
  let r := if m.sop = .sop ∧ f.ct.prole = true then 256 else 0
  BitVec.ofNat 16 (m.typ.toNat + d + 64 * rev + r + 512 * (f.pd.txId.get m.sop).toNat
    + 4096 * m.lineObjs + (if m.cls = .extended then 32768 else 0))

/-- A waiting message for which the source must turn to SinkTxNG first (R207). -/
def Facet.needsNg (f : Facet) : Bool :=
  f.ct.prole && !f.pd.txNg && f.pd.queue.any fun m => !f.mayStart m

/-- R207: turn to SinkTxNG, and wait 18 ms. -/
def State.turnNg (s : State) (p : Port) : State :=
  if (s.facet p).needsNg then (s.modPd p fun d => { d with txNg := true, txWait := true }).refreshRp p else s

/-- Start the oldest waiting message that may start, if none is in flight (R202, R207, R208). -/
def State.pump (s : State) (p : Port) : State :=
  let s := s.turnNg p
  let f := s.facet p
  match f.pd.inFlight, f.pd.queue.find? f.mayStart with
  | none, some m =>
    s.modPd p fun d => { d with inFlight := some { m with hdr := f.txHeader m }, queue := d.queue.erase m }
  | _, _ => s

/-- A firmware message that is not sent ends FAILED (R231). -/
def State.fwFailed (s : State) (p : Port) (m : TxMsg) : State :=
  if m.fw then s.modPd p fun d => { d with txStat := .failed } else s

/-- Queue a message and start it if it may. An Extended message is not sent at Revision 2.0 (R202), and none is by a facet that runs
without PD (R227). -/
def State.send (s : State) (p : Port) (m : TxMsg) : State :=
  let f := s.facet p
  if f.pd.mute || (decide (m.cls = .extended) && f.rev2) then s.fwFailed p m
  else (s.modPd p fun d => { d with queue := d.queue ++ [m] }).pump p

/-- Take up a sequence; no wait for an answer runs yet. -/
def State.setSeq (s : State) (p : Port) (q : Seq) : State := s.modPd p fun d => { d with seq := q, seqDue := none }

/-- The sequence ends. -/
def State.endSeq (s : State) (p : Port) : State := s.setSeq p .none

/-- No sequence of the facet's own is under way: one that waits to ask again after BUSY is not (R207). -/
def Seq.rests : Seq → Bool
  | .none => true
  | .vdmBusy _ => true
  | _ => false

/-- Nothing of the facet's own is being sent or awaited. -/
def Pd.rests (d : Pd) : Bool :=
  d.seq.rests && d.cable.isNone && d.srCable.isNone && d.inFlight.isNone && d.queue.isEmpty && d.chunkTx.isNone
    && d.chunkRx.isNone && !(d.fwDue.isSome && d.fwAsk)

/-- R207: return to SinkTxOk once the sequence has ended and no message of the facet's own is left. -/
def State.restTx (s : State) (p : Port) : State :=
  let d := (s.facet p).pd
  if d.txNg && !d.txWait && d.rests then (s.modPd p fun d => { d with txNg := false }).refreshRp p else s

/-- Not_Supported, or Reject at Revision 2.0 (R202). -/
def State.notSupported (s : State) (p : Port) (sp : Sop) : State :=
  s.send p (mkCtl sp (if (s.facet p).rev2 then 0x04 else 0x10))

/-- Every MessageID back to 0, with no message received yet (R203; log entry 73 for a first message that carries 0). -/
def Pd.resetIds (d : Pd) : Pd := { d with txId := .all 0, rxId := .all 0, rxSeen := .all false }

/-- MessageIDs of one ordered-set type back to 0 (R203). -/
def Pd.resetIdsOf (d : Pd) (sp : Sop) : Pd :=
  { d with txId := d.txId.set sp 0, rxId := d.rxId.set sp 0, rxSeen := d.rxSeen.set sp false }

/-- A message has the MessageID stored for its ordered set (R204). -/
def Pd.repeats (d : Pd) (sp : Sop) (id : BitVec 3) : Bool := d.rxSeen.get sp && decide (d.rxId.get sp = id)

/-- No offer has been sent to this partner yet (R237). -/
def Pd.freshCaps (d : Pd) : Pd := { d with capsSent := 0, capsAck := false }

/-- SWAP event: kind 0 PR, 1 DR, 2 FR, 3 VCONN, and whether it completed. -/
def State.postSwap (s : State) (p : Port) (kind : Nat) (ok : Bool) : State :=
  s.postF p 0x24 (BitVec.ofNat 16 (kind + if ok then 4 else 0))

/-- The kind of swap in the power-role sequence: FR_Swap when the facet signalled it (R257). -/
def Facet.swapKind (f : Facet) : Nat := if f.ct.frsActive then 2 else 0

/-- A swap in progress is lost: SWAP is posted with bit 2 clear (R252). -/
def State.swapLost (s : State) (p : Port) : State :=
  match (s.facet p).pd.seq with
  | .prs _ => s.postSwap p (s.facet p).swapKind false
  | .drs _ => s.postSwap p 1 false
  | .vcs _ => s.postSwap p 3 false
  | .frs _ => s.postSwap p 2 false
  | _ => s

/-- Cut off what is on the line and discard what waits (R222); a buffer message in flight ends with `TX_FAIL`. -/
def State.cutTx (s : State) (p : Port) : State :=
  let s := s.swapLost p
  let d := (s.facet p).pd
  let s := match d.inFlight with
    | some m => if m.fw then (s.fwFailed p m).orReg (fx p 0x082) (flag 3 true) else s
    | none => s
  let s := d.queue.foldl (fun s m => s.fwFailed p m) s
  s.modPd p fun d => { d with inFlight := none, queue := [], chunkRx := none, chunkTx := none, fwAwait := false
                              txNg := false, txWait := false, seq := .none, seqDue := none, cable := none, cableDue := none
                              srCable := none, fwDue := none, fwAsk := false, bistCarrier := false, busyCount := 0 }

/-- Abandon the sequence in progress on SOP; an alternating transition stops where it is. -/
def State.abandon (s : State) (p : Port) : State :=
  let s := s.swapLost p
  let s := s.modPd p fun d => { d with seq := .none, seqDue := none, chunkRx := none, chunkTx := none }
  s.modCt p fun c => { c with trans := false, frsActive := false, authRun := false }

/-- Abandon the sequence in progress on an ordered-set type (R220): the cable's is an identity it has not answered yet. -/
def State.abandonOn (s : State) (p : Port) (sp : Sop) : State :=
  if sp = .sop then s.abandon p
  else s.modPd p fun d => if d.cable = some sp then { d with cable := none, cableDue := none } else d

/-! ### Hard Reset and Soft Reset -/

/-- Order Hard Reset signalling (R222); `cause` is the value of source 0x0B when the facet's own policy orders it, 0
otherwise (R404). Nothing is sent once the limit of R227 is reached. As sink the switch opens at its start (R226), and its feed is
lost (R294). -/
def State.orderHardReset (s : State) (p : Port) (cause : Nat) : State :=
  let f := s.facet p
  if !f.cc.attached || !f.pd.pdEn || f.pd.mute || f.pd.hrSending || decide (f.pd.hrCount = 3) then s
  else
    let s := if cause = 0 then s else s.fault (portNo p) 0x0B cause
    let s := s.cutTx p
    let s := s.modPd p fun d => { d with hrSending := true }
    if f.ct.prole then s else ((s.feedGone p).openSwitch p).modPd p fun d => { d with hrSink := true }

/-- Send Soft_Reset on an ordered-set type and wait for Accept (R203, R221); collision avoidance does not hold it back (log entry
89). What waits on that type is discarded. -/
def State.sendSoftReset (s : State) (p : Port) (sp : Sop) : State :=
  let s := s.abandonOn p sp
  let s := ((s.facet p).pd.queue.filter fun m => decide (m.sop = sp)).foldl (fun s m => s.fwFailed p m) s
  let s := s.modPd p fun d =>
    { (d.resetIdsOf sp) with queue := d.queue.filter fun m => decide (m.sop ≠ sp)
                             srCable := if sp = .sop then d.srCable else some sp }
  (if sp = .sop then s.setSeq p .softReset else s).send p (mkCtl sp 0x0D)

/-- R215: a message not expected in the sequence; Hard Reset while power is in transition, Soft_Reset otherwise
(PRESUMED of USB PD 3.1, log entry 13). -/
def State.protocolError (s : State) (p : Port) : State :=
  let f := s.facet p
  let moving := f.ct.trans || (match f.pd.seq with
    | .srcWait _ => true | .snkAccepted _ => true | .prs _ => true | .frs _ => true | _ => false)
  if moving then s.orderHardReset p 6 else s.sendSoftReset p .sop

/-- The message that opens or carries on a sequence from the facet's side. -/
def TxMsg.isOf (m : TxMsg) (q : Seq) : Bool :=
  let c := fun n => decide (m.cls = .control) && decide (m.typ.toNat = n)
  let d := fun n => decide (m.cls = .data) && decide (m.typ.toNat = n)
  let e := fun n => decide (m.cls = .extended) && decide (m.typ.toNat = n)
  match q with
  | .srcOffer => d 0x01 || e 0x11
  | .srcAccepted _ => c 0x03
  | .srcReady _ => c 0x06
  | .snkRequested _ => d 0x02 || d 0x09
  | .prs .requested => c 0x0A
  | .prs .accepting => c 0x03
  | .prs .srcPsRdy => c 0x06
  | .prs .snkPsRdy => c 0x06
  | .drs true => c 0x09
  | .drs false => c 0x03
  | .vcs .requested => c 0x0B
  | .vcs .accepting => c 0x03
  | .vcs .turningOn => c 0x06
  | .frs .accepting => c 0x03
  | .frs .psRdySent => c 0x06
  | .frs .txSignalled => c 0x13
  | .epr _ => d 0x0A
  | .vdm _ => d 0x0F
  | .auth => e 0x08
  | .getSourceCap => c 0x07
  | .getSinkCap => c 0x08
  | .softReset => c 0x0D
  | _ => false

/-- The message belongs to the sequence in progress on its ordered set. -/
def Facet.owns (f : Facet) (m : TxMsg) : Bool := decide (m.sop = .sop) && !m.fw && m.isOf f.pd.seq

/-- A message whose resends ran out, or a failed chunked send (R205). An offer that a partner never heard from leaves unacknowledged
is not answered by Soft_Reset: R237 has it repeated (the model's reading, log entry 74), and after nCapsCount the facet stays attached
without PD. -/
def State.txFailed (s : State) (p : Port) (m : TxMsg) : State :=
  let arg := pdArg m.typ.toNat m.cls m.sop
  let s := s.modPd p fun d => { d with inFlight := none, chunkTx := none }
  let s := s.orReg (fx p 0x082) (flag 3 true)
  let s := s.fwFailed p m
  let s := s.postF p 0x21 arg
  let s := s.fault (portNo p) 0x09 arg.toNat
  if m.sop = .sop then
    if m.cls = .control ∧ m.typ = 0x0D then (s.endSeq p).orderHardReset p 1
    else if m.cls = .data ∧ m.typ = 0x01 ∧ (s.facet p).pd.partner = false then
      (s.endSeq p).modPd p fun d => { d with mute := d.mute || decide (50 ≤ d.capsSent) }
    else s.sendSoftReset p .sop
  else if m.fw then s
  else s.modPd p fun d => { d with cable := none, cableDue := none, srCable := none }

/-! ### Offers and requests -/

/-- Source_Capabilities, or EPR_Source_Capabilities in EPR mode, of what the facet offers now; owed while the grant is awaited, and
not sent where the bus forbids Source_Capabilities (R233, R235). `init` says that collision avoidance holds it back (R207). -/
def State.sendCaps (s : State) (p : Port) (init : Bool := true) : State :=
  let f := s.facet p
  let code := s.offerCodeNow p
  let s := s.modCt p fun c => { c with offerCode := BitVec.ofNat 3 code }
  if f.ct.grant = 0 ∧ 0 < f.ct.pending then s.modCt p fun c => { c with offerOwed := true }
  else if (code = 4 ∧ f.ct.epr = false) ∨ f.srcTable = [] then s
  else
    let offer := if f.ct.epr then s.eprOfferNow p else s.offerNow p
    let s := s.modCt p fun c => { c with offer := offer, offerOwed := false, offerFast := false }
    let s := (s.modPd p fun d => { d with capsSent := d.capsSent + 1, capsAck := false }).setSeq p .srcOffer
    let m := if f.ct.epr then mkExt .sop 0x11 (4 * offer.length) offer else mkData .sop 0x01 offer
    s.send p (if init then m.initiate else m)

/-- Send a Request, or in EPR mode an EPR_Request with a copy of the object (R241, R266; log entry 72). -/
def State.sendRequest (s : State) (p : Port) (r : Req) (init : Bool := false) : State :=
  let f := s.facet p
  let s := s.setSeq p (.snkRequested r)
  let s := if rdoMismatch r.rdo then s.orReg (fx p 0x107) (flag 0 true) else s
  let m := if f.ct.epr then mkData .sop 0x09 [r.rdo, f.ct.srcCaps.getD (r.pos - 1) 0] else mkData .sop 0x02 [r.rdo]
  s.send p (if init then m.initiate else m)

/-- The sink's own choice goes out, if there is one (R241 to R243). -/
def State.sendChoice (s : State) (p : Port) (r : Option Req) (init : Bool := false) : State :=
  match r with
  | some r => s.sendRequest p r init
  | none => s.endSeq p

/-- Get_Source_Cap within 2 ms (R133, R265). -/
def State.sendGetCaps (s : State) (p : Port) : State := (s.setSeq p .getSourceCap).send p (mkCtl .sop 0x07)

/-! ### Swaps -/

/-- Set the discharge of an open switch by whether the partner sources now (R277). -/
def State.refreshDisch (s : State) (p : Port) : State :=
  let f := s.facet p
  if f.pp.sw = .open ∧ f.fstate ≠ .held then
    s.modPp p fun x =>
      { x with disch := if f.partnerSourcing then .off else if x.disch = .strong then .strong else .bleeder }
  else s

/-- Become sink on the terminated pin: Rd, power role, Type-C state (R252). -/
def State.becomeSink (s : State) (p : Port) : State :=
  let s := s.modF p fun f =>
    { f with ct := { f.ct with prole := false }, cc := { f.cc with tc := .attachedSnk, term := .rd } }
  ((s.refreshRp p).refreshVconn p).refreshDisch p

/-- Become source on the terminated pin: Rp at `RP_LEVEL`, power role, Type-C state (R252, R255). -/
def State.becomeSource (s : State) (p : Port) : State :=
  let s := s.modF p fun f =>
    { f with ct := { f.ct with prole := true, srcCaps := [] }, cc := { f.cc with tc := .attachedSrc, term := .rp, partnerRp := 0, rpDeb := false }
             pd := f.pd.freshCaps }
  ((s.refreshRp p).refreshVconn p).refreshDisch p

/-- A PR_Swap stands accepted (R252): the source waits tSrcTransition, the sink opens its switch and waits. -/
def State.prsAccepted (s : State) (p : Port) : State :=
  if (s.facet p).ct.prole then s.setSeq p (.prs .srcWait)
  else (s.openSwitch p).setSeq p (.prs .snkWait)

/-- The facet changes VCONN source (R253); the SOP′ and SOP″ MessageIDs reset. On becoming it in Attached.SRC the facet asks the cable
for its identity (R258). -/
def State.setVconnSrc (s : State) (p : Port) (on : Bool) : State :=
  let s := s.modF p fun f =>
    { f with ct := { f.ct with vconnSrc := on
                               startup := if on && decide (f.cc.tc = .attachedSrc) then f.ct.startup ++ [.cable] else f.ct.startup }
             cc := { f.cc with vconnSwap := on, probed := f.cc.probed && on } }
  let s := s.modPd p fun d => (d.resetIdsOf .sopP).resetIdsOf .sopPP
  s.refreshVconn p

/-- A VCONN_Swap stands accepted (R253): the new source applies VCONN and sends PS_RDY, the old one waits for it. -/
def State.vcsAccepted (s : State) (p : Port) : State :=
  if (s.facet p).ct.vconnSrc then s.setSeq p (.vcs .waitPsRdy)
  else ((s.setVconnSrc p true).setSeq p (.vcs .turningOn)).send p (mkCtl .sop 0x06)

/-- A DR_Swap stands accepted: data roles change, SWAP is posted. -/
def State.drsDone (s : State) (p : Port) : State :=
  let s := (s.modCt p fun c => { c with drole := !c.drole }).endSeq p
  s.postSwap p 1 true

/-! ### VDMs, EPR and authentication -/

/-- Send a structured VDM request on SOP (R260). -/
def State.vdmRequest (s : State) (p : Port) (svid : Half) (pos cmd : Nat) (st : VdmStep) : State :=
  (s.setSeq p (.vdm st)).send p (mkData .sop 0x0F [vdmHeader svid 5 pos 0 cmd]).initiate

/-- The request of a step of discovery or of the chain-link mode (R260, R262, R263). -/
def State.vdmStep (s : State) (p : Port) (st : VdmStep) : State :=
  match st with
  | .identity => s.vdmRequest p pdSid 0 1 st
  | .svids => s.vdmRequest p pdSid 0 2 st
  | .modes => s.vdmRequest p linkSvid 0 3 st
  | .enterMode => s.vdmRequest p linkSvid 1 4 st
  | .exitMode => s.vdmRequest p linkSvid 1 5 st
  | _ => s.endSeq p

/-- Begin a step of its own, with no BUSY counted yet. -/
def State.vdmBegin (s : State) (p : Port) (st : VdmStep) : State :=
  (s.modPd p fun d => { d with vdmTries := 0 }).vdmStep p st

/-- Discover Identity on SOP′ or SOP″ (R258, R259). -/
def State.cableAsk (s : State) (p : Port) (sp : Sop) : State :=
  (s.modPd p fun d => { d with cable := some sp, cableDue := none }).send p (mkData sp 0x0F [vdmHeader pdSid 5 0 0 1]).initiate

/-- Discover Identity on SOP′ once more, counted in `ATTEMPTS` (R258). -/
def State.cableIdentity (s : State) (p : Port) : State := (s.count (fx p 0x106) 7 5).cableAsk p .sopP

/-- The cable may be asked once more after the first contract (R258): no answer yet, and attempts left. -/
def State.cableLeft (s : State) (p : Port) : Bool :=
  let f := s.facet p
  f.ct.vconnSrc && s.bit (fx p 0x080) 1 && decide (s.rf (fx p 0x106) 0 2 = 0) && decide (s.rf (fx p 0x106) 7 5 < 20)
    && decide (f.pd.busyCount < 5)

/-- EPR_Mode with an action and its data. -/
def State.sendEprMode (s : State) (p : Port) (action data : Nat) : State :=
  s.send p (mkData .sop 0x0A [fw 24 action ||| fw 16 data])

/-- Enter EPR mode as sink (R249); there is none with a partner at Revision 2.0 (R202). -/
def State.eprEnterSend (s : State) (p : Port) : State :=
  if (s.facet p).rev2 then s
  else (s.setSeq p (.epr .snkEntering)).send p (mkData .sop 0x0A [fw 24 1]).initiate

/-- Leave EPR mode (R249): the source offers its SPR objects. -/
def State.eprLeave (s : State) (p : Port) : State :=
  let s := (s.modCt p fun c => { c with epr := false }).endSeq p
  if (s.facet p).ct.prole then s.sendCaps p false else s

/-- After a pass under `AUTH_GATE` the offer is renewed within 2 ms (R265). -/
def State.authPassed (s : State) (p : Port) : State :=
  let s := s.modCt p fun c => { c with authed := true }
  if !s.bit (fx p 0x100) 8 then s
  else if (s.facet p).ct.prole then s.sendCaps p false
  else s.sendGetCaps p

/-- The exchange ends (R264): AUTH is posted, and a failure sets `AUTH_FAIL` and raises its fault source. -/
def State.authEnd (s : State) (p : Port) (r : AuthResult) : State :=
  let s := s.modCt p fun c => { c with authRun := false, authX := .reset }
  let s := if (s.facet p).pd.seq = .auth then s.endSeq p else s
  match r with
  | .passed => (s.authPassed p).postF p 0x26 0
  | .failed => ((s.orReg (fx p 0x107) (flag 5 true)).postF p 0x26 1).fault (portNo p) 0x0F 0
  | .unsupported => s.postF p 0x26 2

/-- Onyx asks (R264): one Security_Request of the exchange, its bytes four a word. -/
def State.authAsk (s : State) (p : Port) (stage : Nat) (bs : List Byte) : State :=
  let s := s.modCt p fun c => { c with authX := { c.authX with stage := stage } }
  (s.setSeq p .auth).send p (mkExt .sop 0x08 bs.length (byteWords ((bs.length + 3) / 4) bs)).initiate

/-- Onyx starts the Type-C Authentication exchange with GET_DIGESTS (R264): header version 1.0, type 0x81. A partner at Revision 2.0
takes no Extended message, and counts as one that does not answer (log entry 59). -/
def State.authBegin (s : State) (p : Port) : State :=
  let s := s.modCt p fun c => { c with authRun := true, authX := .reset }
  if (s.facet p).rev2 then s.authEnd p .unsupported else s.authAsk p 1 [0x10, 0x81, 0, 0]

/-! ### What the facet starts by itself -/

/-- One thing the facet starts by itself, if its conditions hold (R133, R249, R257, R258, R262, R264). -/
def State.tryStart (s : State) (p : Port) (x : StartStep) : Option State :=
  let f := s.facet p
  match x with
  | .getCaps => if f.ct.prole then none else some (s.sendGetCaps p)
  | .auth => if f.cfg.auth && !f.ct.authed && !f.ct.authRun then some (s.authBegin p) else none
  | .epr =>
    if !f.ct.prole && s.bit (fx p 0x100) 9 && eprCapable f.ct.srcCaps && !f.ct.epr && !f.rev2
        && (match f.pdo with | some t => !t.snkEpr.isEmpty | none => false) then some (s.eprEnterSend p) else none
  | .cable => if s.cableLeft p then some (s.cableIdentity p) else none
  | .sinkCap =>
    if f.ct.prole && s.bit (fx p 0x100) 6 && decide (f.ct.snkCaps = []) then
      some ((s.setSeq p .getSinkCap).send p (mkCtl .sop 0x08).initiate)
    else none
  | .link =>
    if f.ct.drole && s.bit (fx p 0x100) 7 && f.listsLink && !f.ct.linkOn && !f.ct.partnerLink then some (s.vdmBegin p .identity)
    else none

/-- The first of the things owed whose conditions hold is started; the ones before it are dropped. -/
def State.startFrom (s : State) (p : Port) : List StartStep → State
  | [] => s.modCt p fun c => { c with startup := [] }
  | x :: xs =>
    match (s.modCt p fun c => { c with startup := xs }).tryStart p x with
    | some t => t
    | none => s.startFrom p xs

/-- The offer owed goes out (R133, R235). -/
def State.owedOffer (s : State) (p : Port) : State :=
  let f := s.facet p
  if f.ct.offerOwed && f.ct.prole && f.cc.attached && decide (f.fstate = .live) && f.pd.rests && decide (f.pd.seq = .none) then
    s.sendCaps p (!f.ct.offerFast)
  else s

/-- What follows once nothing of the facet's own is under way: SinkTxOk again (R207), then an offer owed, then what it starts by
itself. -/
def State.idleTx (s : State) (p : Port) : State :=
  let s := (s.pump p).restTx p
  let f := s.facet p
  if !f.pd.rests || decide (f.pd.seq ≠ .none) || !f.cc.attached || decide (f.fstate ≠ .live) then s
  else if f.ct.offerOwed && f.ct.prole then s.owedOffer p
  else if f.ct.contract && !f.ct.trans then s.startFrom p f.ct.startup
  else s

/-- After the first explicit contract since attach (R249, R258, R262, R264). -/
def State.afterFirstContract (s : State) (p : Port) : State :=
  s.modCt p fun c => { c with startup := [.auth, .epr, .cable, .sinkCap, .link] }

/-! ### Acknowledged messages -/

/-- The contract of a source's PS_RDY takes effect (R238): TRANSITION 0 follows a voltage change (R246). -/
def State.sourceContract (s : State) (p : Port) (r : Req) : State :=
  let f := s.facet p
  let first := !f.ct.hadContract
  let moved := f.ct.trans
  let s := (s.modCt p fun c => { c with trans := false }).endSeq p
  let s := s.startContract p r
  let s := if moved then s.postF p 0x23 0 else s
  if first then s.afterFirstContract p else s

/-- The time the facet waits for the partner's answer to its own message, in `CLK` cycles (R230; log entry 59). -/
def Seq.waits : Seq → Option Nat
  | .srcOffer => Option.some 2880000
  | .snkRequested _ => Option.some 2880000
  | .prs .requested => Option.some 2880000
  | .drs true => Option.some 2880000
  | .vcs .requested => Option.some 2880000
  | .frs .txSignalled => Option.some 2880000
  | .epr .snkEntering => Option.some 48000000
  | .vdm .enterMode => Option.some 4320000
  | .vdm .exitMode => Option.some 4320000
  | .vdm .ackEnter => Option.none
  | .vdm .ackExit => Option.none
  | .vdm _ => Option.some 2592000
  | .auth => Option.some 2880000
  | .getSourceCap => Option.some 2880000
  | .getSinkCap => Option.some 2880000
  | _ => Option.none

/-- The wait for the partner's answer begins at the GoodCRC of the message (R230). -/
def State.armWait (s : State) (p : Port) : State :=
  let now := s.cycles
  s.modPd p fun d => { d with seqDue := d.seq.waits.map (now + ·) }

/-- What follows the GoodCRC of a message of the facet's own on SOP, by the sequence in progress. -/
def State.acked (s : State) (p : Port) (m : TxMsg) : State :=
  let f := s.facet p
  if !f.owns m then s
  else match f.pd.seq with
  | .srcOffer => (s.modPd p fun d => { d with capsAck := true }).armWait p
  | .srcAccepted r => s.setSeq p (.srcWait r)
  | .srcReady r => s.sourceContract p r
  | .prs .accepting => s.prsAccepted p
  | .prs .snkPsRdy => ((s.endSeq p).requestGrant p).postSwap p 0 true
  | .drs false => s.drsDone p
  | .vcs .accepting => s.vcsAccepted p
  | .vcs .turningOn => (s.endSeq p).postSwap p 3 true
  | .frs .accepting => s.setSeq p (.frs .waitPsRdy)
  | .frs .psRdySent => (s.modCt p fun c => { c with frsActive := false }).endSeq p
  | .epr .srcEntering => (s.setSeq p (.epr .srcSucceeded)).sendEprMode p 3 0
  | .epr .srcSucceeded => ((s.modCt p fun c => { c with epr := true }).endSeq p |>.requestGrant p).sendCaps p
  | .epr .exiting => s.eprLeave p
  | .vdm .ackEnter => (s.endSeq p).linkEnter p
  | .vdm .ackExit => s.endSeq p
  | _ => s.armWait p

end Sys2Proof.Machine
end

