-- ==== Sys2Proof/Machine/Auth.lean ====
section
/-! DEFINITION. USB Type-C Authentication as Onyx runs it on SOP: responder from certificate slot 0 (R455), and initiator through
GET_DIGESTS, GET_CERTIFICATE and CHALLENGE (R264). The message layouts are those of USB Type-C Authentication 1.0 (PRESUMED, log
entries 12 and 86). -/
namespace Sys2Proof.Machine

/-! ### Responder -/

/-- Bytes as data words of an Extended message. -/
def extOf (sp : Sop) (typ : Nat) (bs : List Byte) : TxMsg := mkExt sp typ bs.length (byteWords ((bs.length + 3) / 4) bs)

/-- Onyx as responder (R455): the answer to an authentication request, from slot 0 with `CHAIN`. The message layouts are
those of USB Type-C Authentication (PRESUMED, log entry 12). -/
def State.authAnswer (s : State) (req : List Byte) : List Byte × State :=
  let err : List Byte := [0x10, 0x7F, 0x04, 0x00]
  let typ := le req 1 1
  let slot := le req 2 1
  match s.onx.idk with
  | none => (err, s)
  | some k =>
    let hash := leBytes 32 (Config.sha256 s.onx.chain).toNat
    if typ = 0x81 then ([0x10, 0x01, 0x01, 0x01] ++ hash, s)
    else if typ = 0x82 ∧ slot = 0 then
      let o := le req 4 2
      let n := min 256 (le req 6 2)
      ([0x10, 0x02, 0x00, 0x00] ++ (s.onx.chain.drop o).take n, s)
    else if typ = 0x83 ∧ slot = 0 then
      let (salt, s) := s.randBytes 8
      let (n, s) := s.rand
      let body := [0x10, 0x03, 0x00, 0x01, 0x10, 0x10, 0x01, 0x00] ++ hash ++ salt ++ List.replicate 32 0
      let sig := Config.ecdsaSign k (Config.sha256 (req.take 36 ++ body)) n
      (body ++ leBytes 64 sig.toNat, s)
    else (err, s)

/-! ### Initiator -/

/-- Certificates of a chain in order, at most `n` of them; `none` where there are more or the bytes spell none. -/
def certsOf : Nat → List Byte → Option (List Cert)
  | 0, bs => if bs = [] then some [] else none
  | n + 1, bs =>
    if bs = [] then some []
    else match Config.firstCert bs with
      | none => none
      | some c => (certsOf n (bs.drop (max 1 c.der.length))).map (c :: ·)

/-- A certificate's signature verifies under an issuer's key (R455). -/
def certSigned (c : Cert) (key : List Byte) : Bool := c.ok && Config.ecdsaVerify key (Config.sha256 c.tbs) c.r c.s

/-- Each certificate verifies under the one before it: the key of the last. -/
def leafKey (key : List Byte) : List Cert → Option (List Byte)
  | [] => some key
  | c :: cs => if certSigned c key then leafKey c.key cs else none

def KeySlot.holds (k : KeySlot) (d : List Byte) : Bool :=
  match k with
  | .enabled x => decide (x = d)
  | _ => false

/-- An ENABLED `ANC` slot trusts a root certificate (R430, R455). -/
def State.trusts (s : State) (c : Cert) : Bool :=
  let d := leBytes 32 (Config.sha256 c.der).toNat
  s.onx.keys.anc0.holds d || s.onx.keys.anc1.holds d || s.onx.keys.anc2.holds d || s.onx.keys.anc3.holds d

/-- The leaf's key of a chain that R455 accepts: at most four certificates and 4096 bytes, each of its kind and verified under its
issuer, the root trusted. A chain begins with its length, two reserved bytes and the digest of the root. -/
def State.chainKey (s : State) (chain : List Byte) : Option (List Byte) :=
  if 4096 < chain.length then none
  else match certsOf 4 (chain.drop 36) with
    | some (c :: cs) => if s.trusts c && certSigned c c.key then leafKey c.key cs else none
    | _ => none

/-- A CHALLENGE_AUTH names the chain read and verifies under its leaf over the CHALLENGE and itself (R455). -/
def State.challengeOk (s : State) (x : AuthX) (bs : List Byte) : Bool :=
  let body := bs.take (bs.length - 64)
  let sig := bs.drop (bs.length - 64)
  match s.chainKey x.got with
  | some key =>
    decide (136 ≤ bs.length) && decide (le bs 8 32 = (Config.sha256 x.got).toNat)
      && Config.ecdsaVerify key (Config.sha256 (x.chal ++ body)) (BitVec.ofNat 256 (le sig 0 32)) (BitVec.ofNat 256 (le sig 32 32))
  | none => false

/-- GET_CERTIFICATE for `n` bytes of slot 0 from an offset. -/
def getCert (o n : Nat) : List Byte := [0x10, 0x82, 0, 0] ++ leBytes 2 o ++ leBytes 2 n

/-- The exchange has its result; the wait for the partner is over. -/
def State.authResult (s : State) (p : Port) (r : AuthResult) : State :=
  (s.modCt p fun c => { c with authX := { c.authX with result := some r } }).setSeq p .auth

/-- The next piece of the chain, at most 256 bytes; the first piece is the 36 bytes that tell its length. -/
def State.authCert (s : State) (p : Port) (got : List Byte) : State :=
  let s := s.modCt p fun c => { c with authX := { c.authX with got := got } }
  if got.length < 36 then s.authAsk p 2 (getCert got.length (36 - got.length))
  else s.authAsk p 2 (getCert got.length (min 256 (le got 0 2 - got.length)))

/-- The chain is read: CHALLENGE with a nonce of the entropy source. -/
def State.authChallenge (s : State) (p : Port) (got : List Byte) : State :=
  let (nonce, s) := s.randBytes 8
  let req := [0x10, 0x83, 0, 0] ++ nonce
  let s := s.modCt p fun c => { c with authX := { c.authX with got := got, chal := req } }
  s.authAsk p 3 req

/-- A Security_Response in the exchange (R264): the next request, or the result. A response of another type, ERROR among them, and a
chain that cannot be read end it as one that does not verify. -/
def State.authAnswered (s : State) (p : Port) (bs : List Byte) : State :=
  let x := (s.facet p).ct.authX
  let typ := le bs 1 1
  if x.stage = 1 ∧ typ = 0x01 then s.authCert p []
  else if x.stage = 2 ∧ typ = 0x02 ∧ 4 < bs.length then
    let got := x.got ++ bs.drop 4
    if 36 ≤ got.length ∧ (le got 0 2 ≤ 36 ∨ 4096 < le got 0 2) then s.authResult p .failed
    else if 36 ≤ got.length ∧ le got 0 2 ≤ got.length then s.authChallenge p (got.take (le got 0 2))
    else s.authCert p got
  else if x.stage = 3 ∧ typ = 0x03 then s.authResult p (if s.challengeOk x bs then .passed else .failed)
  else s.authResult p .failed

end Sys2Proof.Machine
end

