-- ==== Sys2Proof/Machine/Cc.lean ====
section
/-! DEFINITION. The facet's shared state changes: attach and detach (R178 to R184), ErrorRecovery, facet states (R39,
R40) with quarantine, and the end of Hard Reset signalling (R223 to R227). -/
namespace Sys2Proof.Machine

/-- `TCSTATE` codes (R195). -/
def tcCode : TcState → Nat
  | .disabled => 0 | .unattachedSnk => 1 | .attachWaitSnk => 2 | .attachedSnk => 3 | .unattachedSrc => 4
  | .attachWaitSrc => 5 | .attachedSrc => 6 | .trySrc => 7 | .tryWaitSnk => 8 | .trySnk => 9 | .tryWaitSrc => 10
  | .errorRecovery => 11

/-- `FSTATE` codes (R39). -/
def fstateCode : FState → Nat
  | .off => 0 | .live => 1 | .held => 2 | .tripped => 3 | .quarantined => 4

/-- The termination a Type-C state presents (R178). -/
def tcTerm : TcState → Term
  | .disabled => .rd | .unattachedSnk => .rd | .attachWaitSnk => .rd | .attachedSnk => .rd | .tryWaitSnk => .rd
  | .trySnk => .rd | .unattachedSrc => .rp | .attachWaitSrc => .rp | .attachedSrc => .rp | .trySrc => .rp
  | .tryWaitSrc => .rp | .errorRecovery => .hiZ

/-- A comparator's threshold: the die's, within the bounds of R174 (log entry 66). -/
def ccTh (p : Port) (cc2 : Bool) (k lo hi : Nat) : Nat := max lo (min hi (Config.ccThreshold (portNo p) cc2 k))

/-- The class of a pin at `mv`, coded as its level field (R174, R195, R566): by the Rp presented, or against Rd. -/
def ccClass (p : Port) (cc2 : Bool) (t : Term) (rpOut : BitVec 2) (mv : Nat) : BitVec 3 :=
  let th := ccTh p cc2
  match t with
  | .hiZ => 7
  | .rp =>
    let ra := if rpOut = 3 then th 4 750 850 else if rpOut = 2 then th 2 350 450 else th 0 150 250
    let op := if rpOut = 3 then th 5 2550 2650 else if rpOut = 2 then th 3 1550 1650 else th 1 1550 1650
    if mv < ra then 1 else if mv < op then 2 else 0
  | _ => if mv < th 6 150 250 then 0 else if mv < th 7 610 700 then 3 else if mv < th 8 1160 1310 then 4 else 5

/-- The threshold of over-voltage on a pin, mV (R174, R190). -/
def ccOvMv (p : Port) (cc2 : Bool) : Nat := ccTh p cc2 9 5800 6200

/-- A pin and its level once it presents `t` instead: with the new termination alone on it, it reads open, or no Rp (R566). -/
def reclass (old t : Term) (x : BitVec 3 × Nat) : BitVec 3 × Nat :=
  match t with
  | .rp => if old = .rp then x else (0, 5000)
  | .hiZ => x
  | _ => if old = .rp ∨ old = .hiZ then (0, 0) else x

/-- Enter a Type-C state: its termination, no debounce running, the discharge that follows. -/
def State.setTc (s : State) (p : Port) (t : TcState) : State :=
  let s := s.modCc p fun c =>
    let a := reclass c.term (tcTerm t) (c.lvl1, c.pins.cc1)
    let b := reclass c.term (tcTerm t) (c.lvl2, c.pins.cc2)
    { c with tc := t, term := tcTerm t, ccDeb := false, pdDeb := false, tryDeb := false, tryDone := false
             stable := false, ovLong := false, lvl1 := a.1, lvl2 := b.1, pins := ⟨a.2, b.2⟩ }
  (s.refreshRp p).refreshDisch p

/-- Change a facet's state and post STATE (R39). -/
def State.setFState (s : State) (p : Port) (x : FState) : State :=
  if (s.facet p).fstate = x then s
  else (s.modF p fun f => { f with fstate := x }).postF p 0x12 (BitVec.ofNat 16 (fstateCode x))

/-- Change the hub facet's state and post STATE (R502). -/
def State.setHubState (s : State) (x : FState) : State :=
  if s.hub.fstate = x then s
  else (s.modHub fun h => { h with fstate := x }).postH 0x12 (BitVec.ofNat 16 (fstateCode x))

/-- `ROLE` of the section in force: the unattached state a facet starts from (R178). -/
def Facet.homeState (f : Facet) : TcState := if f.cfg.role = 1 then .unattachedSrc else .unattachedSnk

/-- Where a facet returns from a source state: Unattached.SNK if DRP (R178). -/
def Facet.srcHome (f : Facet) : TcState := if f.cfg.role = 2 then .unattachedSnk else .unattachedSrc

/-- Enter an attached state (R178, R180, R184): roles, orientation, fresh protocol counters, ATTACH posted; as source a
power request is registered (R234) and the cable is asked for its identity (R258). The switch stays as it is. -/
def State.attach (s : State) (p : Port) (src cc2 : Bool) : State :=
  let s := s.setTc p (if src then .attachedSrc else .attachedSnk)
  let s := s.modF p fun f =>
    { f with cc := { f.cc with attached := true, orient := cc2, acc := 0, vconnSwap := false, probed := false
                               ra := src && decide ((if cc2 then f.cc.lvl1 else f.cc.lvl2) = 1) }
             pd := { f.pd.resetIds.freshCaps with rev := 0, partner := false, hrCount := 0, mute := false, noResp := none }
             ct := { f.ct with prole := src, drole := src, vconnSrc := src, authed := false, hadContract := false
                               offer := [], offerCode := 0, offerOwed := false, offerFast := false, startup := [], srcCaps := [] } }
  let s := (s.refreshRp p).refreshVconn p
  let s := s.orReg (fx p 0x042) (flag 0 true)
  let s := s.postF p 0x10 (BitVec.ofNat 16 ((if cc2 then 1 else 0) + if src then 0 else 2))
  if src then
    let s := s.requestGrant p
    if s.bit (fx p 0x080) 1 && s.bit (fx p 0x080) 0 then s.cableIdentity p else s
  else s

/-- Everything a detach clears (R178) but the DETACH event: switch open, VCONN off and its latch cleared (R187), contract
and alternate mode ended, protocol engine back to no partner (R203, R227), power request withdrawn. -/
def State.unattach (s : State) (p : Port) (t : TcState) : State :=
  let s := s.linkOff p
  let s := s.endContract p
  let s := s.cutTx p
  let s := s.abandon p
  let s := s.feedGone p
  let s := s.modCc p fun c => { c with tc := t }
  let s := s.openSwitch p
  let s := s.modF p fun f =>
    { f with cc := { f.cc with attached := false, orient := false, vconnOn := false, vconnOc := false, ra := false
                               vconnSwap := false, probed := false
                               partnerRp := 0, rpDeb := false, asSink := false }
             pd := { f.pd.resetIds.freshCaps with rev := 0, partner := false, hrPhase := 0, hrSink := false, hrCount := 0
                                                  hrSending := false, mute := false, bistData := false, noResp := none
                                                  pdEn := s.bit (fx p 0x080) 0 }
             ct := { f.ct with prole := false, drole := false, vconnSrc := false, offer := [], offerCode := 0
                               offerOwed := false, offerFast := false, startup := [], authX := .reset
                               srcCaps := [], snkCaps := [], grant := 0, pending := 0, resize := none, partnerLink := false
                               authed := false, hadContract := false, only5v := false }
             rc := { f.rc with deferred := none, late := [] } }
  let s := s.setReg (fx p 0x106) 0
  s.setTc p t

/-- The detach actions of R178. -/
def State.detach (s : State) (p : Port) (t : TcState) : State :=
  let s := s.unattach p t
  (s.orReg (fx p 0x042) (flag 1 true)).postF p 0x11 0

/-- Enter ErrorRecovery from an attached or Try state: detach actions, both pins Hi-Z (R178). -/
def State.errorRecovery (s : State) (p : Port) : State :=
  let f := s.facet p
  let s := s.fault (portNo p) 0x0D (tcCode f.cc.tc)
  let s := if f.cc.attached then (s.unattach p .errorRecovery).orReg (fx p 0x042) (flag 1 true) |>.postF p 0x11 0
           else s.setTc p .errorRecovery
  s.orReg (fx p 0x042) (flag 6 true)

/-- A facet leaves attach altogether: no Type-C state, Rd on both pins (dead-battery Rd when absent), then state `x`. -/
def State.leave (s : State) (p : Port) (x : FState) : State :=
  let s := if (s.facet p).cc.attached then s.unattach p .disabled else (s.openSwitch p).setTc p .disabled
  let s := s.modCc p fun c => { c with term := if (s.facet p).cfg.present then .rd else .deadRd }
  let s := s.modPd p fun d => { d with hrPhase := 0, hrSink := false }
  ((s.refreshRp p).setFState p x).refreshIlim p

/-- Quarantine a facet (R39): the NVM record is ordered at once, and a HELD facet turns QUARANTINED when its hold ends.
Nothing happens in OFF or QUARANTINED. -/
def State.quarantine (s : State) (p : Port) : State :=
  match (s.facet p).fstate with
  | .off => s
  | .quarantined => s
  | .held => (s.modF p fun f => { f with qPending := true }).nvmQueue (.quarantine p true)
  | _ => (s.leave p .quarantined).nvmQueue (.quarantine p true)

/-- Go LIVE from OFF (R39): the Type-C state of the FACET section's role. -/
def State.goLiveNow (s : State) (p : Port) : State :=
  (s.setFState p .live).setTc p (s.facet p).homeState

/-- A Hard Reset during a transition: the ramp stops where it is, the setpoint request held there until the switch has opened. -/
def State.stopRamp (s : State) (p : Port) : State :=
  if (s.facet p).ct.trans && s.owner p then
    match s.busConv (s.busOf p) with
    | some c => s.hubVset (s.busOf p) (s.setpoint c)
    | none => s
  else s

/-- R223 to R227 at the end of Hard Reset signalling, `sent` or `received` or both. Where the two overlap one HARD_RESET event is
posted, with `ARG` 1 for received (the model's choice, log entry 75). A source whose partner is known waits tNoResponse for it
(R230). -/
def State.hardResetEnd (s : State) (p : Port) (sent received : Bool) : State :=
  let src := (s.facet p).ct.prole
  let late := if src && (s.facet p).pd.partner then some (s.cycles + 480000000) else none
  let quiet := s.cycles + 960
  let s := s.stopRamp p
  let s := s.cutTx p
  let s := s.endContract p
  let s := s.linkOff p
  let s := s.abandon p
  let s := s.modF p fun f =>
    { f with pd := { f.pd.resetIds.freshCaps with
                       rev := if f.pd.partner then 2 else 0, hrSending := false, bistData := false
                       hrCount := BitVec.ofNat 2 (min 3 (f.pd.hrCount.toNat + 1))
                       hrPhase := if src then 1 else 0, noResp := late }
             cc := { f.cc with quiet := quiet }
             ct := { f.ct with drole := src, vconnSrc := src, partnerLink := false, offer := [], offerCode := 0
                               offerOwed := false, startup := [], srcCaps := [] } }
  let s := (s.refreshRp p).refreshVconn p
  let s := s.orReg (fx p 0x082) (flag 8 sent ||| flag 7 received)
  let s := s.postF p 0x22 (if received then 1 else 0)
  let s := if received then s.fault (portNo p) 0x0A 0 else s
  if (s.facet p).pd.hrCount = 3 then
    let s := s.fault (portNo p) 0x0C 0
    if src then s.errorRecovery p else s.modPd p fun d => { d with mute := true }
  else s

end Sys2Proof.Machine
end

