-- ==== Sys2Proof/Machine/Flags.lean ====
section
/-! DEFINITION. Every status word and flag the block computes: the mirrors of R42 with their refresh, the fault units'
lines (R417), the interrupt lines of R160, the `INT` pin (R418), the GPIO pins (R293, R498, R564) and `VIO_OUT` (R508). -/
namespace Sys2Proof.Machine

/-! ### Mirrors -/

/-- A mirror word: contents with the epoch in bits 31:24 (R42). -/
def mirror (epoch : Byte) (w : Word) : Word := withFld w 24 8 epoch.toNat

/-- `Fx_STATE` (R554). -/
def Facet.stateWord (f : Facet) : Word :=
  fw 0 (fstateCode f.fstate) ||| flag 3 f.cc.attached ||| flag 4 f.pp.swCmd ||| flag 5 f.pp.swObs
    ||| flag 6 f.pp.floorLatch ||| flag 7 f.ct.contract

/-- What a CC pin reads (R566): 6 at over-voltage, 7 when it carries VCONN or presents Hi-Z, as a probed pin does (R253). -/
def Facet.pinLvl (f : Facet) (cc2 : Bool) : Nat :=
  if (if cc2 then f.cc.ov2 else f.cc.ov1) then 6
  else if f.cc.term = .hiZ ∨ ((f.cc.vconnOn = true ∨ f.cc.probed = true) ∧ f.cc.orient ≠ cc2) then 7
  else (if cc2 then f.cc.lvl2 else f.cc.lvl1).toNat

/-- `Fx_CC_STAT` (R195). -/
def Facet.ccWord (f : Facet) : Word :=
  fw 0 (tcCode f.cc.tc) ||| flag 4 f.cc.orient ||| fw 5 (f.pinLvl false) ||| fw 8 (f.pinLvl true)
    ||| fw 11 f.cc.rpOut.toNat ||| fw 13 f.cc.partnerRp.toNat ||| flag 15 f.cc.ra ||| fw 16 f.cc.acc.toNat
    ||| flag 18 f.cc.vconnOn ||| flag 19 (decide (f.cc.term = .deadRd))

/-- The Rp that collision avoidance gives is 3.0 A (`SINK_TX_OK`). -/
def Facet.sinkTxOk (f : Facet) : Bool :=
  f.avoids && (if f.ct.prole then decide (f.cc.rpOut = 3) else decide (f.cc.partnerRp = 3))

/-- `Fx_PD_STAT` (R231). -/
def Facet.pdWord (f : Facet) : Word :=
  fw 0 f.pd.rev.toNat ||| flag 2 f.sinkTxOk ||| fw 3 (if f.ct.prole then f.pd.hrPhase.toNat else 0)
    ||| flag 5 f.pd.hrSink ||| fw 6 f.pd.hrCount.toNat ||| flag 8 f.pd.partner

/-- `Fx_CT_STAT` (R267). -/
def State.ctWord (s : State) (p : Port) : Word :=
  let c := (s.facet p).ct
  fw 0 (c.now.pos % 8) ||| flag 3 c.epr ||| flag 4 c.now.pps ||| flag 5 c.prole ||| flag 6 c.drole ||| flag 7 c.vconnSrc
    ||| flag 8 (s.owner p) ||| fw 9 c.offerCode.toNat ||| flag 12 c.trans ||| flag 13 c.frsActive

/-- `Fx_CT_ALT` (R267). -/
def Facet.altWord (f : Facet) : Word := flag 0 f.ct.partnerLink ||| flag 1 f.ct.linkOn

def swCode : SwState → Nat
  | .open => 0 | .guardWait => 1 | .ramping => 2 | .closed => 3 | .regulating => 4 | .armed => 5 | .retryWait => 6

def dischCode : Disch → Nat
  | .off => 0 | .bleeder => 1 | .strong => 2

/-- `Fx_PP_STAT` (R306). -/
def State.ppWord (s : State) (p : Port) : Word :=
  let x := (s.facet p).pp
  fw 0 (swCode x.sw) ||| flag 3 x.pg ||| flag 4 x.ilimAct ||| fw 5 (dischCode x.disch) ||| flag 7 x.guardOk
    ||| fw 8 (s.retryLeft p) ||| fw 12 x.tripCause.toNat ||| flag 14 x.leak ||| flag 15 x.stall ||| flag 16 x.revblk
    ||| flag 17 x.selOpen

def phaseCode : Phase → Nat
  | .idle => 0 | .preparing => 1 | .ready => 2 | .holding => 3 | .applied => 4 | .failed => 5 | .rolledBack => 6
  | .aborted => 7

/-- `Fx_RCFG_STAT` and `H_RCFG_STAT` (R143). -/
def rcfgWord {β : Type} (r : Rcfg β) : Word :=
  fw 0 (phaseCode r.phase) ||| flag 3 r.base ||| flag 4 r.tables ||| fw 8 r.err.toNat ||| fw 16 r.abort.toNat
    ||| fw 20 r.refuse.toNat

/-- The facet's mirrors by offset. -/
def State.facetMirrors (s : State) (p : Port) : List (Nat × Word) :=
  let f := s.facet p
  [ (0x000, f.stateWord), (0x041, f.ccWord), (0x081, f.pdWord), (0x101, s.ctWord p), (0x10E, f.altWord)
  , (0x143, s.ppWord p), (0x300, rcfgWord f.rc) ]

def cvCode : CvState → Nat
  | .off => 0 | .standby => 1 | .starting => 2 | .regulating => 3 | .tripped => 4

/-- `H_CVn_STAT` (R334). -/
def State.cvWord (s : State) (c : Conv) : Word :=
  let v := s.cv c
  fw 0 (cvCode v.st) ||| flag 3 v.charge ||| flag 4 v.cc ||| flag 5 v.batlim ||| flag 6 v.peakLatch
    ||| flag 7 s.hub.parallel ||| fw 8 v.avail

/-- `H_FEED_STAT` (R307). -/
def State.feedWord (s : State) : Word :=
  let a := s.hub.feed1
  let b := s.hub.feed2
  fw 0 s.supplyMask ||| fw 8 a.act ||| fw 11 b.act ||| flag 14 a.gap ||| flag 15 b.gap ||| flag 16 a.shareLim
    ||| flag 17 b.shareLim ||| flag 18 a.lost ||| flag 19 b.lost ||| flag 20 a.ovr ||| flag 21 b.ovr

def batCode : BatState → Nat
  | .absent => 0 | .qualifying => 1 | .present => 2 | .depleted => 3 | .fault => 4 | .unconfigured => 5

/-- `H_BAT_STAT` (R363). -/
def Bat.word (b : Bat) : Word :=
  fw 0 (batCode b.st) ||| fw 3 (chgCode b.phase) ||| fw 6 b.band.toNat ||| flag 9 b.ntcOk ||| flag 10 b.inLim
    ||| flag 11 b.full ||| flag 12 b.gaugeValid ||| flag 13 b.deep ||| flag 14 (decide (b.chgCv = .cv2))

/-- `H_STATE` contents (R502). -/
def Hub.stateWord (h : Hub) : Word := fw 0 (fstateCode h.fstate)

/-- The hub's mirrors by word index. -/
def State.hubMirrors (s : State) : List (Nat × Word) :=
  [ (0x0800, s.hub.stateWord), (0x0816, s.cvWord .cv1), (0x0826, s.cvWord .cv2), (0x0882, s.feedWord)
  , (0x08C9, s.hub.bat.word), (0x0F00, rcfgWord s.hub.rc) ]

/-- Store mirrors from base `b` with their epoch. -/
def State.putMirrors (s : State) (b : Nat) (e : Byte) : List (Nat × Word) → State
  | [] => s
  | (o, w) :: l => (s.setReg (b + o) (mirror e w)).putMirrors b e l

/-- Refresh a facet's mirrors unless an advance is pending (R42, R553). -/
def State.refreshFacet (s : State) (p : Port) : State :=
  let f := s.facet p
  if f.epPend then s else s.putMirrors (fx p 0) f.epoch (s.facetMirrors p)

/-- Refresh the hub's mirrors unless an advance is pending. -/
def State.refreshHub (s : State) : State :=
  if s.hub.epPend then s else s.putMirrors 0 s.hub.epoch s.hubMirrors

/-- `Fx_CC_STAT` is refreshed at every change of the Type-C state, of orientation, of the Rp presented and of VCONN (R195). -/
def State.refreshCc (s : State) (p : Port) : State :=
  let f := s.facet p
  let w := mirror f.epoch f.ccWord
  if f.epPend || decide ((w ^^^ s.reg (fx p 0x041)) &&& 0x000C181F = 0) then s else s.setReg (fx p 0x041) w

/-- Refresh the mirrors whose epoch advanced in the cycle that ends. -/
def State.refreshFresh (s : State) : State :=
  let s := if s.fa.fresh then s.refreshFacet .a else s
  let s := if s.fb.fresh then s.refreshFacet .b else s
  let s := if s.fc.fresh then s.refreshFacet .c else s
  let s := if s.fd.fresh then s.refreshFacet .d else s
  let s := (((s.refreshCc .a).refreshCc .b).refreshCc .c).refreshCc .d
  if s.hub.fresh then s.refreshHub else s

/-- The next cycle may advance every epoch again. -/
def State.clearFresh (s : State) : State :=
  { s with fa := { s.fa with fresh := false }, fb := { s.fb with fresh := false }, fc := { s.fc with fresh := false }
           fd := { s.fd with fresh := false }, hub := { s.hub with fresh := false } }

/-! ### Fault lines -/

/-- Some class from `c` of the next `n` is pending, enabled and has a reaction of 1 or more at its level (R417). -/
def State.lineFrom (s : State) (u : Nat) : Nat → Nat → Bool
  | _, 0 => false
  | c, n + 1 =>
    ((s.flt u).pend.getLsbD c && s.bit (unitBase u + 2) c && decide (0 < s.reaction c ((s.flt u).pLvl c)))
      || s.lineFrom u (c + 1) n

/-- A fault unit's interrupt line (R417). -/
def State.fltLine (s : State) (u : Nat) : Bool := s.lineFrom u 0 16

/-- Highest pending level from class `c` of the next `n`. -/
def FltUnit.topFrom (f : FltUnit) : Nat → Nat → Nat
  | _, 0 => 0
  | c, n + 1 => max (if f.pend.getLsbD c then f.pLvl c else 0) (f.topFrom (c + 1) n)

/-- `x_FLT_STAT` but its W1C bit (R421). -/
def State.fltWord (s : State) (u : Nat) : Word :=
  let f := s.flt u
  fw 0 f.pend.toNat ||| fw 16 (f.topFrom 0 16) ||| flag 18 (s.fltLine u) ||| fw 20 f.seq.toNat

/-! ### Window monitors, ADC, GPIO, VIO -/

/-- Bits of a 32-bit word from a predicate. -/
def bitsOf (g : Nat → Bool) : Nat → Word
  | 0 => 0
  | n + 1 => bitsOf g n ||| flag n (g n)

/-- `WM_FLAGGED`. -/
def State.wmFlagged (s : State) : Word := bitsOf (fun k => decide (s.rf (0x0402 + 4 * k) 4 4 ≠ 0)) 32

/-- `WM_PEND`. -/
def State.wmPend (s : State) : Word := s.wmFlagged &&& bitsOf (fun k => s.bit (0x0400 + 4 * k) 19) 32

/-- `ADC_IRQ_EN.THRESH` as it acts. -/
def State.adcThresh (s : State) : Nat := clampTo 1 64 (s.rf 0x0503 8 7)

/-- The ADC interrupt line (R399). -/
def State.adcLine (s : State) : Bool :=
  (s.bit 0x0503 0 && decide (s.adcThresh ≤ s.adc.fifo.length))
    || decide (s.rf 0x0502 0 4 &&& s.rf 0x0503 1 4 ≠ 0)

/-- The facets whose power-good is routed to a pin (R293); none in SAFE (R564). -/
def State.pgPorts (s : State) (n : Nat) : List Port :=
  if s.mode = .safe then [] else allPorts.filter fun p => decide (s.rf (fx p 0x142) 26 3 = n + 1)

/-- A GPIO pin is set ANALOG. -/
def State.gpioAnalog (s : State) (n : Nat) : Bool := s.bit (0x2040 + n) 7

/-- The level the device drives on a pin, none where it drives nothing (R61, R293, R498, R564). -/
def State.gpioOut (s : State) (n : Nat) : Option Bool :=
  if s.mode = .boot ∨ s.mode = .cold then none
  else if s.gpio.released.getLsbD n || s.gpioAnalog n then none
  else match s.pgPorts n with
    | p :: ps =>
      let act := (p :: ps).all fun q => (s.facet q).pp.pg
      some (act != s.bit (fx p 0x142) 29)
    | [] => if s.bit (0x2040 + n) 0 then some (s.bit (0x2040 + n) 1) else none

/-- The level a pin's input buffer sees: the driven level, else what was last shown. -/
def State.gpioIn (s : State) (n : Nat) : Bool :=
  if s.gpioAnalog n then false else (s.gpioOut n).getD (s.gpio.level.getLsbD n)

/-- The GPIO interrupt line (R160): an event with its `IE`. -/
def State.gpioLine (s : State) : Bool :=
  (s.bit 0x2045 0 && s.bit 0x2040 5) || (s.bit 0x2045 1 && s.bit 0x2041 5) || (s.bit 0x2045 2 && s.bit 0x2042 5)
    || (s.bit 0x2045 3 && s.bit 0x2043 5)

/-- `VIO_OUT` supplies (R508). -/
def State.vioOn (s : State) : Bool :=
  s.bit 0x0109 0 && !s.bit 0x0109 2 && !s.bow && (decide (s.mode = .standby) || decide (s.mode = .run) || decide (s.mode = .safe))

/-! ### Interrupt lines -/

/-- An event queue's line: `COUNT` ≥ `THRESH`, and 0 acts as 1 (R151, R160). -/
def State.evqLine (s : State) (q : Nat) : Bool :=
  decide (max 1 (s.rf (0x0723 + 4 * q) 0 6) ≤ (s.evq q).ents.length)

/-- Interrupt line k (table of R160). -/
def State.irqLine (s : State) (k : Nat) : Bool :=
  if k < 5 then s.evqLine k
  else if k < 13 then s.bit (0x0710 + 2 * (k - 5)) 27
  else if k < 18 then s.fltLine (k - 13)
  else if k = 18 then decide (s.wmPend ≠ 0)
  else if k = 19 then s.adcLine
  else if k = 20 then s.fltLine 5
  else if k = 21 then s.bit 0x0200 6
  else if k = 22 then s.bit 0x0300 11
  else if k = 23 then decide (s.rf 0x0108 0 7 ≠ 0)
  else if k = 24 then decide (s.rf 0x0704 0 16 ≠ 0)
  else if k = 25 then s.gpioLine
  else false

/-- `LAP_IRQ_VIEW` and `GLB_INT_VIEW` (R151, R423). -/
def State.irqView (s : State) : Word := bitsOf s.irqLine 26

/-- The machine external interrupt is pending (R160). -/
def State.meip (s : State) : Bool := decide (s.irqView &&& s.reg 0x0701 ≠ 0)

/-- The `INT` pin is driven low (R418). -/
def State.intLow (s : State) : Bool :=
  decide (s.irqView &&& s.reg 0x0019 ≠ 0)
    && (decide (s.mode = .sentinel) || decide (s.mode = .standby) || decide (s.mode = .run))

end Sys2Proof.Machine
end

