-- ==== Sys2Proof/Machine/Charger.lean ====
section
/-! DEFINITION. The shared operations of the battery: configuration (R336 to R338, R344), envelopes and effective values
(R341, R342), charge phases (R346 to R349), the gauge (R350 to R356), battery states (R345) and removal (R358). -/
namespace Sys2Proof.Machine

/-! ### Configuration -/

def State.chem (s : State) : Nat := s.rf 0x08C0 0 3
def State.cells (s : State) : Nat := s.rf 0x08C0 3 3

/-- R336: `CHEM` and `CELLS` form a pair of the table. -/
def State.batPair (s : State) : Bool :=
  (decide (s.chem = 1) && decide (2 ≤ s.cells) && decide (s.cells ≤ 4))
    || (decide (s.chem = 2) && decide (3 ≤ s.cells) && decide (s.cells ≤ 5))

/-- Precharge threshold per cell, mV (R336). -/
def State.preMv (s : State) : Nat := if s.chem = 2 then 2500 else 3000
/-- Damage threshold per cell, mV (R336). -/
def State.damageMv (s : State) : Nat := if s.chem = 2 then 1800 else 2000

/-- `VCHG_REQ` limited to the chemistry's range and to 17.40 V for the pack, 10 mV per cell (R337). -/
def State.vchgReq (s : State) : Nat :=
  let v := s.rf 0x08C1 0 9
  let r := if s.chem = 1 then clampTo 400 420 v else if s.chem = 2 then clampTo 340 360 v else v
  if s.batPair then min r (1740 / s.cells) else r

/-- Effective cut-off per cell in 10 mV (R336, R338): `VCUT` in its chemistry's range, at least 6.20 V for the pack. -/
def State.vcut (s : State) : Nat :=
  let v := s.rf 0x08C7 0 9
  let r := if s.chem = 1 then clampTo 280 350 v else if s.chem = 2 then clampTo 250 300 v else v
  if s.cells = 0 then r else max r ((620 + s.cells - 1) / s.cells)

/-- Effective `VCHG` of the pack, mV. -/
def State.packVchg (s : State) : Nat := s.cells * 10 * s.rf 0x08C2 0 9

/-- The removal monitor, `H_BAT_CFG.WM` (R344). -/
def State.removalWm (s : State) : Nat := s.rf 0x08C0 7 5

/-! ### Envelopes -/

/-- Charge current envelope in 50 mA codes; 127 is none (R340 to R342). -/
def State.chgEnv (s : State) : Nat :=
  let b := s.hub.bat.band
  let band := if b = 2 then 20 else if b = 3 ∨ b = 4 then 127 else 0
  let ntc := if s.hub.bat.ntcOk then band else 0
  if s.sense.tj < 140 then ntc else min ntc (Int.toNat (100 - 5 * (s.sense.tj - 140)))

/-- Charge voltage envelope per cell in 10 mV; 511 is none (R341). -/
def State.vchgEnv (s : State) : Nat :=
  if s.hub.bat.band = 4 then (if s.chem = 2 then 345 else 410) else 511

/-- Discharge current envelope in 50 mA codes; 255 is none (R336, R338, R340, R341, R345). -/
def State.disEnv (s : State) : Nat :=
  let b := s.hub.bat.band
  let st := s.hub.bat.st
  if !s.batPair || decide (st = .unconfigured) || decide (st = .depleted) || decide (st = .fault)
      || decide (s.sense.bat < 6200) || decide (b = 0) || decide (b = 6) || decide (b = 7) then 0
  else
    let band := if b = 1 ∨ b = 5 then 40 else 255
    if s.hub.bat.ntcOk then band else min band 20

/-- Recompute the battery's effective values and their clamp bits (R166 to R169); in a hub hold they may only narrow
(R138). -/
def State.refreshBat (s : State) : State :=
  let vr := s.vchgReq
  let ve := s.holdMin (s.rf 0x08C2 0 9) (min vr s.vchgEnv)
  let ir := clampTo 2 100 (s.rf 0x08C3 0 7)
  let ie := s.holdMin (s.rf 0x08C4 0 7) (min ir s.chgEnv)
  let dr := clampTo 10 240 (s.rf 0x08C5 0 8)
  let de := s.holdMin (s.rf 0x08C6 0 8) (min dr s.disEnv)
  let s := ((s.setReg 0x08C2 (fw 0 ve)).setReg 0x08C4 (fw 0 ie)).setReg 0x08C6 (fw 0 de)
  ((s.hubClamp 4 (decide (ie ≠ ir))).hubClamp 5 (decide (ve ≠ vr))).hubClamp 6 (decide (de ≠ dr))

/-! ### Gauge -/

/-- OCV entry k in mV per cell. -/
def State.ocv (s : State) (k : Nat) : Nat := 10 * s.rf (0x08E0 + k) 0 9

/-- Interpolation of R352 from entry `k` of the next `n`: state of charge in 0.1 %, by a cell voltage in mV. -/
def State.socAt (s : State) (mv : Nat) : Nat → Nat → Nat
  | k, 0 => 100 * k
  | k, n + 1 =>
    let lo := s.ocv k
    let hi := s.ocv (k + 1)
    if mv ≤ lo then 100 * k
    else if mv < hi then 100 * k + 100 * (mv - lo) / (hi - lo)
    else s.socAt mv (k + 1) n

/-- The table's state of charge at a pack voltage, 0.1 % (R352). -/
def State.tableSoc (s : State) (packMv : Nat) : Nat :=
  if s.cells = 0 then 0 else s.socAt (packMv / s.cells) 0 10

/-- Design capacity, mAh; 0 disables the gauge. -/
def State.dcap (s : State) : Nat := s.rf 0x08C8 0 16

/-- One µAh in the gauge's unit of 0.1 µA in one `CLK` cycle. -/
def uAh : Nat := 3456000000000

/-- Charge of `n` thousandths of `FCC`, in the gauge's unit. -/
def Bat.part (b : Bat) (n : Nat) : Nat := b.fcc * n * uAh

/-- `SOC` in 0.5 % units (R351). -/
def Bat.soc (b : Bat) : Nat := if b.fcc = 0 then 0 else min 200 (b.qrem / (5 * b.fcc * uAh))

/-- Charge `q` leaves the battery (R350, R351, R355, R356): `QREM` stays within 0 to `FCC`, and `CYCLES` counts the
discharged charge. -/
def Bat.flow (b : Bat) (q : Int) : Bat :=
  let full := b.part 1000
  let d := b.drained + q.toNat
  { b with qrem := min full (Int.toNat (b.qrem - q)), counted := b.counted - q
           drained := if full = 0 then 0 else d % full
           cycles := if full = 0 then b.cycles else satAdd 65535 b.cycles (d / full) }

/-- The gauge counts (R350): a design capacity is set, and the battery is configured. -/
def State.gaugeOn (s : State) : Bool := decide (0 < s.dcap) && decide (s.hub.bat.st ≠ .unconfigured)

/-- Charge leaves the battery while the gauge counts. -/
def State.gaugeFlow (s : State) (q : Int) : State := if s.gaugeOn then s.modBat fun b => b.flow q else s

/-- `SOH` in per cent (R356); 100 while there is no design capacity. -/
def State.soh (s : State) : Nat := if s.dcap = 0 then 100 else min 100 (s.hub.bat.fcc * 100 / s.dcap)

/-- Set the gauge from the table (R353): `v` is the new `GAUGE_VALID`. -/
def State.gaugeFrom (s : State) (soc : Nat) (v : Bool) : State :=
  s.modBat fun b => { b with qrem := b.part soc, gaugeValid := v }

/-- Order the gauge record of R356: `QREM`, `FCC` and `CYCLES`. -/
def State.gaugeRecord (s : State) : State :=
  (s.modBat fun b => { b with record := some (b.qrem, b.fcc, b.cycles)
                              removedSince := decide (b.st = .absent) }).nvmQueue .gauge

/-- R356: the end of life is judged once. -/
def State.judgeEol (s : State) : State :=
  if decide (0 < s.dcap) && decide (s.soh < s.rf 0x08C7 9 7) && !s.hub.bat.eolRaised then
    let soh := s.soh
    let cyc := s.hub.bat.cycles
    let s := (s.modBat fun b => { b with eolRaised := true }).orReg 0x08CF (flag 7 true)
    (s.fault 4 0x16 soh).jrn 0x08 (BitVec.ofNat 8 soh :: leBytes 2 cyc)
  else s

/-! ### Charge phases -/

/-- A converter carries the charge. -/
def State.charging (s : State) : Bool := s.hub.cv1.charge || s.hub.cv2.charge

/-- A charging converter stops and returns to the state it came from (R316). -/
def Cv.endCharge (v : Cv) : Cv :=
  if v.charge then { v with charge := false, cnt := 0, st := if v.st = .regulating then v.before else v.st } else v

/-- Charging stops, the converters return (R347), the phase becomes `x` (R349). -/
def State.stopCharge (s : State) (x : ChgPhase) : State :=
  ((s.modCv .cv1 Cv.endCharge).modCv .cv2 Cv.endCharge).setPhase x

/-- R344: the removal monitor has owner hub, net `BAT+` (0x42, 82 mV a step), grade FAST and a high threshold at 103 to
106 % of `CELLS` × `VCHG`, `VCHG` as requested within its range. -/
def State.wmRouted (s : State) : Bool :=
  let w := s.reg (0x0400 + 4 * s.removalWm)
  let th := 82 * s.rf (0x0401 + 4 * s.removalWm) 8 8
  let pack := s.cells * 10 * s.vchgReq
  decide (fld w 0 8 = 0x42) && decide (fld w 8 3 = 4) && decide (fld w 11 3 = 1)
    && decide (103 * pack ≤ 100 * th) && decide (100 * th ≤ 106 * pack)

/-- R346: what a charge needs besides the state-of-charge condition and an eligible converter's feed. -/
def State.chargeAllowed (s : State) : Bool :=
  s.imgAuth && s.bit 0x08C0 6 && !s.bit 0x08CF 9 && s.wmRouted
    && (decide (s.hub.bat.st = .present) || decide (s.hub.bat.st = .depleted)) && decide (0 < s.chgEnv)
    && !s.hub.bat.requalify

/-- R346: the state of charge is below `STORE_SOC` − `RECHG`, or a full charge is pending. -/
def State.socWants (s : State) : Bool :=
  let store := clampTo 30 100 (s.rf 0x08C0 16 7)
  let re := clampTo 1 20 (s.rf 0x08C0 23 5)
  s.hub.bat.full || decide (s.hub.bat.soc < 2 * (store - re))

/-- R347: a converter is eligible: OFF or STANDBY, and its bus has a supplying feed other than itself. -/
def State.eligible (s : State) (c : Conv) : Bool :=
  (decide ((s.cv c).st = .off) || decide ((s.cv c).st = .standby)) && !(s.cv c).clampOff && !(s.cv c).legsOff
    && s.otherFeed (s.convBus c) 6

/-- The converter the charger uses: CV1 if eligible, else CV2 (R347). -/
def State.chargeConv (s : State) : Option Conv :=
  if s.hub.parallel then (if s.eligible .cv1 && s.eligible .cv2 then some .cv1 else none)
  else if s.eligible .cv1 then some .cv1 else if s.eligible .cv2 then some .cv2 else none

/-- The phase a charge has by the pack voltage (R349). -/
def State.phaseByVoltage (s : State) : ChgPhase := if s.sense.bat < s.cells * s.preMv then .precharge else .cc

/-- A converter begins to charge (R316): the state it left is recorded. -/
def Cv.startCharge (v : Cv) : Cv := if v.charge then v else { v with before := v.st, st := .regulating, charge := true }

/-- Start a charge on a converter, or resume one (R316, R347, R349). -/
def State.startCharge (s : State) (c : Conv) : State :=
  let s := s.modCv c Cv.startCharge
  let s := if s.hub.parallel then s.modCv .cv2 Cv.startCharge else s
  let s := s.modBat fun b => { b with chgCv := c }
  s.setPhase s.phaseByVoltage

/-- The power remainder that a charge needs, 2.5 W (R346, R348). -/
def State.remainderOk (s : State) (c : Conv) : Bool := decide (5 ≤ s.remainder (s.convBus c))

/-- CC or CV. -/
def ChgPhase.main (x : ChgPhase) : Bool := decide (x = .cc) || decide (x = .cv)

/-- `STORE_SOC` as it acts, 0.5 % units. -/
def State.storeSoc (s : State) : Nat := 2 * clampTo 30 100 (s.rf 0x08C0 16 7)

/-- The charge ends in DONE and sets `CHG_DONE`. -/
def State.chargeDone (s : State) : State := (s.stopCharge .done).orReg 0x08CF (flag 2 true)

/-- R349: `STORE_SOC` is reached with no full charge pending. -/
def State.storeReached (s : State) : Bool := s.hub.bat.phase.main && !s.hub.bat.full && decide (s.storeSoc ≤ s.hub.bat.soc)

/-- R349: a change of the battery state, of the configuration or of the power remainder ends or suspends a charge in progress. -/
def State.judgeCharge (s : State) : State :=
  let ok := (decide (s.hub.bat.st = .present) || decide (s.hub.bat.st = .depleted)) && s.bit 0x08C0 6
  if !ok then s.stopCharge .idle
  else if s.hub.bat.phase.active && !(s.chargeAllowed && s.remainderOk s.hub.bat.chgCv) then s.stopCharge .suspended
  else s

/-- Set `CFG_BAD` while charging is enabled and the removal monitor is not routed as it must be (R344). -/
def State.judgeWm (s : State) : State :=
  if s.batPair && s.bit 0x08C0 6 && !s.wmRouted then s.orReg 0x08CF (flag 9 true) else s

/-! ### Battery states -/

/-- Change the battery state: BAT posted, epoch, gauge record (R345, R356). -/
def State.setBat (s : State) (x : BatState) : State :=
  if s.hub.bat.st = x then s
  else
    let s := (s.modBat fun b => { b with st := x, okSince := none }).postH 0x50 (BitVec.ofNat 16 (batCode x))
    s.gaugeRecord.judgeCharge.refreshBat

/-- UNCONFIGURED ends at a commit or hub patch with a valid pair (R345); an invalid pair leaves or makes it UNCONFIGURED
(R336). -/
def State.configureBat (s : State) : State :=
  if s.batPair then
    if s.hub.bat.st = .unconfigured then
      let s := s.modBat fun b =>
        match b.record, b.removedSince with
        | some (q, f, c), false => { b with qrem := q, fcc := f, cycles := c, gaugeValid := true }
        | _, _ => { b with qrem := 0, fcc := s.dcap, cycles := 0, gaugeValid := false }
      s.judgeEol.setBat (if 2000 ≤ s.sense.bat then .qualifying else .absent)
    else s
  else s.setBat .unconfigured

/-- Every converter OFF by removal: the battery-side legs held off (R358), the bus of a running one loses its feed. -/
def Cv.removed (v : Cv) : Cv := { v with legsOff := true, st := .off, charge := false, batlim := false, cc := false, cnt := 0 }

/-- A converter goes OFF by removal; the bus of one that ran in BUS loses that feed (R294, R316). -/
def State.removeConv (s : State) (c : Conv) : State :=
  let b := s.convBus c
  let fed := (s.cv c).inBus
  let s := s.modCv c Cv.removed
  if fed && !s.feedConducts b 6 then (s.markLost b 6).feedEnd b 6 else s

/-- The removal actions of R358, and the state ABSENT. -/
def State.removeBat (s : State) : State :=
  let ph := chgCode s.hub.bat.phase
  let s := (s.removeConv .cv1).removeConv .cv2
  let s := s.fault 4 0x11 ph
  let s := s.modBat fun b =>
    { b with drain5mA := true, qrem := 0, fcc := s.dcap, cycles := 0, drained := 0, gaugeValid := false, lastRest := none
             counted := 0, deep := false, requalify := false, full := false, eolRaised := false }
  let s := s.orReg 0x08CF (flag 0 true)
  let s := s.setBat .absent
  s.modBat fun b => { b with removedSince := true }

end Sys2Proof.Machine
end

