-- ==== Sys2Proof/Machine/Pwm.lean ====
section
/-! DEFINITION. The PWM generator (R323 to R332): the period counters of the converters and the GPWM channels, what a period
boundary takes over from the shadow registers, the switches of the converter legs with their dead times, the GPWM outputs,
and the stop of the generator that holds them. `rd` reads a stored register. -/
namespace Sys2Proof.Machine

/-- A converter switches: STARTING or REGULATING. -/
def Cv.switching (v : Cv) : Bool := decide (v.st = .starting) || decide (v.st = .regulating)

/-! ### Period boundaries -/

/-- `PERIOD` of a converter as it acts (R334). -/
def cvPeriod (rd : Nat → Word) (c : Conv) : Nat := clampTo 48 96 (fld (rd (convBase c)) 0 7)

/-- What a boundary ends (R318, R331): the latch releases, and a period in which the peak limit did not act ends its run. -/
def Cv.boundary (v : Cv) : Cv := { v with peakLatch := false, peaks := if v.acted then v.peaks else 0, acted := false }

/-- A converter's period boundary (R323, R320): the shadow period takes effect, of both converters in parallel. -/
def Hub.cvBoundary (rd : Nat → Word) (h : Hub) : Conv → Hub
  | .cv1 =>
    let n := cvPeriod rd .cv1
    { h with cv1 := h.cv1.boundary, period1 := n, period2 := if h.parallel then n else h.period2 }
  | .cv2 =>
    { h with cv2 := h.cv2.boundary, period2 := if h.parallel then h.period2 else cvPeriod rd .cv2 }

/-- `GPWM0`'s boundary (R323, R328, R329): shadows, a cleared `EN`, and `COMP` with what it does to `GPWM1`. -/
def Hub.gpwm0Boundary (rd : Nat → Word) (h : Hub) : Hub :=
  let w := rd 0x0840
  let comp := w.getLsbD 2
  let on1 := w.getLsbD 1 && !comp && (h.en1 || h.comp)
  let start1 := on1 && !h.en1
  { h with run0 := h.per0.getD (rd 0x0841), duty0 := BitVec.ofNat 16 (fld (rd 0x0842) 0 16)
           en0 := h.en0 && w.getLsbD 0, comp := comp, en1 := on1
           run1 := if start1 then h.per1.getD (rd 0x0843) else h.run1
           duty1 := if start1 then BitVec.ofNat 16 (fld (rd 0x0844) 0 16) else h.duty1
           gcnt0 := 0, gcnt1 := if start1 then 0 else h.gcnt1 }

/-- `GPWM1`'s boundary. -/
def Hub.gpwm1Boundary (rd : Nat → Word) (h : Hub) : Hub :=
  let w := rd 0x0840
  { h with run1 := h.per1.getD (rd 0x0843), duty1 := BitVec.ofNat 16 (fld (rd 0x0844) 0 16)
           en1 := h.en1 && w.getLsbD 1 && !w.getLsbD 2, comp := if h.en0 then h.comp else w.getLsbD 2, gcnt1 := 0 }

/-- GPWM control (R329): a set enable starts at count 0 with the shadow values, a cleared one waits for the boundary. The
pins stay low in SAFE (R61), before an image has control (R20), and a stopped generator holds them (R171). -/
def State.gpwmCtlDone (s : State) : State :=
  if s.hub.frozen || !s.imgAuth || s.bow || decide (s.mode = .safe) then s
  else
    let w := s.reg 0x0840
    let on0 := w.getLsbD 0 && !s.hub.en0
    let on1 := w.getLsbD 1 && !w.getLsbD 2 && !s.hub.en1
    { s with hub :=
      { s.hub with
        run0 := if on0 then s.hub.per0.getD (s.reg 0x0841) else s.hub.run0
        duty0 := if on0 then BitVec.ofNat 16 (s.rf 0x0842 0 16) else s.hub.duty0
        gcnt0 := if on0 then 0 else s.hub.gcnt0
        run1 := if on1 then s.hub.per1.getD (s.reg 0x0843) else s.hub.run1
        duty1 := if on1 then BitVec.ofNat 16 (s.rf 0x0844 0 16) else s.hub.duty1
        gcnt1 := if on1 then 0 else s.hub.gcnt1
        en0 := s.hub.en0 || on0, en1 := s.hub.en1 || on1
        comp := if s.hub.en0 || s.hub.en1 then s.hub.comp else w.getLsbD 2 } }

/-! ### The counters -/

/-- The channel's counter runs: a converter that switches, an enabled pin. -/
def Hub.chanRuns (h : Hub) : PwmChan → Bool
  | .cv .cv1 => h.cv1.switching
  | .cv .cv2 => h.cv2.switching
  | .gpwm0 => h.en0
  | .gpwm1 => h.en1

/-- Length of a GPWM period in `CLK` cycles: `PERIOD`, at least 2, counts of 2^`PRE` (R326, R335). -/
def gpwmLen (run : Word) : Nat := max 2 (fld run 0 16) * 2 ^ fld run 16 3

/-- Active part of a GPWM period in `CLK` cycles (R326). -/
def gpwmActive (run : Word) (duty : Half) : Nat := min (gpwmLen run) (duty.toNat * 2 ^ fld run 16 3)

/-- `CLK` cycles left in a channel's period. -/
def Hub.chanLeft (h : Hub) : PwmChan → Nat
  | .cv .cv1 => h.period1 - h.cv1.cnt
  | .cv .cv2 => h.period2 - h.cv2.cnt
  | .gpwm0 => gpwmLen h.run0 - h.gcnt0
  | .gpwm1 => gpwmLen h.run1 - h.gcnt1

/-- The cycle in which a channel's period in progress ends. -/
def State.boundaryAt (s : State) (ch : PwmChan) : Nat := s.cycles + s.hub.chanLeft ch

/-- A converter counts `n` cycles: past its boundary what is left counts in periods of the length then in force. -/
def Hub.cvPass (rd : Nat → Word) (n : Nat) (h : Hub) : Hub :=
  if !h.cv1.switching then h
  else if n < h.chanLeft (.cv .cv1) then { h with cv1 := { h.cv1 with cnt := h.cv1.cnt + n } }
  else
    let m := n - h.chanLeft (.cv .cv1)
    let h := h.cvBoundary rd .cv1
    { h with cv1 := { h.cv1 with cnt := m % h.period1, periods := h.cv1.periods + 1 + m / h.period1 } }

/-- CV2 counts by itself, or in parallel at CV1's period half a period behind (R320). -/
def Hub.cv2Pass (rd : Nat → Word) (n : Nat) (h : Hub) : Hub :=
  if !h.cv2.switching then h
  else
    let left := h.chanLeft (.cv .cv2)
    let h := if n < left then { h with cv2 := { h.cv2 with cnt := h.cv2.cnt + n } }
      else
        let m := n - left
        let h := h.cvBoundary rd .cv2
        { h with cv2 := { h.cv2 with cnt := m % h.period2, periods := h.cv2.periods + 1 + m / h.period2 } }
    if h.parallel then { h with cv2 := { h.cv2 with cnt := (h.cv1.cnt + h.period1 / 2) % h.period1 } } else h

/-- `GPWM1` counts `n` cycles. -/
def Hub.gpwm1Pass (rd : Nat → Word) (n : Nat) (h : Hub) : Hub :=
  if !h.en1 then h
  else if n < h.chanLeft .gpwm1 then { h with gcnt1 := h.gcnt1 + n }
  else
    let m := n - h.chanLeft .gpwm1
    let h := h.gpwm1Boundary rd
    { h with gcnt1 := if h.en1 then m % gpwmLen h.run1 else 0 }

/-- Both GPWM channels count `n` cycles; a `GPWM1` that `GPWM0`'s boundary starts counts what is left from there. -/
def Hub.gpwmPass (rd : Nat → Word) (n : Nat) (h : Hub) : Hub :=
  if !h.en0 then h.gpwm1Pass rd n
  else if n < h.chanLeft .gpwm0 then { h with gcnt0 := h.gcnt0 + n }.gpwm1Pass rd n
  else
    let m := n - h.chanLeft .gpwm0
    let was := h.en1
    let h := h.gpwm0Boundary rd
    let h := { h with gcnt0 := if h.en0 then m % gpwmLen h.run0 else 0 }
    h.gpwm1Pass rd (if was then n else m)

/-- `n` cycles of `CLK` pass on every channel's counter; a stopped generator counts nothing (R330). -/
def State.pwmPass (s : State) (n : Nat) : State :=
  if s.hub.frozen then s else { s with hub := ((s.hub.gpwmPass s.reg n).cvPass s.reg n).cv2Pass s.reg n }

/-! ### The converter legs -/

/-- A dead time as it acts: a code below 16 acts as 16 (R325). -/
def deadTime (code : Nat) : Nat := max 16 code

/-- The switches of a leg at time `t` of its period, by the loop's duty `d` and the dead times, in 1/32 `CLK` periods (R325):
the high side from `rise` to `d`, the low side from `fall` after that. -/
def legSwitches (t d rise fall : Nat) : LegSw := ⟨decide (rise ≤ t) && decide (t < d), decide (d + fall ≤ t)⟩

/-- Both switches off. -/
def legOff : LegSw := ⟨false, false⟩

/-- The high-side switch stays on. -/
def legHigh : LegSw := ⟨true, false⟩

/-- The switches of one leg as it runs: the battery-side leg, or with `o` the bus-side one; the floor peak limit ends the on-time of
its period (R22, log entry 65). Below 90 % of the battery voltage
the bus side stays high (buck), above 110 % the battery side does (boost); between them both switch. -/
def State.legRuns (s : State) (c : Conv) (o : Bool) : LegSw :=
  let v := s.cv c
  let bus := s.nbus (s.convBus c)
  let high := if o then decide (bus * 10 < s.sense.bat * 9) else decide (s.sense.bat * 11 < bus * 10)
  if !v.switching || v.peakLatch || v.acted || v.clampOff || (!o && v.legsOff) then legOff
  else if high then legHigh
  else
    let w := s.reg (convBase c + 5)
    let per := match c with | .cv1 => s.hub.period1 | .cv2 => s.hub.period2
    let d := min (32 * per) (Config.legDuty (2 * convNo c + if o then 1 else 0) v.periods)
    let b := if o then 16 else 0
    legSwitches (32 * v.cnt) d (deadTime (fld w b 8)) (deadTime (fld w (b + 8) 8))

/-- The switches of one leg (R171, R330, R331): a stopped generator holds them, and a latch turns them off. -/
def State.leg (s : State) (c : Conv) (o : Bool) : LegSw :=
  let v := s.cv c
  if s.hub.frozen then
    (if !v.switching || v.peakLatch || v.clampOff || (!o && v.legsOff) then legOff else if o then v.heldO else v.heldB)
  else s.legRuns c o

/-! ### The GPWM outputs -/

/-- An output of the complementary pair (R327): `GPWM0` is active in the first `d` of `len` cycles and `GPWM1` in the rest, each
from `dt` cycles after the other has become inactive. -/
def compActive (len d dt cnt : Nat) (second : Bool) : Bool :=
  if second then decide ((if d = 0 then 0 else d + dt) ≤ cnt) && decide (cnt < len) && decide (d < len)
  else decide ((if d < len then dt else 0) ≤ cnt) && decide (cnt < d)

/-- The GPWM channel drives its pin: enabled, and the second of a pair with the first. -/
def Hub.gpwmOn (h : Hub) (second : Bool) : Bool := if second && !h.comp then h.en1 else h.en0

/-- The level of a GPWM output as it runs (R326, R327, R329): active for its duty, inverted by `POL`, low when disabled. -/
def State.gpwmRuns (s : State) (second : Bool) : Bool :=
  let h := s.hub
  let w := s.reg 0x0840
  let act :=
    if h.comp then compActive (gpwmLen h.run0) (gpwmActive h.run0 h.duty0) (fld w 8 8) h.gcnt0 second
    else if second then decide (h.gcnt1 < gpwmActive h.run1 h.duty1)
    else decide (h.gcnt0 < gpwmActive h.run0 h.duty0)
  h.gpwmOn second && (act != w.getLsbD (if second then 4 else 3))

/-- The level a GPWM pin drives; none in BOOT and COLD, low in SAFE and SENTINEL (R61, R65). -/
def State.gpwmPin (s : State) (second : Bool) : Option Bool :=
  if s.mode = .boot ∨ s.mode = .cold then none
  else if s.mode = .safe ∨ s.mode = .sentinel then some false
  else if s.hub.frozen then some (if second then s.hub.gheld.2 else s.hub.gheld.1)
  else some (s.gpwmRuns second)

/-! ### The stop of the generator -/

/-- Every leg and GPWM output holds its level (R171, R330); one already held stays as it is. -/
def State.freeze (s : State) : State :=
  if s.hub.frozen then s
  else
    let h := s.hub
    { s with hub :=
      { h with frozen := true, gheld := (s.gpwmRuns false, s.gpwmRuns true)
               cv1 := { h.cv1 with heldB := s.legRuns .cv1 false, heldO := s.legRuns .cv1 true }
               cv2 := { h.cv2 with heldB := s.legRuns .cv2 false, heldO := s.legRuns .cv2 true } } }

/-- A converter that was starting or regulating its bus restarts its loop from the present bus voltage (R332). -/
def Cv.restart (mv now : Nat) (v : Cv) : Cv := if v.inBus then { v with slewMv := max 1 mv, slewAt := now } else v

def State.restartLoop (s : State) (c : Conv) : State := s.modCv c (Cv.restart (s.nbus (s.convBus c)) s.cycles)

/-- The generator runs again: the loops restart, and an enable written meanwhile starts its channel (R329, R332). -/
def State.unfreeze (s : State) : State :=
  if s.hub.frozen then
    (({ s with hub := { s.hub with frozen := false } }.restartLoop .cv1).restartLoop .cv2).gpwmCtlDone
  else s

end Sys2Proof.Machine
end

