-- ==== Sys2Proof/Machine/RegWrite.lean ====
section
/-! DEFINITION. What a write of a register's RW, RWL and W1S fields stores and sets going (R6, R18, R26, R182, R183, R269,
R311, R328, R329, R363, R379, R390, R426, R497, R564), and a write by a master on top of it: W1C flags, the configuration banks
(R520, R521), and the clamp flags (R169). Image records and bank swaps use the same field rules (R86, R87). -/
namespace Sys2Proof.Machine

/-- Keep the `n`-bit field from bit `lo` of the old word. -/
def keep (old v : Word) (lo n : Nat) : Word := withFld v lo n (fld old lo n)

/-- Facet and offset of a word index in a facet's range. -/
def facetOf (i : Nat) : Option (Port × Nat) :=
  if 0x1000 ≤ i ∧ i < 0x2000 then some (portOf ((i - 0x1000) / 0x400), (i - 0x1000) % 0x400) else none

/-- A link ring word's `BASE` + 2 × `SIZE` stays within SRAM (R497). -/
def ringFits (v : Word) : Bool := decide (2 * fld v 1 18 + 2 * fld v 20 12 ≤ 524288)

/-- A write that changes `BUS` from `bus` while the pair is commanded closed or not open is ignored (R269). -/
def State.selBlocked (s : State) (p : Port) (bus : Nat) (v : Word) : Bool :=
  decide (fld v 21 1 ≠ bus) && ((s.facet p).pp.swCmd || decide ((s.facet p).pp.sw ≠ .open))

/-- The field rules of a facet register: what a written word stores where its fields may refuse it. -/
def State.adjustF (s : State) (p : Port) (o : Nat) (old v : Word) : Word :=
  match o with
  | 0x040 =>
    let v := if fld v 0 2 = 3 then keep old v 0 2 else v
    let v := if 50 ≤ fld v 8 7 ∧ fld v 8 7 ≤ 100 then v else keep old v 8 7
    if 30 ≤ fld v 16 7 ∧ fld v 16 7 ≤ 70 then v else keep old v 16 7
  | 0x142 => if s.selBlocked p (fld old 21 1) v then old else v
  | 0x203 => if (s.facet p).ct.linkOn || !ringFits v then old else v
  | 0x205 => if (s.facet p).ct.linkOn || !ringFits v then old else v
  | _ => v

/-- The field rules of every register. -/
def State.adjust (s : State) (i : Nat) (old v : Word) : Word :=
  match facetOf i with
  | some (p, o) => s.adjustF p o old v
  | none =>
    if 0x0400 ≤ i ∧ i < 0x0480 then
      if i % 4 = 0 then
        if fld old 0 8 = 0 then keep old v 11 3 else if 6 ≤ fld v 11 3 then withFld v 11 3 0 else v
      else v
    else if i = 0x0705 then (if old.getLsbD 16 then old else v)
    else if i = 0x0313 then (if s.certified then old else v)
    else if i = 0x0315 then (if s.certified then old else v)
    else if i = 0x2042 ∨ i = 0x2043 then withFld v 7 1 0
    else v

/-- Close the windows of the sources whose enables were cleared (R426). -/
def closeWindows (base : Nat) (cleared : Word) (ws : List Window) : List Window :=
  ws.filter fun w => !(decide (base ≤ w.src.toNat) && decide (w.src.toNat < base + 32) && cleared.getLsbD (w.src.toNat - base))

/-- First source number of an `x_FLT_SENn`. -/
def senFirst (o : Nat) : Nat := if o = 0xA then 0 else if o = 0xB then 0x80 else 0xA0

/-- Set or clear bit `k` of a word. -/
def putBit (w : Word) (k : Nat) (b : Bool) : Word := if b then w ||| flag k true else w &&& ~~~ flag k true

/-- A monitor powers its comparators up (R375): outputs 0 and settling. -/
def State.wmPowerUp (s : State) (k : Nat) (hi lo : Bool) : State :=
  { s with wmHi := if hi then putBit s.wmHi k false else s.wmHi
           wmLo := if lo then putBit s.wmLo k false else s.wmLo
           wmSetHi := if hi then putBit s.wmSetHi k true else s.wmSetHi
           wmSetLo := if lo then putBit s.wmSetLo k true else s.wmSetLo }

/-- A comparator powered down outputs 0 (R366). -/
def State.wmPowerDown (s : State) (k : Nat) (hi lo : Bool) : State :=
  { s with wmHi := if hi then putBit s.wmHi k false else s.wmHi
           wmLo := if lo then putBit s.wmLo k false else s.wmLo
           wmSetHi := if hi then putBit s.wmSetHi k false else s.wmSetHi
           wmSetLo := if lo then putBit s.wmSetLo k false else s.wmSetLo }

/-- A write of `WMk_CFG` (R366, R375, R379): a changed grade powers both comparators up, a set enable its own; a cleared
enable or grade 0 leaves the output 0. No monitor runs before an image has control (R20). -/
def State.wmCfgDone (s : State) (k : Nat) (old new : Word) : State :=
  let on := decide (fld new 11 3 ≠ 0) && s.imgAuth
  let regrade := decide (fld new 11 3 ≠ fld old 11 3)
  let hi := on && new.getLsbD 17
  let lo := on && new.getLsbD 16
  (s.wmPowerDown k (!hi) (!lo)).wmPowerUp k (hi && (regrade || !old.getLsbD 17)) (lo && (regrade || !old.getLsbD 16))

/-- A write of `LAP_TMRn_CFG` (R151, R163): `EN` written 1 loads and starts, 0 stops. -/
def Tmr.load (v : Word) : Tmr := { count := max 1 (fld v 0 24), pre := 96 }

def State.tmr (s : State) : Nat → Tmr
  | 0 => s.lap.tmr0 | 1 => s.lap.tmr1 | 2 => s.lap.tmr2 | 3 => s.lap.tmr3
  | 4 => s.lap.tmr4 | 5 => s.lap.tmr5 | 6 => s.lap.tmr6 | _ => s.lap.tmr7

def State.setTmr (s : State) (n : Nat) (t : Tmr) : State :=
  s.modLap fun l => match n with
    | 0 => { l with tmr0 := t } | 1 => { l with tmr1 := t } | 2 => { l with tmr2 := t } | 3 => { l with tmr3 := t }
    | 4 => { l with tmr4 := t } | 5 => { l with tmr5 := t } | 6 => { l with tmr6 := t } | _ => { l with tmr7 := t }

/-- `AUXIN` conducts while it is enabled and valid (H_AUX_CFG); a lost or disabled one ends as a feed. -/
def State.auxDone (s : State) (old : Word) : State :=
  let was := s.hub.auxOn
  let oldBus : Bus := if old.getLsbD 1 then .nbus2 else .nbus1
  let bus : Bus := if s.bit 0x0884 1 then .nbus2 else .nbus1
  let on := s.bit 0x0884 0 && s.auxOk
  let s := if was && (!on || decide (oldBus ≠ bus)) then
      ({ s with hub := { s.hub with auxOn := false } }).feedEnd oldBus 5
    else s
  if !on || s.hub.auxOn || !s.listed bus 5 then s
  else if (s.feed bus).priority && ((s.feed bus).gap || s.otherFeed bus 5) then s
  else { s.unlose bus 5 with hub := { (s.unlose bus 5).hub with auxOn := true } }

/-- What a stored facet register sets going; `raw` is the word as written. -/
def State.afterF (s : State) (p : Port) (o : Nat) (raw : Word) : State :=
  match o with
  | 0x040 => (s.refreshRp p).refreshVconn p
  | 0x080 =>
    if (s.facet p).ct.contract then s else s.modPd p fun d => { d with pdEn := s.bit (fx p 0x080) 0 }
  | 0x141 => s.refreshIlim p
  | 0x142 => if s.selBlocked p (s.rf (fx p 0x142) 21 1) raw then s.orReg (fx p 0x145) (flag 8 true) else s
  | 0x203 => if (s.facet p).ct.linkOn || !ringFits raw then s else s.setReg (fx p 0x204) 0
  | 0x204 => s.modLk p fun l => { l with posted := false }
  | 0x205 => if (s.facet p).ct.linkOn || !ringFits raw then s else s.setReg (fx p 0x206) 0
  | _ => s

/-- What a stored register sets going; `old` is the word before, `raw` the word as written. -/
def State.afterStore (s : State) (i : Nat) (old raw : Word) : State :=
  match unitOf i with
  | some (u, o) =>
    if 0xA ≤ o ∧ o ≤ 0xC then
      s.setFlt u { s.flt u with windows := closeWindows (senFirst o) (old &&& ~~~ s.reg i) (s.flt u).windows }
    else s
  | none =>
    match facetOf i with
    | some (p, o) => s.afterF p o raw
    | none =>
      if i = 0x0010 then
        { s with tickOld := if s.nextTick ≤ s.cycles then some (s.tickOld.getD (fld old 0 6)) else none }.orReg 0x0010 (flag 6 true)
      else if 0x0400 ≤ i ∧ i < 0x0480 ∧ i % 4 = 0 then s.wmCfgDone ((i - 0x0400) / 4) old (s.reg i)
      else if i = 0x0500 then
        (if s.adc.running || s.adc.armed then s else s.modAdc fun a => { a with mode := BitVec.ofNat 2 (s.rf 0x0500 0 2) })
      else if 0x0710 ≤ i ∧ i ≤ 0x071E ∧ i % 2 = 0 then
        (if s.bit i 26 then s.setTmr ((i - 0x0710) / 2) (Tmr.load (s.reg i)) else s)
      else if i = 0x0811 ∨ i = 0x0813 then s.refreshConv .cv1 (s.droopOf .cv1)
      else if i = 0x0821 ∨ i = 0x0823 then s.refreshConv .cv2 (s.droopOf .cv2)
      else if i = 0x0840 then s.gpwmCtlDone
      else if i = 0x0841 then { s with hub := { s.hub with per0 := some (s.hub.per0.getD old) } }
      else if i = 0x0842 then { s with hub := { s.hub with per0 := none } }
      else if i = 0x0843 then { s with hub := { s.hub with per1 := some (s.hub.per1.getD old) } }
      else if i = 0x0844 then { s with hub := { s.hub with per1 := none } }
      else if i = 0x0884 then s.auxDone old
      else if i = 0x08C0 then
        (if s.batPair then s.judgeCharge else s.setBat .unconfigured).refreshBat
      else if i = 0x08C1 ∨ i = 0x08C3 ∨ i = 0x08C5 then s.refreshBat
      else if 0x2040 ≤ i ∧ i ≤ 0x2043 then
        s.modGpio fun g => { g with released := g.released &&& ~~~ BitVec.ofNat 4 (2 ^ (i - 0x2040)) }
      else s

/-- Store a register's RW, RWL and W1S fields: image records, bank swaps and master writes alike. A tick length outside
1 to 32 is ignored (R26). -/
def State.storeRw (s : State) (i : Nat) (v : Word) : State :=
  match regRow i with
  | none => s
  | some r =>
    if r.rw ||| r.w1s = 0 || (decide (i = 0x0010) && (decide (fld v 0 6 = 0) || decide (32 < fld v 0 6))) then s
    else
      let old := s.reg i
      let w := s.adjust i old v
      (s.setReg i ((old &&& ~~~ r.rw) ||| (w &&& r.rw) ||| (w &&& r.w1s))).afterStore i old v

/-! ### Banks -/

/-- Store a bank field in a bank (R520). -/
def bankPut (s : State) (regs : List (Nat × Word)) (i : Nat) (v : Word) : List (Nat × Word) :=
  match regRow i with
  | none => regs
  | some r =>
    let old := spGet resetWord regs i
    let v := s.adjust i old v
    spPut resetWord regs i ((old &&& ~~~ r.rw) ||| (v &&& r.rw) ||| (v &&& r.w1s))

def Bank.put (s : State) (b : Bank) (i : Nat) (v : Word) : Bank := { b with regs := bankPut s b.regs i v }
def HubBank.put (s : State) (b : HubBank) (i : Nat) (v : Word) : HubBank := { b with regs := bankPut s b.regs i v }

/-- The register has fields of a configuration bank (R520). -/
def bankField (i : Nat) : Bool :=
  match regRow i with
  | none => false
  | some r => decide (r.rw ||| r.w1s ≠ 0)

/-- A master's write of RW fields: held during HOLDING, and stored in both banks during PREPARING and READY (R521). -/
def State.bankWrite (s : State) (i : Nat) (v : Word) : State :=
  match facetOf i with
  | some (p, _) =>
    match (s.facet p).rc.phase with
    | .holding => s.modRc p fun r => { r with held := r.held ++ [(i, v)] }
    | .preparing => (s.modRc p fun r => { r with shadow := r.shadow.map fun b => b.put s i v }).storeRw i v
    | .ready => (s.modRc p fun r => { r with shadow := r.shadow.map fun b => b.put s i v }).storeRw i v
    | _ => s.storeRw i v
  | none =>
    if 0x0800 ≤ i ∧ i < 0x1000 then
      match s.hub.rc.phase with
      | .holding => s.modHub fun h => { h with rc := { h.rc with held := h.rc.held ++ [(i, v)] } }
      | .preparing =>
        (s.modHub fun h => { h with rc := { h.rc with shadow := h.rc.shadow.map fun b => b.put s i v } }).storeRw i v
      | .ready =>
        (s.modHub fun h => { h with rc := { h.rc with shadow := h.rc.shadow.map fun b => b.put s i v } }).storeRw i v
      | _ => s.storeRw i v
    else s.storeRw i v

/-- Clear the W1C flags a write clears; a clamp flag whose `ACTIVE` stands sets again at once (R169). -/
def State.clearFlags (s : State) (i : Nat) (v : Word) : State :=
  match regRow i with
  | none => s
  | some r =>
    if r.w1c = 0 then s
    else
      let s := s.clrReg i (v &&& r.w1c)
      match facetOf i with
      | some (p, 0x004) => if (s.facet p).clampIlim then s.orReg i 1 else s
      | some (p, 0x202) =>
        if v.getLsbD 3 then s.modLk p fun l => { l with txHalt := false } else s
      | _ => if i = 0x0804 then s.orReg i (s.hub.clamp.setWidth 32) else s

/-- A facet owns a converter's bus, so a master's write of its setpoint request is discarded (R311). -/
def State.vsetBlocked (s : State) (i : Nat) : Bool :=
  (decide (i = 0x0811) && (s.busOwner (s.convBus .cv1)).isSome)
    || (decide (i = 0x0821) && (s.busOwner (s.convBus .cv2)).isSome)

/-- A write there may change what R344 and R346 ask for a charge: the battery's configuration and flags, and the monitors. -/
def chargeReg (i : Nat) : Bool := decide (i = 0x08C0 ∨ i = 0x08C1 ∨ i = 0x08CF ∨ (0x0400 ≤ i ∧ i < 0x0480))

/-- A master's write of a register that is no command and has no owner: its W1C flags, then its stored fields. -/
def State.regWrite (s : State) (i : Nat) (v : Word) : State :=
  if s.vsetBlocked i then s.orReg (if i = 0x0811 then 0x0818 else 0x0828) (flag 5 true)
  else
    let s := (s.clearFlags i v).bankWrite i v
    if chargeReg i then s.judgeWm.judgeCharge else s

end Sys2Proof.Machine
end

