-- ==== Sys2Proof/Machine/PdRx.lean ====
section
/-! DEFINITION. What a facet does with each message it receives (R212 to R221, R238 to R264), with the keeper's answers
during a hold (R127) and the common rules of reception (R200 to R206). Handlers change the state; the meanings of
`Machine/PdFamily.lean` and the deferred answer of R128 run them. PD object contents are PRESUMED of USB PD 3.1
(log entry 12). -/
namespace Sys2Proof.Machine

/-! ### Kinds of message -/

/-- How a received message is routed (tables of R212 to R214). -/
inductive RxKind where
  | sourceCaps | request | eprRequest | accept | reject | wait | psRdy | softReset | prSwap | drSwap | vconnSwap | frSwap
  | getSourceCap | getSinkCap | eprMode | extControl | getPpsStatus | vdmRequest | vdmResponse | enterMode | exitMode
  | bist | getRevision | getSourceInfo | security | firmware | chunk | unchunked | sinkCaps | notSupported | ignored
  | unexpected | unsupported
deriving DecidableEq, Repr

def ctlKind : Nat → RxKind
  | 0x03 => .accept | 0x04 => .reject | 0x05 => .ignored | 0x06 => .psRdy | 0x07 => .getSourceCap | 0x08 => .getSinkCap
  | 0x09 => .drSwap | 0x0A => .prSwap | 0x0B => .vconnSwap | 0x0C => .wait | 0x0D => .softReset | 0x0F => .ignored
  | 0x10 => .notSupported | 0x11 => .firmware | 0x12 => .firmware | 0x13 => .frSwap | 0x14 => .getPpsStatus
  | 0x15 => .firmware | 0x16 => .firmware | 0x17 => .getSourceInfo | 0x18 => .getRevision
  | _ => .unsupported

def vdmKind (w : Word) : RxKind :=
  if vdmStructured w then
    (if vdmCmdType w = 0 then (if vdmCmd w = 4 then .enterMode else if vdmCmd w = 5 then .exitMode else .vdmRequest)
     else .vdmResponse)
  else if vdmSvid w = linkSvid then .firmware else .unsupported

def dataKind (typ : Nat) (o : Word) : RxKind :=
  match typ with
  | 0x01 => .sourceCaps | 0x02 => .request | 0x03 => .bist | 0x04 => .sinkCaps | 0x05 => .firmware | 0x06 => .firmware
  | 0x07 => .firmware | 0x09 => .eprRequest | 0x0A => .eprMode | 0x0B => .unexpected | 0x0C => .unexpected
  | 0x0F => vdmKind o
  | _ => .unsupported

def extKind : Nat → RxKind
  | 0x01 => .firmware | 0x02 => .firmware | 0x03 => .firmware | 0x04 => .firmware | 0x05 => .firmware | 0x06 => .firmware
  | 0x07 => .firmware | 0x08 => .security | 0x09 => .security | 0x0B => .ignored | 0x0D => .firmware | 0x0E => .firmware
  | 0x0F => .firmware | 0x10 => .extControl | 0x11 => .sourceCaps | 0x12 => .unexpected
  | _ => .unsupported

/-- The kind of a received message; an Extended message of more than one chunk, or a chunk request, goes to assembly. -/
def rxKind (m : PdMsg) : RxKind :=
  match m.cls with
  | .control => ctlKind m.typ
  | .data => dataKind m.typ (m.obj 0)
  | .extended =>
    if !m.chunked then .unchunked
    else if m.reqChunk || decide (26 < m.size) || decide (0 < m.chunkNo) then .chunk
    else extKind m.typ

/-- A firmware-routed message that requires a response (R218). The manual prints no list: these are the ones that USB PD 3.1 has
answered, unstructured VDMs not among them (log entry 76). -/
def fwResponse (m : PdMsg) : Bool :=
  match m.cls with
  | .control => decide (m.typ ∈ [0x11, 0x12, 0x15, 0x16])
  | .data => decide (m.typ = 0x07)
  | .extended => decide (m.typ ∈ [0x03, 0x04, 0x06])

/-- A non-extended message that requires a response (R127). -/
def needsAnswer (m : PdMsg) : Bool :=
  !m.extended && match rxKind m with
  | .getSourceCap => true | .getSinkCap => true | .prSwap => true | .drSwap => true | .vconnSwap => true | .frSwap => true
  | .eprMode => true | .eprRequest => true | .getPpsStatus => true | .vdmRequest => decide (vdmCmd (m.obj 0) ≠ 6)
  | .enterMode => true
  | .exitMode => true | .getRevision => true | .getSourceInfo => true | .sourceCaps => true | .firmware => fwResponse m
  | .unsupported => true
  | _ => false

/-- A chunked message of more than one chunk is being sent (R210). -/
def Pd.chunking (d : Pd) : Bool :=
  let long := fun (m : TxMsg) => decide (m.cls = .extended) && (m.more || decide (0 < m.chunk))
  d.chunkTx.isSome || d.chunkRx.isSome || d.inFlight.any long || d.queue.any long

/-- No sequence of R124 condition 3 is in progress on SOP or SOP′. -/
def Facet.noSeq (f : Facet) : Bool :=
  !f.ct.trans && !f.ct.authRun && !f.pd.chunking && f.pd.cable.isNone
    && (match f.pd.seq with
      | .none => true | .srcOffer => true | .srcAccepted _ => false | .srcWait _ => false | .srcRamp _ => false | .srcReady _ => false
      | .snkSelect => true | .snkRequested _ => true | .snkAccepted _ => false | .snkRetry _ => true | .prs _ => false
      | .drs _ => false | .vcs _ => false | .frs _ => false | .epr _ => true | .vdm _ => false | .vdmBusy _ => true | .auth => false
      | .getSourceCap => true | .getSinkCap => true | .softReset => true)

/-! ### Source and sink contracts -/

/-- A sink's answer to Source_Capabilities (R241); none are expected while it awaits PS_RDY. -/
def State.onSourceCaps (s : State) (p : Port) (caps : List Word) : State :=
  let f := s.facet p
  let busy := match f.pd.seq with
    | .snkAccepted _ => true | .prs .snkWait => true | .prs .srcPsRdy => true | .frs .accepting => true | .frs .waitPsRdy => true
    | _ => false
  if f.ct.prole || busy then s.protocolError p
  else
    let s := (s.swapLost p).modCt p fun c => { c with srcCaps := caps }
    if s.rf (fx p 0x100) 0 2 = 2 then s.setSeq p .snkSelect
    else s.sendChoice p (s.selectReq p caps)

/-- Answer Reject to a Request: `REQ_REJECTED` (R267). -/
def State.rejectRequest (s : State) (p : Port) : State :=
  (s.orReg (fx p 0x107) (flag 1 true)).send p (mkCtl .sop 0x04)

/-- An object as offered gives what a request asks (R238): the current of a Fixed object; a PPS object's voltage range and current; an
AVS object's voltage range and power. -/
def offerGives (w : Word) (r : Req) : Bool :=
  match pdoKind w with
  | .pps => decide (pdoMinMv w ≤ r.mv) && decide (r.mv ≤ pdoMv w) && decide (r.ma10 ≤ pdoMa10 w)
  | .avs => decide (pdoMinMv w ≤ r.mv) && decide (r.mv ≤ pdoMv w) && decide (r.mv * r.ma10 ≤ 100 * pdoMw w)
  | _ => decide (r.ma10 ≤ pdoMa10 w)

/-- The object offered is offerable still, as the request asks (R238 step 3). -/
def State.stillOffered (s : State) (p : Port) (w : Word) (r : Req) : Bool :=
  let f := s.facet p
  match offerObj (s.owner p) f.rev2 (s.nbus (s.busOf p)) f.ct.grant (s.cableMa10 p) (s.cableMv p) w with
  | some x => offerGives x r
  | none => false

/-- The request a request object makes of an offered object. -/
def reqOf (epr : Bool) (w rdo : Word) : Req :=
  match pdoKind w with
  | .pps => ⟨rdoPos rdo, epr, true, rdoPpsMv rdo, rdoPpsMa10 rdo, rdo⟩
  | .avs => ⟨rdoPos rdo, epr, false, 25 * fld rdo 9 12, rdoPpsMa10 rdo, rdo⟩
  | _ => ⟨rdoPos rdo, epr, false, pdoMv w, rdoMa10 rdo, rdo⟩

/-- A transition of R244 is accepted or under way. -/
def Facet.moving (f : Facet) : Bool :=
  f.ct.trans || match f.pd.seq with
    | .srcAccepted _ => true | .srcWait _ => true | .srcRamp _ => true | .srcReady _ => true
    | _ => false

/-- R238: evaluate a Request or EPR_Request. -/
def State.onRequest (s : State) (p : Port) (rdo : Word) (epr : Bool) : State :=
  let f := s.facet p
  if !f.ct.prole then s.protocolError p
  else
    let s := if rdoMismatch rdo then s.orReg (fx p 0x107) (flag 0 true) else s
    let s := if f.pd.seq = .srcOffer then s.endSeq p else s
    let k := rdoPos rdo
    let w := f.ct.offer.getD (k - 1) 0
    let r := reqOf epr w rdo
    if k = 0 ∨ f.ct.offer.length < k ∨ (epr = false ∧ 7 < k) ∨ w = 0 then s.rejectRequest p
    else if !offerGives w r then s.rejectRequest p
    else if !s.stillOffered p w r then (s.rejectRequest p).sendCaps p false
    else if (r.mv ≠ f.nowMv ∧ s.hub.fstate = .held) ∨ f.moving = true then s.send p (mkCtl .sop 0x0C)
    else ((s.swapLost p).setSeq p (.srcAccepted r)).send p (mkCtl .sop 0x03)

/-- The close sequence starts as though `SWITCH_ON` had been accepted, where hardware and role allow it. -/
def State.autoClose (s : State) (p : Port) : State :=
  let x := (s.facet p).pp
  if x.swCmd || x.floorLatch || x.leak || x.stall || s.tsd || decide ((s.facet p).fstate ≠ .live) then s else s.closeSwitch p

/-- R252 at tSrcTransition, or for R257 at once: the old source opens its switch and withdraws its grant. -/
def State.prsOff (s : State) (p : Port) : State :=
  let s := s.openSwitch p
  let s := s.modCt p fun c => { c with grant := 0, pending := 0, resize := none }
  s.setSeq p (.prs .srcOff)

/-- Accept received (R243, R252, R253). -/
def State.onAccept (s : State) (p : Port) (sp : Sop) : State :=
  if sp ≠ .sop then s.modPd p fun d => if d.srCable = some sp then { d with srCable := none } else d
  else match (s.facet p).pd.seq with
  | .snkRequested r => s.setSeq p (.snkAccepted r)
  | .prs .requested => s.prsAccepted p
  | .drs true => s.drsDone p
  | .vcs .requested => s.vcsAccepted p
  | .frs .txSignalled => s.prsOff p
  | .softReset => s.endSeq p
  | _ => s.protocolError p

/-- What the facet asked for is refused or put off; a probed pin presents its termination again (R253). -/
def State.swapRefused (s : State) (p : Port) : State :=
  match (s.facet p).pd.seq with
  | .prs .requested => (s.swapLost p).endSeq p
  | .drs true => (s.swapLost p).endSeq p
  | .vcs .requested => ((s.modCc p fun c => { c with probed := false }).swapLost p).endSeq p
  | .frs .txSignalled => ((s.swapLost p).modCt p fun c => { c with frsActive := false }).endSeq p
  | .epr .snkEntering => s.endSeq p
  | .vdm _ => s.endSeq p
  | .getSourceCap => s.endSeq p
  | .getSinkCap => s.endSeq p
  | .srcOffer => s.endSeq p
  | .auth => s.authResult p .unsupported
  | _ => s.protocolError p

/-- Reject received (R243, R252). -/
def State.onReject (s : State) (p : Port) : State :=
  match (s.facet p).pd.seq with
  | .snkRequested _ => (s.endSeq p).orReg (fx p 0x107) (flag 1 true)
  | _ => s.swapRefused p

/-- Wait received (R243). -/
def State.onWait (s : State) (p : Port) : State :=
  match (s.facet p).pd.seq with
  | .snkRequested r => s.setSeq p (.snkRetry r)
  | _ => s.swapRefused p

/-- A contract that a role change ends. -/
def State.roleSource (s : State) (p : Port) : State := (s.endContract p).becomeSource p

/-- PS_RDY received (R243, R252, R253, R255). -/
def State.onPsRdy (s : State) (p : Port) : State :=
  match (s.facet p).pd.seq with
  | .snkAccepted r =>
    let first := !(s.facet p).ct.hadContract
    let s := (s.endSeq p).startContract p r
    if first then s.afterFirstContract p else s
  | .prs .snkWait => ((s.roleSource p).setSeq p (.prs .snkClosing)).autoClose p
  | .prs .srcPsRdy =>
    let k := (s.facet p).swapKind
    ((s.modCt p fun c => { c with frsActive := false }).endSeq p).postSwap p k true
  | .vcs .waitPsRdy => ((s.setVconnSrc p false).endSeq p).postSwap p 3 true
  | .frs .waitPsRdy =>
    ((((s.roleSource p).requestGrant p).setSeq p (.frs .psRdySent)).send p (mkCtl .sop 0x06)).postSwap p 2 true
  | _ => s.protocolError p

/-! ### Soft Reset and swaps -/

/-- Soft_Reset received (R220): what is on the line is completed, what waited on the type has gone under R206. As source the facet
sends Source_Capabilities within 2 ms of the Accept. -/
def State.onSoftReset (s : State) (p : Port) (sp : Sop) : State :=
  let s := (s.orReg (fx p 0x082) (flag 9 true)).abandonOn p sp
  let s := s.modPd p fun d =>
    { (d.resetIdsOf sp) with srCable := if d.srCable = some sp then none else d.srCable }
  let s := s.send p (mkCtl sp 0x03)
  if sp = .sop ∧ (s.facet p).ct.prole = true then s.sendCaps p false else s

/-- R250: a swap may run: explicit contract, no transition, no other sequence. -/
def Facet.swapFree (f : Facet) : Bool := f.ct.contract && f.noSeq

/-- R250 for PR_Swap in both directions. -/
def State.prsAllowed (s : State) (p : Port) : Bool :=
  let f := s.facet p
  let b := s.busOf p
  f.swapFree && decide (f.cfg.role = 2)
    && (f.ct.prole || (s.otherFeed b (portNo p + 1) && inSafe5V (s.nbus b)))

/-- R250 for DR_Swap. -/
def Facet.drsAllowed (f : Facet) : Bool := f.swapFree && !f.ct.linkOn

/-- R250 for VCONN_Swap; `ra` says that the probe of R253 found Ra. -/
def State.vcsAllowed (s : State) (p : Port) (ra : Bool) : Bool :=
  let f := s.facet p
  f.swapFree && (f.ct.vconnSrc || (s.bit (fx p 0x040) 2 && !f.cc.vconnOc && ra))

/-- PR_Swap received (R250, R252). -/
def State.onPrSwap (s : State) (p : Port) : State :=
  if s.bit (fx p 0x100) 2 && s.prsAllowed p then (s.setSeq p (.prs .accepting)).send p (mkCtl .sop 0x03)
  else (s.send p (mkCtl .sop 0x04)).postSwap p 0 false

/-- DR_Swap received (R250, R251). -/
def State.onDrSwap (s : State) (p : Port) : State :=
  if (s.facet p).ct.linkOn then s.orderHardReset p 6
  else if s.bit (fx p 0x100) 3 && (s.facet p).drsAllowed then (s.setSeq p (.drs false)).send p (mkCtl .sop 0x03)
  else (s.send p (mkCtl .sop 0x04)).postSwap p 1 false

/-- R253: Ra was found, by a probe where Rd is presented, which leaves the pin Hi-Z. -/
def State.probePin (s : State) (p : Port) (ra : Bool) : State :=
  s.modCc p fun c => { c with ra := ra, probed := decide (c.term = .rd) }

/-- VCONN_Swap received (R250, R253). -/
def State.onVconnSwap (s : State) (p : Port) : State :=
  let ra := s.raFound p
  if s.bit (fx p 0x100) 4 && s.vcsAllowed p ra then
    let s := if (s.facet p).ct.vconnSrc then s else s.probePin p ra
    (s.setSeq p (.vcs .accepting)).send p (mkCtl .sop 0x03)
  else (s.send p (mkCtl .sop 0x04)).postSwap p 3 false

/-- The HUB section enables the converter in standby, and it can take the bus over (R22, R254). -/
def State.frsConv (s : State) (c : Conv) : Bool :=
  decide (s.rf (convBase c) 16 2 = 1) && !(s.cv c).clampOff
    && (decide ((s.cv c).st = .standby) || ((s.cv c).charge && decide ((s.cv c).st = .regulating)))

/-- R254, with the conditions of R250: armed for FR_Swap as the new source. -/
def State.frsArmed (s : State) (p : Port) : Bool :=
  let f := s.facet p
  f.sinking && s.bit (fx p 0x100) 5 && f.swapFree && !f.ct.now.pps && decide (f.ct.now.mv = 5000)
    && decide (fld (f.snkTable.getD 0 0) 23 2 ≠ 0) && s.batOk
    && (match s.busConv (s.busOf p) with | some c => s.frsConv c | none => false)

/-- The converter starts to regulate a bus from the battery at full loop speed (R255, R316); a charge it carries is suspended (R308). -/
def State.takeBus (s : State) (b : Bus) : State :=
  match s.busConv b with
  | none => s
  | some c =>
    if (s.cv c).charge then
      let go := fun (v : Cv) => v.regulate s.cycles
      let s := s.modCv c go
      let s := if s.hub.parallel then s.modCv .cv2 go else s
      (s.modBat fun x => { x with phase := .suspended, inLim := false }).postH 0x53 5
    else s.makeFeed b 6

/-- The FR_Swap signal recognised (R255): the converter takes the bus over at 5.00 V from the battery. -/
def State.onFrSignal (s : State) (p : Port) : State :=
  if s.frsArmed p then
    let s := s.modCt p fun c => { c with frsActive := true }
    let s := s.setSeq p (.frs .recognised)
    let s := s.hubVset (s.busOf p) 5000
    s.takeBus (s.busOf p)
  else s

/-- FR_Swap received (R255). -/
def State.onFrSwap (s : State) (p : Port) : State :=
  match (s.facet p).pd.seq with
  | .frs .recognised => ((s.setSeq p (.frs .accepting)).send p (mkCtl .sop 0x03)).requestGrant p
  | _ => (s.send p (mkCtl .sop 0x04)).postSwap p 2 false

/-- A facet's bus has no supplying feed left and none to come (R302). -/
def State.busEmpty (s : State) (b : Bus) : Bool := (s.supplyingNow b).isEmpty && !(s.feed b).gap

/-- R257: a source facet on pass-through signals FR_Swap, within the conditions of R250. `caps` is the partner's first sink object, which declares the
Fast Role Swap current in bits 24:23. -/
def State.frsSends (s : State) (p : Port) : Bool :=
  let f := s.facet p
  f.cc.attached && f.ct.prole && s.bit (fx p 0x100) 6 && f.swapFree && !f.ct.now.pps && decide (f.ct.now.mv = 5000)
    && decide (fld (f.ct.snkCaps.getD 0 0) 23 2 ≠ 0) && decide (f.fstate = .live)

/-- The FR_Swap signal and message of R257. -/
def State.frsSignal (s : State) (p : Port) : State :=
  let s := s.modCt p fun c => { c with frsActive := true }
  (s.setSeq p (.frs .txSignalled)).send p (mkCtl .sop 0x13)

/-- Every source facet that R257 names signals, where its bus has lost every feed. -/
def State.frsSignalAll (s : State) (b : Bus) : State :=
  if !s.busEmpty b then s
  else allPorts.foldl (fun s p => if s.busOf p = b ∧ s.frsSends p = true then s.frsSignal p else s) s

/-! ### Capabilities, EPR and status -/

/-- The objects of a table that a partner at the revision in use may be told (R202). -/
def Facet.told (f : Facet) (ws : List Word) : List Word :=
  (if f.rev2 then ws.filter fun w => decide (pdoKind w ≠ .pps) && decide (pdoKind w ≠ .avs) else ws).take 7

/-- Get_Source_Cap received: Source_Capabilities of a source, the table of a DRP sink, else Not_Supported. -/
def State.onGetSourceCap (s : State) (p : Port) : State :=
  let f := s.facet p
  if f.srcTable = [] then s.notSupported p .sop
  else if f.ct.prole then
    let code := s.offerCodeNow p
    if code = 3 ∨ code = 4 then s.send p (mkCtl .sop 0x0C)
    else
      let offer := s.offerNow p
      let s := s.modCt p fun c => { c with offer := offer, offerCode := BitVec.ofNat 3 code }
      (if f.pd.seq = .none then s.setSeq p .srcOffer else s).send p (mkData .sop 0x01 offer)
  else if f.cfg.role = 2 then s.send p (mkData .sop 0x01 (f.told f.srcTable))
  else s.notSupported p .sop

/-- Get_Sink_Cap received. -/
def State.onGetSinkCap (s : State) (p : Port) : State :=
  let f := s.facet p
  if f.cfg.role = 1 then s.notSupported p .sop else s.send p (mkData .sop 0x04 (f.told f.snkTable))

/-- Sink_Capabilities received: expected only as the answer to Get_Sink_Cap (R215). -/
def State.onSinkCaps (s : State) (p : Port) (ws : List Word) : State :=
  if (s.facet p).pd.seq = .getSinkCap then (s.modCt p fun c => { c with snkCaps := ws }).endSeq p else s.protocolError p

/-- R247: the cause that Enter Failed carries (USB PD 3.1), `none` where EPR mode may be entered. -/
def State.eprCause (s : State) (p : Port) : Option Nat :=
  let f := s.facet p
  let b := s.busOf p
  let passEpr := (s.supplyingNow b).any fun c =>
    decide (1 ≤ c.toNat ∧ c.toNat ≤ 4) && (s.facet (portOf (c.toNat - 1))).ct.epr
  if f.eprTable = [] then some 5
  else if !(s.bit (fx p 0x106) 4) || decide (s.rf (fx p 0x106) 2 2 ≠ 3) || decide (s.rf (fx p 0x106) 0 2 ≠ 2) then some 1
  else if !(s.owner p || passEpr) || !f.ct.contract || f.ct.epr then some 4
  else none

/-- EPR_Mode received (R247, R249). -/
def State.onEprMode (s : State) (p : Port) (o : Word) : State :=
  let f := s.facet p
  match fld o 24 8 with
  | 1 =>
    if !f.ct.prole then s.protocolError p
    else if f.rev2 then s.notSupported p .sop
    else match s.eprCause p with
      | none => (s.setSeq p (.epr .srcEntering)).sendEprMode p 2 0
      | some c => s.sendEprMode p 4 c
  | 2 => s
  | 3 => if f.pd.seq = .epr .snkEntering then (s.modCt p fun c => { c with epr := true }).endSeq p else s.protocolError p
  | 4 => if f.pd.seq = .epr .snkEntering then s.endSeq p else s.protocolError p
  | 5 =>
    if f.ct.epr then s.eprLeave p else s.protocolError p
  | _ => s.notSupported p .sop

/-- Extended_Control received: EPR_KeepAlive and the EPR capability requests (R214, R248). -/
def State.onExtControl (s : State) (p : Port) (o : Word) : State :=
  let f := s.facet p
  match fld o 0 8 with
  | 1 => if f.ct.prole && f.ct.epr then s.send p (mkExt .sop 0x11 (4 * (s.eprOfferNow p).length) (s.eprOfferNow p))
         else s.notSupported p .sop
  | 2 => if f.cfg.role = 1 then s.notSupported p .sop else s.send p (mkExt .sop 0x12 (4 * f.snkTable.length) f.snkTable)
  | 3 => if f.ct.prole && f.ct.epr then s.send p (mkExt .sop 0x10 2 [4]) else s.notSupported p .sop
  | 4 => s
  | _ => s.notSupported p .sop

/-- Get_PPS_Status received (R240): PPS_Status from the facet's own measurements under a PPS contract. -/
def State.onGetPps (s : State) (p : Port) : State :=
  let f := s.facet p
  if f.ct.prole && f.ct.contract && f.ct.now.pps then
    let v := min 65534 (s.sense.vbus.get p / 20)
    let i := min 254 (Int.toNat (s.sense.iport.get p) / 5)
    let cl := match s.busConv (s.busOf p) with | some c => (s.cv c).cc | none => false
    s.send p (mkExt .sop 0x0C 4 [fw 0 v ||| fw 16 i ||| flag 27 cl])
  else s.notSupported p .sop

/-- Get_Source_Info received (R236): Port Type managed, maximum PDP of the table, present PDP of the grant, in W. -/
def State.onGetSourceInfo (s : State) (p : Port) : State :=
  let f := s.facet p
  if f.srcTable = [] then s.notSupported p .sop
  else
    let top := (f.srcTable ++ f.eprTable).foldl (fun a w => max a (pdoMw w)) 0
    let g := f.ct.grant / 2
    s.send p (mkData .sop 0x0B [fw 16 (min 255 (top / 1000)) ||| fw 8 (min 255 g) ||| fw 0 (min 255 g)])

/-! ### VDMs -/

/-- A VDM response of the same header fields. -/
def vdmReply (w : Word) (ack : Bool) : Word :=
  vdmHeader (vdmSvid w) (vdmAnswerVersion w) (vdmPos w) (if ack then 1 else 2) (vdmCmd w)

/-- SVIDs two a word, closed by 0 (Discover SVIDs). -/
def svidWords : List Svid → List Word
  | [] => [0]
  | [a] => [fw 16 a.svid.toNat]
  | a :: b :: l => (fw 16 a.svid.toNat ||| fw 0 b.svid.toNat) :: svidWords l

def findSvid (x : Half) : List Svid → Option Svid
  | [] => none
  | v :: vs => if v.svid = x then some v else findSvid x vs

/-- A structured VDM of version 2.0 or 2.1 (R260). -/
def vdmKnown (w : Word) : Bool := decide (vdmVersion w = 4) || decide (vdmVersion w = 5)

/-- Discover Identity, SVIDs, Modes and Attention received (R260); a request of another version is answered NAK (log entry 77). -/
def State.onVdm (s : State) (p : Port) (w : Word) : State :=
  if vdmCmd w = 6 then s
  else
    let nak := s.send p (mkData .sop 0x0F [vdmReply w false])
    match (s.facet p).vdm with
    | none => nak
    | some t =>
      if !vdmKnown w then nak
      else match vdmCmd w with
      | 1 => if vdmSvid w = pdSid then s.send p (mkData .sop 0x0F (vdmReply w true :: t.ids)) else nak
      | 2 => if vdmSvid w = pdSid then s.send p (mkData .sop 0x0F (vdmReply w true :: (svidWords t.svids).take 6)) else nak
      | 3 =>
        match findSvid (vdmSvid w) t.svids with
        | some v => s.send p (mkData .sop 0x0F (vdmReply w true :: v.modes))
        | none => nak
      | _ => nak

/-- Enter Mode received (R262): ACK by a UFP whose table lists the chain link, with no mode entered. -/
def State.onEnterMode (s : State) (p : Port) (w : Word) : State :=
  let f := s.facet p
  if vdmKnown w && decide (vdmSvid w = linkSvid) && decide (vdmPos w = 1) && !f.ct.drole && !f.ct.linkOn && f.listsLink then
    (s.setSeq p (.vdm .ackEnter)).send p (mkData .sop 0x0F [vdmReply w true])
  else s.send p (mkData .sop 0x0F [vdmReply w false])

/-- Exit Mode received (R263): the transceiver disconnects before the ACK. -/
def State.onExitMode (s : State) (p : Port) (w : Word) : State :=
  if vdmKnown w = true ∧ vdmSvid w = linkSvid ∧ (s.facet p).ct.linkOn = true then
    ((s.linkOff p).setSeq p (.vdm .ackExit)).send p (mkData .sop 0x0F [vdmReply w true])
  else s.send p (mkData .sop 0x0F [vdmReply w false])

/-- The cable's identity is not awaited any more. -/
def State.cableDone (s : State) (p : Port) : State := s.modPd p fun d => { d with cable := none, cableDue := none }

/-- The cable's identity (R259): current in bits 6:5, voltage in 10:9 and EPR in 17 of the cable VDO. -/
def State.cableFrom (s : State) (p : Port) (m : PdMsg) : State :=
  let c := m.obj 4
  let active := fld (m.obj 1) 27 3 = 4
  let ct := fx p 0x106
  let s := s.setFld ct 0 2 (fld c 5 2)
  let s := s.setFld ct 2 2 (fld c 9 2)
  let s := s.setFld ct 4 1 (fld c 17 1)
  let s := s.setFld ct 5 1 (if active then 1 else 0)
  if active then s.cableAsk p .sopPP else s.cableDone p

/-- Store the partner's identity VDOs, from word `o` of the next `n` (`Fx_CT_PID0` to `5`). -/
def State.storePid (s : State) (p : Port) (m : PdMsg) : Nat → State
  | 0 => s
  | n + 1 => (s.storePid p m n).setReg (fx p (0x108 + n)) (m.obj (n + 1))

/-- Discovery ends; with `LINK_AUTO` a DFP that found the chain link, and whose own table lists it (R96), enters it (R262). -/
def State.discovered (s : State) (p : Port) : State :=
  let f := s.facet p
  let s := s.endSeq p
  if s.bit (fx p 0x100) 7 && f.ct.drole && f.ct.partnerLink && !f.ct.linkOn && f.ct.hadContract && f.listsLink then
    s.vdmBegin p .enterMode
  else s

/-- A list of SVIDs, two a word, holds the chain link's. -/
def hasLinkSvid (ws : List Word) : Bool :=
  ws.any fun w => decide (fld w 16 16 = 0x2F7A) || decide (fld w 0 16 = 0x2F7A)

/-- Modes answered: the chain-link mode of version 0x01 stands at object position 1 (R261). -/
def linkMode (m : PdMsg) : Bool := decide (fld (m.obj 1) 0 8 = 1) && decide (2 ≤ m.objs.length)

/-- The cable answers Discover Identity (R258, R259): an ACK is taken, BUSY counted, and any other answer ends the attempts. -/
def State.onCableVdm (s : State) (p : Port) (m : PdMsg) : State :=
  let ack := vdmCmdType (m.obj 0) = 1 ∧ vdmKnown (m.obj 0) = true
  let busy := vdmCmdType (m.obj 0) = 3
  if (s.facet p).pd.cable ≠ some m.sop then s
  else if m.sop = .sopP then
    if ack then s.cableFrom p m
    else (s.modPd p fun d => { d with busyCount := if busy then satInc 5 d.busyCount else 5 }).cableDone p
  else (if ack then s.setFld (fx p 0x106) 6 1 1 else s).cableDone p

/-- BUSY (R230): the facet asks again after tVDMBusy, nBusyCount times at most. -/
def State.vdmBusyNow (s : State) (p : Port) (st : VdmStep) : State :=
  let now := s.cycles
  if 5 ≤ (s.facet p).pd.vdmTries + 1 then s.endSeq p
  else (s.setSeq p (.vdmBusy st)).modPd p fun d => { d with vdmTries := d.vdmTries + 1, seqDue := some (now + 5280000) }

/-- A VDM response on SOP (R260 to R263); one of a version the facet does not accept counts as NAK. -/
def State.onSopVdm (s : State) (p : Port) (m : PdMsg) : State :=
  let ack := decide (vdmCmdType (m.obj 0) = 1) && vdmKnown (m.obj 0)
  let busy := vdmCmdType (m.obj 0) = 3
  match (s.facet p).pd.seq with
  | .vdm st =>
    if busy then s.vdmBusyNow p st
    else match st with
      | .identity => if ack then (s.storePid p m 6).vdmBegin p .svids else s.endSeq p
      | .svids => if ack && hasLinkSvid (m.objs.drop 1) then s.vdmBegin p .modes else s.endSeq p
      | .modes => (s.modCt p fun c => { c with partnerLink := ack && linkMode m }).discovered p
      | .enterMode => if ack then (s.endSeq p).linkEnter p else s.endSeq p
      | .exitMode => s.endSeq p
      | _ => s.protocolError p
  | _ => s.protocolError p

/-- A VDM response (R258 to R263). -/
def State.onVdmResponse (s : State) (p : Port) (m : PdMsg) : State :=
  if m.sop = .sop then s.onSopVdm p m else s.onCableVdm p m

/-! ### Engine messages -/

/-- BIST received (R213): Carrier Mode (5) and Test Data (8), at vSafe5V only. -/
def State.onBist (s : State) (p : Port) (o : Word) : State :=
  if !inSafe5V (s.sense.vbus.get p) then s
  else match fld o 28 4 with
    | 5 => (s.modPd p fun d => { d with bistCarrier := true }).orReg (fx p 0x082) (flag 12 true)
    | 8 => (s.modPd p fun d => { d with bistData := true }).orReg (fx p 0x082) (flag 12 true)
    | _ => s

/-- Get_Revision received: Revision with PD revision 3.1 (version 1.0, log entry 12). -/
def State.onGetRevision (s : State) (p : Port) : State := s.send p (mkData .sop 0x0C [fw 16 0x3110])

/-- Security_Request answered by Onyx; Security_Response feeds the exchange that Onyx runs (R264, R455). -/
def State.onSecurity (s : State) (p : Port) (m : PdMsg) : State :=
  if m.typ = 0x08 then
    let (bs, s) := s.authAnswer ((wordBytes m.objs).take m.size)
    s.send p (extOf .sop 0x09 bs)
  else if (s.facet p).ct.authRun && decide ((s.facet p).ct.authX.result = none) then
    s.authAnswered p ((wordBytes m.objs).take m.size)
  else s.protocolError p

/-! ### Firmware messages and chunks -/

/-- Copy a message into the receive buffer: headers in word 0, data from word 1 (R217). -/
def State.fillRx (s : State) (p : Port) (m : PdMsg) : Nat → State
  | 0 => s.setReg (fx p 0x090) (fw 0 m.hdr.toNat ||| (if m.extended then fw 16 m.ext.toNat else 0))
  | n + 1 => (s.fillRx p m n).setReg (fx p (0x091 + n)) (m.obj n)

/-- A firmware-routed message (R211, R217, R218). -/
def State.onFirmware (s : State) (p : Port) (m : PdMsg) : State :=
  if s.bit (fx p 0x080) 3 then
    let s := if (s.facet p).pd.rxFull then s.orReg (fx p 0x082) (flag 1 true) else s
    let s := s.fillRx p m 7
    let s := s.orReg (fx p 0x082) (flag 0 true)
    let s := s.modPd p fun d => { d with rxFull := true, rxSop := m.sop, fwAwait := fwResponse m }
    s.postF p 0x20 (pdArg m.typ m.cls m.sop)
  else if fwResponse m then s.notSupported p m.sop
  else s

/-- A message comes while the firmware's last one may be answered (R212). -/
def State.answersFw (s : State) (p : Port) : Bool :=
  match (s.facet p).pd.fwDue with
  | some t => decide (s.cycles ≤ t)
  | none => false

/-- Not_Supported received (R212): it answers the firmware's message, or refuses the facet's own. -/
def State.onNotSupported (s : State) (p : Port) (m : PdMsg) : State :=
  if s.answersFw p then s.onFirmware p m
  else if m.sop ≠ .sop then
    if (s.facet p).pd.cable = some m.sop then (s.modPd p fun d => { d with busyCount := 5 }).cableDone p else s
  else match (s.facet p).pd.seq with
    | .snkRequested _ => (s.endSeq p).orReg (fx p 0x107) (flag 1 true)
    | _ => s.swapRefused p

/-- A whole message goes to its handler (all but the chunks of a longer one). -/
def State.handleWhole (s : State) (p : Port) (m : PdMsg) (k : RxKind) : State :=
  match k with
  | .sourceCaps => s.onSourceCaps p m.objs
  | .request => s.onRequest p (m.obj 0) false
  | .eprRequest => s.onRequest p (m.obj 0) true
  | .accept => s.onAccept p m.sop
  | .reject => s.onReject p
  | .wait => s.onWait p
  | .psRdy => s.onPsRdy p
  | .softReset => s.onSoftReset p m.sop
  | .prSwap => s.onPrSwap p
  | .drSwap => s.onDrSwap p
  | .vconnSwap => s.onVconnSwap p
  | .frSwap => s.onFrSwap p
  | .getSourceCap => s.onGetSourceCap p
  | .getSinkCap => s.onGetSinkCap p
  | .eprMode => s.onEprMode p (m.obj 0)
  | .extControl => s.onExtControl p (m.obj 0)
  | .getPpsStatus => s.onGetPps p
  | .vdmRequest => s.onVdm p (m.obj 0)
  | .vdmResponse => s.onVdmResponse p m
  | .enterMode => s.onEnterMode p (m.obj 0)
  | .exitMode => s.onExitMode p (m.obj 0)
  | .bist => s.onBist p (m.obj 0)
  | .getRevision => s.onGetRevision p
  | .getSourceInfo => s.onGetSourceInfo p
  | .security => s.onSecurity p m
  | .firmware => s.onFirmware p m
  | .sinkCaps => s.onSinkCaps p m.objs
  | .notSupported => s.onNotSupported p m
  | .ignored => s
  | .chunk => s
  | .unexpected => s.protocolError p
  | .unchunked => s.notSupported p m.sop
  | .unsupported => s.notSupported p m.sop

/-- A chunk request: an extended header with Request Chunk set (R210). -/
def chunkRequest (sp : Sop) (typ n : Nat) : TxMsg := { mkExt sp typ 0 [] with chunk := n }

/-- Append the 26 bytes of chunk `k` to what is assembled. -/
def chunkJoin (got : List Word) (k : Nat) (objs : List Word) (size : Nat) : List Word :=
  let bs := ((wordBytes got).take (26 * k) ++ (wordBytes objs).take 26).take size
  byteWords ((bs.length + 3) / 4) bs

/-- A chunk, or a request for one (R210, R211). -/
def State.onChunk (s : State) (p : Port) (m : PdMsg) : State :=
  let d := (s.facet p).pd
  if m.reqChunk then
    match d.chunkTx with
    | some t =>
      if t.chunk = m.chunkNo ∧ t.typ.toNat = m.typ then
        (s.modPd p fun d => { d with chunkTx := none }).send p { t with init := false }
      else s.protocolError p
    | none => s.protocolError p
  else if extKind m.typ = .firmware ∧ 26 < m.size then
    (s.orReg (fx p 0x082) (flag 11 true)).notSupported p m.sop
  else if extKind m.typ = .unsupported then s.notSupported p m.sop
  else if m.chunkNo = 0 then
    let got := chunkJoin [] 0 m.objs m.size
    (s.modPd p fun d => { d with chunkRx := some ⟨BitVec.ofNat 5 m.typ, m.size, 1, got⟩ }).send p (chunkRequest m.sop m.typ 1)
  else match d.chunkRx with
    | none => s.protocolError p
    | some c =>
      if c.typ.toNat = m.typ ∧ c.next = m.chunkNo then
        let got := chunkJoin c.got c.next m.objs c.size
        if c.size ≤ 26 * (c.next + 1) then
          (s.modPd p fun d => { d with chunkRx := none }).handleWhole p
            { m with objs := got, ext := BitVec.ofNat 16 (32768 + c.size) } (extKind m.typ)
        else
          (s.modPd p fun d => { d with chunkRx := some { c with next := c.next + 1, got := got } }).send p
            (chunkRequest m.sop m.typ (c.next + 1))
      else s.protocolError p

/-- Handle one valid message. -/
def State.handleMsg (s : State) (p : Port) (m : PdMsg) : State :=
  match rxKind m with
  | .chunk => s.onChunk p m
  | k => s.handleWhole p m k

/-! ### Reception -/

/-- R127: the keeper's action on a message during a hold. -/
def State.keeper (s : State) (p : Port) (m : PdMsg) : State :=
  if m.sop ≠ .sop then s
  else match rxKind m with
    | .request => (if (s.facet p).pd.seq = .srcOffer then s.endSeq p else s).send p (mkCtl .sop 0x0C)
    | .softReset => s.modRc p fun r => { r with deferred := some m }
    | _ =>
      if needsAnswer m then
        s.modRc p fun r =>
          { r with deferred := match r.deferred with
              | some x => if rxKind x = .softReset then some x else some m
              | none => some m }
      else s

/-- The BMC transceiver is isolated by an over-voltage on the terminated pin (R190). -/
def Facet.isolated (f : Facet) : Bool := if f.cc.orient then f.cc.ov2 else f.cc.ov1

/-- The facet receives messages of an ordered set (R190, R200, R227). -/
def State.receives (s : State) (p : Port) (sp : Sop) : Bool :=
  let f := s.facet p
  f.cc.attached && f.pd.pdEn && !f.pd.mute && !f.pd.hrSending && !f.isolated
    && (decide (sp = .sop) || (f.ct.vconnSrc && s.bit (fx p 0x080) 1))

/-- A message of the facet's own that is discarded unsent ends what it belonged to: the firmware's ends FAILED, a sequence on SOP is
lost and an offer owed again, and the cable is not asked any more (log entry 87). -/
def State.dropTx (s : State) (p : Port) (m : TxMsg) : State :=
  let f := s.facet p
  if m.fw then s.fwFailed p m
  else if m.sop ≠ .sop then (s.cableDone p).modPd p fun d => { d with srCable := none }
  else if !f.owns m then s
  else
    let s := ((s.swapLost p).endSeq p).modCt p fun c => { c with trans := false, frsActive := false }
    if f.pd.seq = .srcOffer then s.modCt p fun c => { c with offerOwed := f.ct.contract } else s

/-- R206: a queued message not yet started is discarded on the ordered set of a received one. -/
def State.discardQueued (s : State) (p : Port) (sp : Sop) : State :=
  let q := (s.facet p).pd.queue
  if q.any fun m => decide (m.sop = sp) then
    let s := (q.filter fun m => decide (m.sop = sp)).foldl (fun s m => s.dropTx p m) s
    (s.modPd p fun d => { d with queue := d.queue.filter fun m => decide (m.sop ≠ sp) }).orReg (fx p 0x082) (flag 4 true)
  else s

/-- A valid message from the partner: the revision in use (R202), `PD_PARTNER`, `HR_COUNT` (R227). `PD_PARTNER` is the port partner's:
a cable's message on SOP′ or SOP″ does not set it (the model's reading of R231, log entry 78). -/
def State.noteMsg (s : State) (p : Port) (m : PdMsg) : State :=
  s.modPd p fun d =>
    { d with goodCrc := some (m.sop, m.id), hrCount := 0, noResp := none
             partner := d.partner || decide (m.sop = .sop)
             rev := if m.sop ≠ .sop then d.rev else if m.rev = 1 ∨ d.rev = 1 then 1 else 2 }

/-- The CC comparators are ignored for 10 µs after a packet (R176). -/
def State.hush (s : State) (p : Port) : State :=
  let t := s.cycles + 960
  s.modCc p fun c => { c with quiet := t }

/-- A received message: GoodCRC, revision, duplicates, then the keeper or the handler `h` (R202 to R206, R127). -/
def State.rxWith (s : State) (p : Port) (m : PdMsg) (h : State → State) : State :=
  if !s.receives p m.sop then s
  else
    let s := s.hush p
    if m.rev = 0 then s.modPd p fun d => { d with goodCrc := some (m.sop, m.id) }
    else
      let s := s.noteMsg p m
      let s := s.discardQueued p m.sop
      if (s.facet p).pd.repeats m.sop m.id && decide (rxKind m ≠ .softReset) then s
      else if (s.facet p).pd.bistData && decide (m.sop = .sop) then s
      else
        let s := s.modPd p fun d => { d with rxId := d.rxId.set m.sop m.id, rxSeen := d.rxSeen.set m.sop true }
        let s := if (s.facet p).fstate = .held then s.keeper p m else h s
        (s.modPd p fun d => { d with fwDue := none, fwAsk := false }).idleTx p

/-- Receive a message and handle it by its kind. -/
def State.rx (s : State) (p : Port) (m : PdMsg) : State := s.rxWith p m fun s => s.handleMsg p m

/-! ### Waits that end without an answer -/

/-- The partner has not answered the sequence in progress in time (R230): what follows is USB PD's (PRESUMED, log entry 59). -/
def State.unanswered (s : State) (p : Port) : State :=
  match (s.facet p).pd.seq with
  | .srcOffer => (s.endSeq p).orderHardReset p 6
  | .snkRequested _ => (s.endSeq p).orderHardReset p 6
  | .epr _ => s.sendSoftReset p .sop
  | .frs .txSignalled => ((s.swapLost p).endSeq p).errorRecovery p
  | .auth => s.authEnd p .unsupported
  | .vdmBusy st => s.vdmStep p st
  | .vdm .modes => s.discovered p
  | .vcs .requested => ((s.modCc p fun c => { c with probed := false }).swapLost p).endSeq p
  | _ => (s.swapLost p).endSeq p

/-- A cycle in which a wait ends has come. -/
def State.isDue (s : State) (t : Option Nat) : Bool :=
  match t with
  | some t => decide (t ≤ s.cycles)
  | none => false

/-- A wait of a facet's protocol engine has ended; in a hold it ends at release (R125). -/
def State.pdIsDue (s : State) (p : Port) : Bool :=
  let f := s.facet p
  decide (f.fstate ≠ .held)
    && (s.isDue f.pd.seqDue || s.isDue f.pd.cableDue || s.isDue f.pd.fwDue || s.isDue f.pd.noResp)

/-- The waits that have ended, one after another (R230). -/
def State.pdDue (s : State) (p : Port) : State :=
  if !s.pdIsDue p then s
  else
    let s := if s.isDue (s.facet p).pd.seqDue then (s.modPd p fun d => { d with seqDue := none }).unanswered p else s
    let s := if s.isDue (s.facet p).pd.cableDue then s.cableDone p else s
    let s := if s.isDue (s.facet p).pd.fwDue then s.modPd p fun d => { d with fwDue := none, fwAsk := false } else s
    let s := if s.isDue (s.facet p).pd.noResp then
        (s.modPd p fun d => { d with noResp := none }).orderHardReset p 6
      else s
    s.idleTx p

end Sys2Proof.Machine
end

