-- ==== Sys2Proof/Machine/Attach.lean ====
section
/-! DEFINITION. The attach state machine (R178 to R184, R188 to R191): CC levels, debounces, Try states, DRP toggling,
and what waits for the release of a hold (R125). -/
namespace Sys2Proof.Machine

/-- The levels the two pins are classified to; an over-voltage, or VCONN on a pin, classifies nothing (R190, R566). -/
def Facet.lvls (f : Facet) : Nat × Nat := (f.pinLvl false, f.pinLvl true)

/-- Rp at some strength (R195). -/
def rpLvl (n : Nat) : Bool := decide (3 ≤ n ∧ n ≤ 5)

/-- Rp on one pin, the other with no Rp (R178). -/
def Facet.rpOne (f : Facet) : Bool :=
  let l := f.lvls
  (rpLvl l.1 && decide (l.2 = 0)) || (rpLvl l.2 && decide (l.1 = 0))

/-- Rp on both pins (R188). -/
def Facet.rpBoth (f : Facet) : Bool := rpLvl f.lvls.1 && rpLvl f.lvls.2

/-- No Rp on either pin. -/
def Facet.rpNone (f : Facet) : Bool := decide (f.lvls.1 = 0) && decide (f.lvls.2 = 0)

/-- Rd on one pin, the other open or Ra (R178). -/
def Facet.rdOne (f : Facet) : Bool :=
  let l := f.lvls
  (decide (l.1 = 2) && decide (l.2 ≤ 1)) || (decide (l.2 = 2) && decide (l.1 ≤ 1))

/-- Rd on neither pin. -/
def Facet.rdNone (f : Facet) : Bool := decide (f.lvls.1 ≠ 2) && decide (f.lvls.2 ≠ 2)

/-- The unsupported termination seen, as `ACC` (R188); 0 for none. -/
def Facet.accSeen (f : Facet) : Nat :=
  let l := f.lvls
  match f.cc.tc with
  | .unattachedSrc => if l = (1, 1) then 1 else if l = (2, 2) then 2 else 0
  | .unattachedSnk => if f.rpBoth then 3 else 0
  | _ => 0

/-- The level of the terminated pin of an attached facet. -/
def Facet.termLvl (f : Facet) : Nat := if f.cc.orient then f.lvls.2 else f.lvls.1

/-- The section's `ROLE` is DRP; the boot port of a dead-battery BOOT is a sink until its first detach (R191). -/
def Facet.drp (f : Facet) : Bool := decide (f.cfg.role = 2) && !f.cc.asSink

/-- Take the DRP timing in force for the toggle cycle that starts (R183). -/
def State.latchDrp (s : State) (p : Port) : State :=
  let per := s.rf (fx p 0x040) 8 7
  s.modCc p fun c => { c with drpPeriod := per, drpRpMs := per * s.rf (fx p 0x040) 16 7 / 100 }

/-- `ACC` follows the condition (R188): it clears when the condition ends, and its debounce runs while it is new. -/
def State.accEval (s : State) (p : Port) : State :=
  let a := (s.facet p).accSeen
  s.modCc p fun c =>
    { c with acc := if c.acc.toNat = a then c.acc else 0, ccDeb := decide (a ≠ 0) && decide (c.acc.toNat ≠ a) }

/-- `PARTNER_RP` as sink, 0 without Rp, with tRpValueChange started by a change (R175, R182); a sequence that waited for it
goes on (R208). -/
def State.partnerRpEval (s : State) (p : Port) : State :=
  let l := (s.facet p).termLvl
  let r := BitVec.ofNat 2 (if rpLvl l then l - 2 else 0)
  if (s.facet p).cc.partnerRp = r then s
  else (s.modCc p fun c => { c with partnerRp := r, rpDeb := true }).pump p

/-- `RA` of an attached source: the non-terminated pin's class, kept while VCONN is on it (R185, R566). -/
def State.raEval (s : State) (p : Port) : State :=
  let f := s.facet p
  let other := if f.cc.orient then f.lvls.1 else f.lvls.2
  if f.cc.vconnOn then s else (s.modCc p fun c => { c with ra := decide (other = 1) }).refreshVconn p

/-- The debounces that the levels shown now run in the present Type-C state (R175, R178, R188). -/
def State.ccArm (s : State) (p : Port) : State :=
  let f := s.facet p
  match f.cc.tc with
  | .unattachedSnk => s.accEval p
  | .unattachedSrc => s.accEval p
  | .attachWaitSnk => s.modCc p fun c => { c with ccDeb := f.rpOne, pdDeb := f.rpNone, stable := false, acc := 0 }
  | .attachWaitSrc => s.modCc p fun c => { c with ccDeb := f.rdOne, stable := false, acc := 0 }
  | .attachedSnk => s.partnerRpEval p
  | .attachedSrc => (s.raEval p).modCc p fun c => { c with pdDeb := decide (f.termLvl = 0) }
  | .trySrc => s.modCc p fun c => { c with tryDeb := f.rdOne }
  | .tryWaitSnk => s.modCc p fun c => { c with ccDeb := f.rpOne, pdDeb := f.rpNone, stable := false }
  | .trySnk => s.modCc p fun c => { c with tryDeb := f.rpOne || f.rpNone, stable := false }
  | .tryWaitSrc => s.modCc p fun c => { c with tryDeb := f.rdOne, stable := false }
  | .errorRecovery => s
  | .disabled => s

/-- Return to an unattached state, where a DRP starts a toggle cycle: in the state that the table of R178 names, with the
phase that it presents (log entry 67 for R183). -/
def State.homeTc (s : State) (p : Port) (t : TcState) : State := (s.setTc p t).latchDrp p

/-- What the levels shown now set going in the present Type-C state (R178): its transition, then the debounces. A HELD facet
makes no transition that changes a termination (R125). -/
def State.ccEval (s : State) (p : Port) : State :=
  let f := s.facet p
  let free := decide (f.fstate ≠ .held)
  let t := match f.cc.tc with
    | .unattachedSnk => if f.rpOne then s.setTc p .attachWaitSnk else s
    | .unattachedSrc => if f.rdOne then s.setTc p .attachWaitSrc else s
    | .attachWaitSrc => if f.rdNone && free then s.homeTc p f.srcHome else s
    | .trySrc => if f.cc.tryDone && !f.rdOne && free then s.setTc p .tryWaitSnk else s
    | .tryWaitSrc => if f.cc.tryDone && !f.rdOne && free then s.homeTc p .unattachedSnk else s
    | _ => s
  t.ccArm p

/-- Enter a Type-C state and act on the levels classified in it; an unattached DRP starts a toggle cycle (R183). -/
def State.enterTc (s : State) (p : Port) (t : TcState) : State :=
  let s := s.setTc p t
  let s := if t = .unattachedSnk ∨ t = .unattachedSrc then s.latchDrp p else s
  s.ccEval p

/-- Which pin is terminated: true for CC2. -/
def Facet.onCc2 (f : Facet) (src : Bool) : Bool := if src then decide (f.lvls.1 ≠ 2) else !rpLvl f.lvls.1

/-- Attach as sink, and the partner's Rp at once (R178, R182). -/
def State.attachSnk (s : State) (p : Port) : State :=
  let cc2 := (s.facet p).onCc2 false
  let s := s.attach p false cc2
  s.modCc p fun c => { c with partnerRp := BitVec.ofNat 2 ((if cc2 then c.lvl2 else c.lvl1).toNat - 2) }

def State.attachSrc (s : State) (p : Port) : State := s.attach p true ((s.facet p).onCc2 true)

/-- AttachWait.SNK is complete: Rp on one pin stable and VBUS valid (R178). -/
def State.sinkReady (s : State) (p : Port) : State :=
  if (s.facet p).cfg.tryRole = 1 ∧ (s.facet p).drp = true then s.enterTc p .trySrc else s.attachSnk p

/-- AttachWait.SRC is complete: Rd on one pin stable and VBUS below vSafe0V (R178). -/
def State.sourceReady (s : State) (p : Port) : State :=
  if (s.facet p).cfg.tryRole = 2 ∧ (s.facet p).drp = true then s.enterTc p .trySnk else s.attachSrc p

/-- The stable condition waits for what else the row needs. -/
def State.markStable (s : State) (p : Port) : State := s.modCc p fun c => { c with stable := true }

/-- tCCDebounce has run out (R178, R188). -/
def State.ccDebounceDone (s : State) (p : Port) : State :=
  let f := s.facet p
  if !f.cc.ccDeb then s
  else
    let s := s.modCc p fun c => { c with ccDeb := false }
    match f.cc.tc with
    | .unattachedSnk =>
      (s.modCc p fun c => { c with acc := BitVec.ofNat 2 f.accSeen }).orReg (fx p 0x042) (flag 2 (decide (f.accSeen ≠ 0)))
    | .unattachedSrc =>
      (s.modCc p fun c => { c with acc := BitVec.ofNat 2 f.accSeen }).orReg (fx p 0x042) (flag 2 (decide (f.accSeen ≠ 0)))
    | .attachWaitSnk => if f.rpOne then (if s.vbusOk.get p then s.sinkReady p else s.markStable p) else s
    | .attachWaitSrc => if f.rdOne then (if f.pp.below then s.sourceReady p else s.markStable p) else s
    | .tryWaitSnk => if f.rpOne then (if s.vbusOk.get p then s.attachSnk p else s.markStable p) else s
    | _ => s

/-- A CC over-voltage has lasted for tPDDebounce while attached (R190). -/
def State.ovLasts (s : State) (p : Port) : State :=
  let f := s.facet p
  if (f.cc.ov1 || f.cc.ov2) && f.cc.attached && !f.cc.pdDeb then s.modCc p fun c => { c with ovLong := true } else s

/-- tPDDebounce has run out (R178, R190). -/
def State.pdDebounceDone (s : State) (p : Port) : State :=
  let f := s.facet p
  let s := s.ovLasts p
  if !f.cc.pdDeb then s
  else
    let s := s.modCc p fun c => { c with pdDeb := false }
    match f.cc.tc with
    | .attachWaitSnk => if f.rpNone then s.enterTc p (if f.drp then .unattachedSrc else .unattachedSnk) else s
    | .tryWaitSnk => if f.rpNone then s.enterTc p .unattachedSnk else s
    | .attachedSrc => (s.detach p f.srcHome).enterTc p f.srcHome
    | _ => s

/-- Try.SNK ends once tDRPTry has expired and its condition is stable (R178). -/
def State.trySnkEnd (s : State) (p : Port) : State :=
  let f := s.facet p
  if f.rpNone then s.enterTc p .tryWaitSrc
  else if f.rpOne && s.vbusOk.get p then s.attachSnk p
  else s.markStable p

/-- tTryCCDebounce has run out (R178). -/
def State.tryCcDebounceDone (s : State) (p : Port) : State :=
  let f := s.facet p
  if !f.cc.tryDeb then s
  else
    let s := s.modCc p fun c => { c with tryDeb := false }
    match f.cc.tc with
    | .trySrc => if f.rdOne then s.attachSrc p else s
    | .trySnk => if f.cc.tryDone then s.trySnkEnd p else s.markStable p
    | .tryWaitSrc => if f.rdOne then (if f.pp.below then s.attachSrc p else s.markStable p) else s
    | _ => s

/-- tDRPTry has run out (R178). -/
def State.drpTryDone (s : State) (p : Port) : State :=
  let f := s.facet p
  let t := s.modCc p fun c => { c with tryDone := true }
  match f.cc.tc with
  | .trySrc => if f.rdOne then t else s.enterTc p .tryWaitSnk
  | .trySnk => if f.cc.stable then t.trySnkEnd p else t
  | .tryWaitSrc => if f.rdOne then t else s.enterTc p .unattachedSnk
  | _ => s

/-- tDRPTryWait has run out (R178). -/
def State.drpTryWaitDone (s : State) (p : Port) : State :=
  if (s.facet p).cc.tc = .tryWaitSnk then s.enterTc p .unattachedSnk else s

/-- A phase of the toggle cycle ends (R178, R183). -/
def State.drpPhaseDone (s : State) (p : Port) : State :=
  let f := s.facet p
  if !f.drp then s
  else match f.cc.tc with
    | .unattachedSnk => s.enterTc p .unattachedSrc
    | .unattachedSrc => (s.setTc p .unattachedSnk).ccEval p
    | _ => s

/-- Where a sink returns at its detach: Unattached.SNK, but the boot port follows its `ROLE` after its first (R178, R191). -/
def Facet.snkHome (f : Facet) : TcState := if f.cc.asSink then f.homeState else .unattachedSnk

/-- A power-role swap under way, from the GoodCRC of Accept on (R252), or a fast one (R255). -/
def Seq.swapsPower : Seq → Bool
  | .prs .requested => false
  | .prs .accepting => false
  | .prs _ => true
  | .frs _ => true
  | _ => false

/-- VBUS loss of an attached sink detaches, but for Hard Reset recovery and role swaps (R178, R226, R252, R255). -/
def State.vbusGone (s : State) (p : Port) : State :=
  let f := s.facet p
  let except := f.pd.hrSink || f.ct.frsActive || f.pd.seq.swapsPower
  if f.cc.tc = .attachedSnk ∧ except = false then (s.detach p f.snkHome).enterTc p f.snkHome else s

/-- A stable condition meets the VBUS level it waited for (R178). -/
def State.supplySeen (s : State) (p : Port) : State :=
  let f := s.facet p
  if !f.cc.stable then s
  else match f.cc.tc with
    | .attachWaitSnk => if s.vbusOk.get p then s.sinkReady p else s
    | .attachWaitSrc => if f.pp.below then s.sourceReady p else s
    | .tryWaitSnk => if s.vbusOk.get p then s.attachSnk p else s
    | .trySnk => if f.cc.tryDone then s.trySnkEnd p else s
    | .tryWaitSrc => if f.pp.below then s.attachSrc p else s
    | _ => s

/-- The meaning of a CC timer in a facet that is not HELD. -/
def State.ccTimerNow (s : State) (p : Port) : CcTimer → State
  | .ccDebounce => s.ccDebounceDone p
  | .pdDebounce => s.pdDebounceDone p
  | .tryCcDebounce => s.tryCcDebounceDone p
  | .drpTry => s.drpTryDone p
  | .drpTryWait => s.drpTryWaitDone p
  | .drpPhase => s.drpPhaseDone p
  | .vbusGone => s.vbusGone p
  | .supply => s.supplySeen p
  | .errorRecovery => if (s.facet p).cc.tc = .errorRecovery then s.enterTc p (s.facet p).homeState else s

/-- A CC timer runs out: at once, or at release when the facet is HELD (R125); DRP toggling stands still in a hold. -/
def State.ccTimer (s : State) (p : Port) (t : CcTimer) : State :=
  if (s.facet p).fstate = .held then
    if t = .drpPhase then s
    else if t = .pdDebounce ∧ (s.facet p).cc.pdDeb = false then s.ovLasts p
    else s.modRc p fun r => { r with late := r.late ++ [t] }
  else s.ccTimerNow p t

/-- ErrorRecovery for a CC over-voltage that lasted and has ended (R190): at release where the facet is HELD (R178). -/
def State.ovEnded (s : State) (p : Port) : State :=
  let f := s.facet p
  if f.cc.ov1 || f.cc.ov2 || decide (f.fstate = .held) then s
  else if f.cc.ovLong && f.cc.attached then (s.modCc p fun c => { c with ovLong := false }).errorRecovery p
  else s.modCc p fun c => { c with ovLong := false }

/-- What ran out during the hold takes effect, then the levels shown now (R125). -/
def State.ccLate (s : State) (p : Port) : State :=
  let l := (s.facet p).rc.late
  let s := s.modRc p fun r => { r with late := [] }
  ((l.foldl (fun s t => s.ccTimerNow p t) s).ovEnded p).ccEval p

/-- R176: the facet ignores its CC comparators while a packet of its own is on the line, while it signals Hard Reset or sends
BIST carrier, and for 10 µs after a packet. -/
def State.ccMuted (s : State) (p : Port) : Bool :=
  let f := s.facet p
  f.pd.inFlight.isSome || f.pd.hrSending || f.pd.bistCarrier || decide (s.cycles < f.cc.quiet)

/-- The level of a pin as its comparators show it; a pin that carries VCONN is not classified (R566). -/
def Facet.heard (f : Facet) (p : Port) (cc2 : Bool) : BitVec 3 :=
  let c := f.cc
  if c.vconnOn && decide (c.orient ≠ cc2) then (if cc2 then c.lvl2 else c.lvl1)
  else ccClass p cc2 c.term c.rpOut (if cc2 then c.pins.cc2 else c.pins.cc1)

/-- Classify both pins anew and act on a change (R174, R175). -/
def State.ccClassify (s : State) (p : Port) : State :=
  let f := s.facet p
  let l1 := f.heard p false
  let l2 := f.heard p true
  let s := s.modCc p fun c => { c with lvl1 := l1, lvl2 := l2, unheard := false }
  if f.cc.lvl1 = l1 ∧ f.cc.lvl2 = l2 then s else s.ccEval p

/-- What the comparators have shown meanwhile is heard once they are no longer ignored (R176). -/
def State.ccHear (s : State) (p : Port) : State :=
  if (s.facet p).cc.unheard && !s.ccMuted p then s.ccClassify p else s

def State.ccHearAll (s : State) : State := (((s.ccHear .a).ccHear .b).ccHear .c).ccHear .d

/-- New voltages on the pins (R174 to R176): classified unless the comparators are ignored; in BOOT nothing is classified before
the handover (R191). -/
def State.ccLevels (s : State) (p : Port) (v : Pins) : State :=
  let s := s.modCc p fun c => { c with pins := v, unheard := true }
  if s.mode = .boot then s else s.ccHear p

/-- The Type-C state a facet goes LIVE into (R39, R178); a floor latch that still stands then trips it (R24, R39). -/
def State.goLive (s : State) (p : Port) : State :=
  let s := s.goLiveNow p
  let s := s.enterTc p (s.facet p).homeState
  if (s.facet p).pp.floorLatch then s.setFState p .tripped else s

/-- CC over-voltage on a pin (R190): the pin is isolated, VCONN on it goes off, the source is raised at the crossing. -/
def State.ccOver (s : State) (p : Port) (pin : CcPin) : State :=
  let two := decide (pin = .cc2)
  let f := s.facet p
  if (if two then f.cc.ov2 else f.cc.ov1) then s
  else
    let s := s.modCc p fun c =>
      { c with ov1 := c.ov1 || !two, ov2 := c.ov2 || two, vconnOn := c.vconnOn && decide (c.orient = two) }
    let s := s.orReg (fx p 0x042) (flag 5 true)
    (s.fault (portNo p) 0x07 (if two then 2 else 1)).ccEval p

/-- The pin has fallen below the threshold (R190): ErrorRecovery when it lasted while attached, else it resumes. -/
def State.ccOverEnd (s : State) (p : Port) (pin : CcPin) : State :=
  let two := decide (pin = .cc2)
  let f := s.facet p
  if !(if two then f.cc.ov2 else f.cc.ov1) then s
  else
    let s := s.modCc p fun c => { c with ov1 := c.ov1 && two, ov2 := c.ov2 && !two }
    ((s.ovEnded p).refreshVconn p).ccEval p

end Sys2Proof.Machine
end

