-- ==== Sys2Proof/Machine/Image.lean ====
section
/-! DEFINITION. The configuration image: NVM layout (R75, R76), header, section table and sections (R78 to R99, R558,
R559, R565), and the validation of R101. -/
namespace Sys2Proof.Machine

/-! ### NVM contents -/

/-- An erased byte of NVM. -/
def erased : Nat → Byte := fun _ => 0xFF

/-- The contents of page `k` in a scrub-buffer entry not marked done (R541). -/
def scrubEntry (k : Nat) : List (Nat × List Byte) → Option (List Byte)
  | [] => none
  | e :: l => if e.1 = k then some e.2 else scrubEntry k l

/-- A byte of NVM as a read finds it: a page whose scrub step has not been completed is served from its buffer entry (R542). -/
def Nvm.byte (v : Nvm) (a : Nat) : Byte :=
  match scrubEntry (a / 256) v.scrubBuf with
  | some d => d.getD (a % 256) 0xFF
  | none => spGet erased v.mem a

/-- `n` bytes of NVM from address `a`. -/
def State.nvmBytes (s : State) (a n : Nat) : List Byte :=
  if s.nvm.scrubBuf.isEmpty then spRun erased s.nvm.mem a n else (List.range n).map fun i => s.nvm.byte (a + i)

/-- The scrub step of page `k` is completed, if its entry is not marked done: the page holds the entry's contents (R541, R542). -/
def Nvm.scrubFinish (v : Nvm) (k : Nat) : Nvm :=
  match scrubEntry k v.scrubBuf with
  | some d =>
    { v with mem := spPutAll erased v.mem (256 * k) d, scrubBuf := v.scrubBuf.filter fun e => decide (e.1 ≠ k) }
  | none => v

/-- Store bytes into a page of the NVM array, which waits for the page's scrub step (R542). -/
def State.nvmStore (s : State) (a : Nat) (bs : List Byte) : State :=
  s.modNvm fun v =>
    let v := v.scrubFinish (a / 256)
    { v with mem := spPutAll erased v.mem a bs }

/-- Offset of an area in its slot (R76). -/
def areaOffset (area : Nat) : Nat := if area = 0 then 0 else 0x1A0000 + 0x10000 * area

/-- Byte address of an area. -/
def areaBase (slot area : Nat) : Nat := 0x200000 * slot + areaOffset area

/-- Size of an area in bytes. -/
def areaSize (area : Nat) : Nat := if area = 0 then 0x1B0000 else 0x10000

/-- A page holds a word that no read can correct (log entry 14). -/
def State.badPage (s : State) (a : Nat) : Bool := s.nvm.bad.contains (a / 256)

/-- Some page of a run of `n` pages from byte address `a` cannot be read. -/
def State.badRun (s : State) (a : Nat) : Nat → Bool
  | 0 => false
  | n + 1 => s.badPage a || s.badRun (a + 256) n

/-! ### Header -/

/-- Magic, format, kind, key, version, rollback, count, length, base version, part (R79), from the header page. -/
def hMagic (h : List Byte) : Nat := le h 0 4
def hFormat (h : List Byte) : Nat := le h 4 2
def hKind (h : List Byte) : Nat := le h 6 1
def hKey (h : List Byte) : Nat := le h 7 1
def hVersion (h : List Byte) : Nat := le h 8 4
def hRollback (h : List Byte) : Nat := le h 0x0C 2
def hCount (h : List Byte) : Nat := le h 0x0E 1
def hLength (h : List Byte) : Nat := le h 0x10 4
def hBaseVersion (h : List Byte) : Nat := le h 0x14 4
def hPart (h : List Byte) : Nat := le h 0x18 4

/-- The section-table words. -/
def hEntries (h : List Byte) : List Word := byteWords 32 (slice h 0x20 128)

def magicNumber : Nat := 0x494C524B

/-- Digest-list pages for a section count. -/
def digestPages (count : Nat) : Nat := (32 * count + 255) / 256

/-- The kind an area takes (R76). -/
def areaKind (area : Nat) : Nat := if area = 0 then 0 else if area ≤ 4 then 1 else 2

/-- The number a byte string spells, most significant byte first (R78). -/
def beNat (bs : List Byte) : Nat := leNat bs.reverse

/-! ### Section table -/

/-- Section type, instance and length of an entry (R81). -/
def eTyp (w : Word) : Nat := fld w 0 8
def eInst (w : Word) : Nat := fld w 8 2
def ePages (w : Word) : Nat := fld w 16 16

/-- One entry by itself: type, instance, reserved bits, length (R81, R559). -/
def entryOk (w : Word) : Bool :=
  decide (1 ≤ eTyp w ∧ eTyp w ≤ 12) && (decide (eInst w = 0) || decide (eTyp w = 8 ∨ eTyp w = 9))
    && decide (fld w 10 6 = 0) && decide (1 ≤ ePages w)

/-- Entries of one type and instance. -/
def nEntries (es : List Word) (typ inst : Nat) : Nat :=
  (es.filter fun w => decide (eTyp w = typ ∧ eInst w = inst)).length

/-- R84: the numbers of sections a kind allows; `area` gives a patch its facet. -/
def kindOk (area : Nat) (es : List Word) : Bool :=
  if area = 0 then
    [1, 2, 3, 4, 5, 6, 7, 10, 11].all (fun t => decide (nEntries es t 0 = 1)) && decide (nEntries es 12 0 ≤ 1)
      && [0, 1, 2, 3].all fun i => decide (nEntries es 8 i ≤ 1 ∧ nEntries es 9 i ≤ 1)
  else if area ≤ 4 then
    decide (nEntries es (1 + area) 0 = 1) && decide (nEntries es 8 (area - 1) ≤ 1) && decide (nEntries es 9 (area - 1) ≤ 1)
      && es.all fun w => decide (eTyp w = 1 + area) || (decide (eTyp w = 8 ∨ eTyp w = 9) && decide (eInst w = area - 1))
  else decide (es.length = 1) && decide (nEntries es 6 0 = 1)

/-- R81, R84, R559: the section table is valid. -/
def tableOk (area count : Nat) (es : List Word) : Bool :=
  decide (1 ≤ count ∧ count ≤ 32) && (es.drop count).all (fun w => decide (w = 0)) && (es.take count).all entryOk
    && kindOk area (es.take count)

def sumPages (es : List Word) : Nat := es.foldl (fun n w => n + ePages w) 0

/-- One section with its bytes and the NVM address it starts at. -/
structure Sec where
  typ   : Nat
  inst  : Nat
  addr  : Nat
  pages : Nat
  bytes : List Byte
deriving DecidableEq, Repr

/-- The sections in table order from byte address `a` (R82). -/
def State.sections (s : State) (a : Nat) : List Word → List Sec
  | [] => []
  | w :: ws =>
    ⟨eTyp w, eInst w, a, ePages w, s.nvmBytes a (256 * ePages w)⟩ :: s.sections (a + 256 * ePages w) ws

/-! ### Section bodies -/

/-- `USED` of the preamble (R85). -/
def Sec.used (c : Sec) : Nat := le c.bytes 4 4

/-- R85: the preamble repeats type and instance, format 1, `USED` within the pages, zero bytes behind it. -/
def Sec.preambleOk (c : Sec) : Bool :=
  decide (le c.bytes 0 1 = c.typ) && decide (le c.bytes 1 1 = c.inst) && decide (le c.bytes 2 1 = 1)
    && decide (le c.bytes 3 1 = 0) && decide (8 ≤ c.used ∧ c.used ≤ 256 * c.pages)
    && (c.bytes.drop c.used).all fun b => decide (b = 0)

/-- A register-write record (R86). -/
structure Rec where
  idx   : Nat
  rtype : Nat
  zero  : Nat
  value : Word
deriving DecidableEq, Repr

/-- `n` records from a byte string. -/
def recsOf : Nat → List Byte → List Rec
  | 0, _ => []
  | n + 1, bs => ⟨le bs 0 2, le bs 2 1, le bs 3 1, BitVec.ofNat 32 (le bs 4 4)⟩ :: recsOf n (bs.drop 8)

/-- The records of a section whose list starts at offset `o`. -/
def Sec.recs (c : Sec) (o : Nat) : List Rec := recsOf ((c.used - o) / 8) (c.bytes.drop o)

/-- The records fill the section exactly (R558). -/
def Sec.recsFit (c : Sec) (o : Nat) : Bool := decide (o ≤ c.used) && decide ((c.used - o) % 8 = 0)

/-- R87: word indices a section may write. -/
def recRange (typ i : Nat) : Bool :=
  if typ = 1 then decide (0x0010 ≤ i ∧ i ≤ 0x01FF) || decide (0x0500 ≤ i ∧ i ≤ 0x06FF) || decide (0x2000 ≤ i ∧ i ≤ 0x20FF)
  else if 2 ≤ typ ∧ typ ≤ 5 then decide (0x1000 + 0x400 * (typ - 2) ≤ i ∧ i < 0x1400 + 0x400 * (typ - 2))
  else if typ = 6 then decide (0x0800 ≤ i ∧ i ≤ 0x0FFF)
  else decide (0x0400 ≤ i ∧ i ≤ 0x04FF)

/-- A record is valid in its section (R86, R87, R89, R559). -/
def recOk (typ : Nat) (r : Rec) : Bool :=
  decide (r.zero = 0) &&
    (if r.rtype = 1 then recRange typ r.idx && bankField r.idx
     else decide (2 ≤ typ ∧ typ ≤ 5) && decide (r.rtype = 2 ∨ r.rtype = 3) && decide (r.idx ≤ 15))

def allZero (bs : List Byte) : Bool := bs.all fun b => decide (b = 0)

/-- GLOBAL (R88). -/
def Sec.globalOk (c : Sec) : Bool :=
  let a := le c.bytes 0x0C 1
  c.recsFit 0x10 && (decide (a = 0) || decide (8 ≤ a ∧ a ≤ 0x77)) && allZero (slice c.bytes 0x0D 3)
    && (c.recs 0x10).all (recOk 1)

/-- The rule word a record list sets: low and high halves of rule `n`, 0 where not set (R89). -/
def ruleOf (n : Nat) : List Rec → BitVec 64 → BitVec 64
  | [], acc => acc
  | r :: rs, acc =>
    let acc := if r.rtype = 2 ∧ r.idx = n then (acc >>> 32 <<< 32) ||| r.value.setWidth 64
      else if r.rtype = 3 ∧ r.idx = n then (acc.setWidth 32).setWidth 64 ||| (r.value.setWidth 64 <<< 32)
      else acc
    ruleOf n rs acc

/-- Rules `n` on of the next `k`. -/
def rulesFrom (rs : List Rec) (n : Nat) : Nat → List (BitVec 64)
  | 0 => []
  | k + 1 => ruleOf n rs 0 :: rulesFrom rs (n + 1) k

/-- The 16 logic rules of a FACET section. -/
def rulesOf (rs : List Rec) : List (BitVec 64) := rulesFrom rs 0 16

/-- Event codes that may trigger a rule (table of event codes). -/
def triggerOk (t : Nat) : Bool :=
  decide (0x10 ≤ t ∧ t ≤ 0x19) || decide (0x20 ≤ t ∧ t ≤ 0x26) || decide (t = 0x30 ∨ t = 0x31 ∨ t = 0x40 ∨ t = 0x42)

/-- A logic rule is valid (R90, R157, R559, R565). -/
def ruleOk (r : BitVec 64) : Bool :=
  let t := r.toNat % 256
  let wm := r.toNat / 256 % 256
  let cond := r.toNat / 65536 % 4
  decide (r.toNat / 2 ^ 18 % 64 = 0) &&
    (decide (t = 0) || (triggerOk t && decide (r.toNat / 2 ^ 24 % 256 ≤ 5)
      && (decide (wm ≤ 31) || (decide (wm = 255) && decide (cond = 0)))))

/-- FACET_A to FACET_D (R89). -/
def Sec.facetOk (c : Sec) : Bool :=
  let fl := BitVec.ofNat 32 (le c.bytes 8 4)
  let role := fld fl 1 2
  let try' := fld fl 3 2
  c.recsFit 0x10 && decide (fld fl 6 26 = 0) && allZero (slice c.bytes 0x0E 2) && decide (role ≠ 3) && decide (try' ≠ 3)
    && (decide (try' = 0) || decide (role = 2)) && (c.recs 0x10).all (recOk c.typ) && (rulesOf (c.recs 0x10)).all ruleOk

/-- HUB (R91). -/
def Sec.hubOk (c : Sec) : Bool :=
  c.recsFit 0x10 && (slice c.bytes 8 4).all (fun b => decide (b.toNat ≤ 7))
    && decide (le c.bytes 0x0C 4 < 2) && (c.recs 0x10).all (recOk 6)

/-- The owner a net belongs to: 0 to 3 a facet, 4 the hub, 5 global (R364). -/
def netOwner (net : Nat) : Option Nat :=
  if 0x20 ≤ net ∧ net ≤ 0x3F then some ((net - 0x20) / 8)
  else if 0x40 ≤ net ∧ net ≤ 0x49 then some 4
  else if 0x4A ≤ net ∧ net ≤ 0x4F then some 5
  else none

/-- A MONITOR_ROUTING entry is valid (R92, R378, R559). -/
def routeOk (w0 w1 : Word) : Bool :=
  decide (fld w0 14 18 = 0) && decide (fld w1 16 16 = 0)
    && (decide (fld w0 11 3 = 0)
      || (decide (fld w0 11 3 ≤ 5) && decide (netOwner (fld w0 0 8) = some (fld w0 8 3))))

/-- The 32 routing entries from entry `k` of the next `n`: words 0 and 1. -/
def Sec.routes (c : Sec) (k : Nat) : Nat → List (Word × Word)
  | 0 => []
  | n + 1 => (BitVec.ofNat 32 (le c.bytes (8 + 8 * k) 4), BitVec.ofNat 32 (le c.bytes (12 + 8 * k) 4)) :: c.routes (k + 1) n

def Sec.routingOk (c : Sec) : Bool :=
  c.recsFit 0x108 && (c.routes 0 32).all (fun e => routeOk e.1 e.2) && (c.recs 0x108).all (recOk 10)

/-- `n` source entries of FAULT_CLASSES from offset `o` (R93). -/
def Sec.srcEntries (c : Sec) (o : Nat) : Nat → List SrcEntry
  | 0 => []
  | n + 1 =>
    { id := BitVec.ofNat 16 (le c.bytes o 2), cls := BitVec.ofNat 4 (le c.bytes (o + 2) 1)
      lvl := BitVec.ofNat 2 (le c.bytes (o + 3) 1), n := le c.bytes (o + 4) 1, w := le c.bytes (o + 6) 2 }
      :: c.srcEntries (o + 8) n

/-- The raw bounds of one source entry (R93, R420, R559). -/
def Sec.srcOk (c : Sec) (o : Nat) : Bool :=
  let id := le c.bytes o 2
  decide (id / 256 ≤ 5) && (srcDefault (id / 256) (id % 256)).isSome && decide (le c.bytes (o + 2) 1 ≤ 15)
    && decide (le c.bytes (o + 3) 1 ≤ 3) && decide (1 ≤ le c.bytes (o + 4) 1) && decide (le c.bytes (o + 5) 1 = 0)
    && decide (1 ≤ le c.bytes (o + 6) 2)

def Sec.srcsOk (c : Sec) (o : Nat) : Nat → Bool
  | 0 => true
  | n + 1 => c.srcOk o && c.srcsOk (o + 8) n

/-- FAULT_CLASSES (R93, R420). -/
def Sec.faultOk (c : Sec) : Bool :=
  let n := le c.bytes 0x48 2
  let ids := (c.srcEntries 0x4C n).map SrcEntry.id
  decide (c.used = 0x4C + 8 * n) && allZero (slice c.bytes 0x4A 2) && (slice c.bytes 8 64).all (fun b => decide (b.toNat ≤ 5))
    && c.srcsOk 0x4C n && decide (ids.eraseDups = ids)

/-- PDO_TABLES (R95). -/
def Sec.pdoOk (c : Sec) : Bool :=
  let a := le c.bytes 8 1
  let b := le c.bytes 9 1
  let d := le c.bytes 10 1
  let e := le c.bytes 11 1
  decide (a ≤ 7 ∧ b ≤ 4 ∧ d ≤ 7 ∧ e ≤ 4) && decide (c.used = 0x0C + 4 * (a + b + d + e))

def Sec.pdoTables (c : Sec) : PdoTables :=
  let a := le c.bytes 8 1
  let b := le c.bytes 9 1
  let d := le c.bytes 10 1
  let e := le c.bytes 11 1
  { srcSpr := byteWords a (c.bytes.drop 0x0C), srcEpr := byteWords b (c.bytes.drop (0x0C + 4 * a))
    snkSpr := byteWords d (c.bytes.drop (0x0C + 4 * (a + b))), snkEpr := byteWords e (c.bytes.drop (0x0C + 4 * (a + b + d))) }

/-- `n` SVID entries from a byte string, with the bytes they take; `none` when one is invalid (R96). -/
def svidsOf : Nat → List Byte → Option (List Svid × Nat)
  | 0, _ => some ([], 0)
  | n + 1, bs =>
    let m := le bs 2 1
    if 1 ≤ m ∧ m ≤ 6 ∧ le bs 3 1 = 0 then
      match svidsOf n (bs.drop (4 + 4 * m)) with
      | some (l, k) => some (⟨BitVec.ofNat 16 (le bs 0 2), byteWords m (bs.drop 4)⟩ :: l, 4 + 4 * m + k)
      | none => none
    else none

/-- VDM_TABLES (R96). -/
def Sec.vdmTables (c : Sec) : Option VdmTables :=
  let a := le c.bytes 8 1
  let n := le c.bytes 9 1
  if 1 ≤ a ∧ a ≤ 6 ∧ n ≤ 12 ∧ le c.bytes 10 2 = 0 then
    match svidsOf n (c.bytes.drop (0x0C + 4 * a)) with
    | some (l, k) => if c.used = 0x0C + 4 * a + k then some ⟨byteWords a (c.bytes.drop 0x0C), l⟩ else none
    | none => none
  else none

/-- POLICY_CODE (R98, R99). -/
def Sec.policyOk (c : Sec) : Bool :=
  let load := le c.bytes 8 4
  let entry := le c.bytes 0x0C 4
  let code := le c.bytes 0x10 4
  let clear := le c.bytes 0x14 4
  allZero (slice c.bytes 0x18 8) && decide (c.used = 0x20 + code) && decide (load % 2 = 0) && decide (entry % 2 = 0)
    && decide (load + code + clear ≤ 524288) && decide (load ≤ entry ∧ entry < load + code)

/-- The contents of a section are valid (R85 to R99, R558, R559, R565). -/
def Sec.ok (c : Sec) : Bool :=
  c.preambleOk &&
    (if c.typ = 1 then c.globalOk
     else if c.typ ≤ 5 then c.facetOk
     else if c.typ = 6 then c.hubOk
     else if c.typ = 7 then c.policyOk
     else if c.typ = 8 then c.pdoOk
     else if c.typ = 9 then c.vdmTables.isSome
     else if c.typ = 10 then c.routingOk
     else if c.typ = 11 then c.faultOk
     else true)

/-! ### Validation -/

/-- A parsed image or patch. -/
structure Img where
  hdr  : List Byte
  secs : List Sec
deriving DecidableEq, Repr

def findSec (typ inst : Nat) : List Sec → Option Sec
  | [] => none
  | c :: cs => if c.typ = typ ∧ c.inst = inst then some c else findSec typ inst cs

def Img.sec (g : Img) (typ inst : Nat) : Option Sec := findSec typ inst g.secs

def Img.version (g : Img) : Nat := hVersion g.hdr
def Img.rollback (g : Img) : Nat := hRollback g.hdr

/-- The facet configuration of a FACET section (R89). -/
def Sec.facetCfg (c : Sec) : FacetCfg :=
  let fl := BitVec.ofNat 32 (le c.bytes 8 4)
  { present := fl.getLsbD 0, role := BitVec.ofNat 2 (fld fl 1 2), tryRole := BitVec.ofNat 2 (fld fl 3 2)
    auth := fl.getLsbD 5, snkOpMa := le c.bytes 0x0C 2, rules := rulesOf (c.recs 0x10) }

/-- The PDO tables an image carries for a facet. -/
def Img.pdo (g : Img) (p : Port) : Option PdoTables := (g.sec 8 (portNo p)).map Sec.pdoTables

/-- The VDM tables an image carries for a facet. -/
def Img.vdm (g : Img) (p : Port) : Option VdmTables := (g.sec 9 (portNo p)).bind Sec.vdmTables

/-- R97 of one facet: a present source or DRP facet has a first source SPR object at Fixed 5 V. -/
def sourceOk (c : FacetCfg) (t : Option PdoTables) : Bool :=
  if c.present && decide (c.role = 1 ∨ c.role = 2) then
    match t with
    | some t => match t.srcSpr with
      | w :: _ => decide (pdoKind w = .fixed) && decide (pdoMv w = 5000)
      | [] => false
    | none => false
  else true

/-- How a validation ends: the image, or the code of the first failing check with its section (R101). -/
inductive Judged where
  | ok (g : Img)
  | bad (code sec : Nat)
deriving DecidableEq, Repr

/-- The key slot an index names. -/
def Keys.img (k : Keys) : Nat → KeySlot
  | 0 => k.img0 | 1 => k.img1 | 2 => k.img2 | _ => k.img3

/-- The ECDSA signature of a header verifies under its key (R80). -/
def sigOk (key h : List Byte) : Bool :=
  Config.ecdsaVerify key (Config.sha256 (h.take 0xC0)) (BitVec.ofNat 256 (beNat (slice h 0xC0 32)))
    (BitVec.ofNat 256 (beNat (slice h 0xE0 32)))

/-- Digest i of the digest list equals the digest of a section (R83). -/
def digestOk (dl : List Byte) (i : Nat) (c : Sec) : Bool :=
  decide (le dl (32 * i) 32 = (Config.sha256 c.bytes).toNat)

/-- The digest and content checks of the sections from index `i` that `want` selects. -/
def State.judgeSecs (s : State) (dl : List Byte) (want : Sec → Bool) (i : Nat) : List Sec → Option (Nat × Nat)
  | [] => none
  | c :: cs =>
    if !want c then s.judgeSecs dl want (i + 1) cs
    else if s.badRun c.addr c.pages then some (0x0E, i)
    else if !digestOk dl i c then some (0x0C, i)
    else if !c.ok then some (0x0D, i)
    else s.judgeSecs dl want (i + 1) cs

/-- Section index of the FACET section whose facet fails R97 with its own tables or those `fall` gives it. -/
def crossBad (g : Img) (fall : Four (Option PdoTables)) (i : Nat) : List Sec → Option Nat
  | [] => none
  | c :: cs =>
    if 2 ≤ c.typ ∧ c.typ ≤ 5 then
      let p := portOf (c.typ - 2)
      let t := match g.pdo p with | some t => some t | none => fall.get p
      if sourceOk c.facetCfg t then crossBad g fall (i + 1) cs else some i
    else crossBad g fall (i + 1) cs

/-- The counter an area's rollback is judged by (R102); none for the image area of slot 0. -/
def areaCounter (slot area : Nat) : Option Nat :=
  if area = 0 then (if slot = 0 then none else some 0) else some area

/-- The header checks of R101, up to the base version; 0 when all pass. -/
def State.judgeHeader (s : State) (slot area : Nat) : Nat :=
  let h := s.nvmBytes (areaBase slot area) 256
  let es := hEntries h
  let n := hCount h
  if s.badPage (areaBase slot area) then 0x0E
  else if hMagic h ≠ magicNumber then 1
  else if hFormat h ≠ 1 then 2
  else if hPart h ≠ 0x4680 ∨ le h 0x0F 1 ≠ 0 ∨ le h 0x1C 4 ≠ 0
      ∨ (hKind h = 0 ∧ hBaseVersion h ≠ 0) then 3
  else if hKind h ≠ areaKind area then 4
  else if !tableOk area n es then 5
  else if hLength h ≠ 256 * (1 + digestPages n + sumPages (es.take n)) ∨ areaSize area < hLength h then 6
  else match (if hKey h ≤ 3 then s.onx.keys.img (hKey h) else .empty) with
  | .enabled key =>
    if !sigOk key h then 8
    else if (match areaCounter slot area with | none => false | some c => decide (hRollback h < s.ctr c)) then 9
    else if area ≠ 0 ∧ s.badPage (areaBase slot 0) = true then 0x0E
    else if area ≠ 0 ∧ hBaseVersion h ≠ hVersion (s.nvmBytes (areaBase slot 0) 256) then 0x0A
    else 0
  | _ => 7

/-- The image or patch as its header lays it out (R82). -/
def State.imageAt (s : State) (slot area : Nat) : Img :=
  let h := s.nvmBytes (areaBase slot area) 256
  let n := hCount h
  { hdr := h, secs := s.sections (areaBase slot area + 256 * (1 + digestPages n)) ((hEntries h).take n) }

/-- The digest-list checks (R83): 0 when they pass. -/
def State.judgeDlist (s : State) (slot area : Nat) : Nat :=
  let h := s.nvmBytes (areaBase slot area) 256
  let n := hCount h
  let d := digestPages n
  let dl := s.nvmBytes (areaBase slot area + 256) (256 * d)
  if s.badRun (areaBase slot area + 256) d then 0x0E
  else if le h 0xA0 32 ≠ (Config.sha256 dl).toNat ∨ !allZero (dl.drop (32 * n)) then 0x0B
  else 0

/-- R101 with the sections that `want` selects: the whole area for every section, the facet's own for a revert (R121).
`fall` gives the tables a patch's facet keeps (R97). -/
def State.judge (s : State) (slot area : Nat) (fall : Four (Option PdoTables)) (want : Sec → Bool) : Judged :=
  let c := s.judgeHeader slot area
  if c ≠ 0 then .bad c 0
  else
    let g := s.imageAt slot area
    let c := s.judgeDlist slot area
    if c ≠ 0 then .bad c 0
    else
      let dl := s.nvmBytes (areaBase slot area + 256) (256 * digestPages (hCount g.hdr))
      match s.judgeSecs dl want 0 g.secs with
      | some (code, i) => .bad code (if code = 0x0E then 0 else i)
      | none =>
        match crossBad g fall 0 (g.secs.filter want) with
        | some i => .bad 0x0D i
        | none => .ok g

/-- The first page of a run of `n` pages from byte address `a` that cannot be read. -/
def State.firstBad (s : State) (a : Nat) : Nat → Option Nat
  | 0 => none
  | n + 1 => if s.badPage a then some a else s.firstBad (a + 256) n

/-- The first such page of the sections that `want` selects. -/
def State.firstBadSec (s : State) (want : Sec → Bool) : List Sec → Option Nat
  | [] => none
  | c :: cs =>
    match (if want c then s.firstBad c.addr c.pages else none) with
    | some a => some a
    | none => s.firstBadSec want cs

/-- The page at which a judgement that ends with `E_NVM` found a word it could not read. -/
def State.badAt (s : State) (slot area : Nat) (want : Sec → Bool) : Nat :=
  let b := areaBase slot area
  if s.badPage b then b
  else if area ≠ 0 ∧ s.badPage (areaBase slot 0) = true then areaBase slot 0
  else
    let g := s.imageAt slot area
    match s.firstBad (b + 256) (digestPages (hCount g.hdr)) with
    | some a => a
    | none => (s.firstBadSec want g.secs).getD b

/-- A judgement that ends with `E_NVM` is an NVM access error of the loader (R101, R414). -/
def State.nvmUnread (s : State) (slot area : Nat) (want : Sec → Bool) (code : Nat) : State :=
  if code = 0x0E then s.capture 1 (s.badAt slot area want) 0 0 2 1 else s

/-- Every section. -/
def anySec (_ : Sec) : Bool := true

/-- Page 0 of an area is erased (R105). -/
def State.pageErased (s : State) (slot area : Nat) : Bool :=
  !s.badPage (areaBase slot area) && (s.nvmBytes (areaBase slot area) 256).all fun b => decide (b = 0xFF)

end Sys2Proof.Machine
end

