-- ==== Sys2Proof/Machine/Loader.lean ====
section
/-! DEFINITION. The configuration loader: area states (R107), the boot scan (R104, R105), the commit of sections (R86,
R106, R377), write sessions (R108 to R112), and the loader commands (R113 to R117). -/
namespace Sys2Proof.Machine

/-! ### Areas -/

def SlotAreas.get (a : SlotAreas) : Nat → Area
  | 0 => a.img | 1 => a.cellA | 2 => a.cellB | 3 => a.cellC | 4 => a.cellD | _ => a.cellH

def SlotAreas.set (a : SlotAreas) (k : Nat) (x : Area) : SlotAreas :=
  match k with
  | 0 => { a with img := x } | 1 => { a with cellA := x } | 2 => { a with cellB := x }
  | 3 => { a with cellC := x } | 4 => { a with cellD := x } | _ => { a with cellH := x }

def Ldr.slot (l : Ldr) : Nat → SlotAreas
  | 0 => l.s0 | 1 => l.s1 | _ => l.s2

def State.area (s : State) (slot a : Nat) : Area := (s.ldr.slot slot).get a

def State.modArea (s : State) (slot a : Nat) (g : Area → Area) : State :=
  s.modLdr fun l =>
    let x := (l.slot slot).set a (g ((l.slot slot).get a))
    match slot with
    | 0 => { l with s0 := x } | 1 => { l with s1 := x } | _ => { l with s2 := x }

def areaCode : AreaState → Nat
  | .unchecked => 0 | .empty => 1 | .writing => 2 | .written => 3 | .valid => 4 | .invalid => 5

/-- Fill `CFG_SEL_*` from the selected area (R117). -/
def State.fillSel (s : State) : State :=
  let slot := s.rf 0x0205 0 2
  let a := s.rf 0x0205 2 3
  if slot = 3 ∨ 5 < a then (((s.setReg 0x0206 0).setReg 0x0207 0).setReg 0x0208 0).setReg 0x0209 0
  else
    let x := s.area slot a
    let h := s.nvmBytes (areaBase slot a) 256
    let c := match areaCounter slot a with | some c => s.ctr c | none => 0
    let s := s.setReg 0x0206 (fw 0 (areaCode x.st) ||| flag 3 x.inUse ||| fw 8 x.err.toNat)
    let s := s.setReg 0x0207 (if x.st = .empty then 0 else fw 0 (hVersion h))
    let s := s.setReg 0x0208 (fw 0 (hBaseVersion h))
    s.setReg 0x0209 (fw 0 (hRollback h) ||| fw 16 (c % 65536))

/-- Write `CFG_ERR` (R117). -/
def State.setCfgErr (s : State) (code slot area sec : Nat) : State :=
  s.setReg 0x020A (fw 0 code ||| fw 8 slot ||| fw 10 area ||| fw 13 (if code = 0x0C ∨ code = 0x0D then sec else 0))

/-! ### Boot scan -/

def noTables : Four (Option PdoTables) := .all none

/-- The tables an image gives each facet. -/
def Img.tables (g : Img) : Four (Option PdoTables) := ⟨g.pdo .a, g.pdo .b, g.pdo .c, g.pdo .d⟩

/-- A failing area of the boot scan: `CFG_ERR` keeps the first failure, and source 0x050B is raised (R105, R117). -/
def State.scanReject (s : State) (slot area code sec : Nat) : State :=
  let s := if s.rf 0x020A 0 8 = 0 then s.setCfgErr code slot area sec else s
  let st : AreaState := if s.pageErased slot area then .empty else .invalid
  let s := s.modArea slot area fun x => { x with st := st, err := BitVec.ofNat 8 code }
  (s.nvmUnread slot area anySec code).fault 5 0x0B (code + 256 * area)

/-- Judge the cells of the booted slot from area `a` of the next `n` (R105), with the patches found so far. -/
def State.scanCells (s : State) (slot : Nat) (g : Img) (acc : List (Nat × Img)) (a : Nat) :
    Nat → State × List (Nat × Img)
  | 0 => (s, acc)
  | n + 1 =>
    if s.pageErased slot a then
      (s.modArea slot a fun x => { x with st := .empty, err := 0 }).scanCells slot g acc (a + 1) n
    else match s.judge slot a g.tables anySec with
      | .ok q =>
        let s := s.modArea slot a fun x => { x with st := .valid, err := 0, inUse := true, roll := q.rollback }
        (s.orReg 0x020C (flag (a - 1) true)).scanCells slot g (acc ++ [(a, q)]) (a + 1) n
      | .bad code sec => (s.scanReject slot a code sec).scanCells slot g acc (a + 1) n

/-- What the boot scan found: the booted slot with its image and the patches in use, by area. -/
structure Found where
  slot    : Nat
  img     : Img
  patches : List (Nat × Img)
deriving DecidableEq, Repr

/-- Try slots in order (R104). -/
def State.scanSlots (s : State) : List Nat → State × Option Found
  | [] => (s, none)
  | k :: ks =>
    match s.judge k 0 noTables anySec with
    | .ok g =>
      let s := s.modArea k 0 fun x => { x with st := .valid, err := 0, inUse := true, roll := g.rollback }
      let r := s.scanCells k g [] 1 5
      (r.1, some ⟨k, g, r.2⟩)
    | .bad code sec => (s.scanReject k 0 code sec).scanSlots ks

/-- The rank of slot 1 or 2: its version, behind every version when page 0 is erased, unreadable or without magic. -/
def State.slotRank (s : State) (k : Nat) : Nat :=
  let h := s.nvmBytes (areaBase k 0) 256
  if s.badPage (areaBase k 0) || decide (hMagic h ≠ magicNumber) then 0 else hVersion h + 1

/-- The order in which slots are tried (R104). -/
def State.bootOrder (s : State) : List Nat := if s.slotRank 1 < s.slotRank 2 then [2, 1, 0] else [1, 2, 0]

/-- Area states at entry to the scan (R107): EMPTY where page 0 is erased, else UNCHECKED. -/
def State.scanInit (s : State) : State :=
  let st := fun (k a : Nat) => ({ st := if s.pageErased k a then .empty else .unchecked, err := 0, inUse := false
                                  roll := 0 } : Area)
  let sl := fun (k : Nat) => (⟨st k 0, st k 1, st k 2, st k 3, st k 4, st k 5⟩ : SlotAreas)
  ((s.modLdr fun l => { l with s0 := sl 0, s1 := sl 1, s2 := sl 2 }).setReg 0x020A 0).setReg 0x020C 0

/-- The boot scan: slots tried in order, the cells of the booted one judged. -/
def State.bootScan (s : State) : State × Option Found := s.scanInit.scanSlots s.bootOrder

/-! ### Committing sections -/

/-- The register-write records of a section take effect in order (R86). -/
def State.applyRecs (s : State) : List Rec → State
  | [] => s
  | r :: rs => (if r.rtype = 1 then s.storeRw r.idx r.value else s).applyRecs rs

/-- GLOBAL (R88): node identity, service-port address, records. -/
def State.commitGlobal (s : State) (c : Sec) : State :=
  let s := s.setReg 0x0005 (BitVec.ofNat 32 (le c.bytes 8 4))
  let a := le c.bytes 0x0C 1
  let s := s.modSvc fun v => { v with addr := BitVec.ofNat 7 (if a = 0 then 0x3A else a) }
  s.applyRecs (c.recs 0x10)

/-- One routing entry (R377): `NET`, `OWNER`, `GRADE`, both enables and both thresholds; grade 0 unrouted. -/
def State.routeOne (s : State) (k : Nat) (e : Word × Word) : State :=
  let b := 0x0400 + 4 * k
  let old := s.reg b
  if fld e.1 11 3 = 0 then (s.setReg b (withFld (withFld old 0 8 0) 11 3 0)).wmCfgDone k old (withFld (withFld old 0 8 0) 11 3 0)
  else
    let w := fw 0 (fld e.1 0 14) ||| flag 16 true ||| flag 17 true ||| (old &&& 0x000C0000)
    ((s.setReg b w).setFld (b + 1) 0 16 (fld e.2 0 16)).wmCfgDone k old w

def State.routeAll (s : State) (k : Nat) : List (Word × Word) → State
  | [] => s
  | e :: es => (s.routeOne k e).routeAll (k + 1) es

/-- MONITOR_ROUTING (R377). -/
def State.commitRouting (s : State) (c : Sec) : State := (s.routeAll 0 (c.routes 0 32)).applyRecs (c.recs 0x108)

/-- FAULT_CLASSES (R93): the reaction table and the sources listed. -/
def State.commitFault (s : State) (c : Sec) : State :=
  { s with fltCfg := { reactions := slice c.bytes 8 64, sources := c.srcEntries 0x4C (le c.bytes 0x48 2) } }

/-- Grant priorities and `PARALLEL` of a HUB section (R91). -/
def Sec.hubPrio (c : Sec) : Four Nat := ⟨le c.bytes 8 1, le c.bytes 9 1, le c.bytes 10 1, le c.bytes 11 1⟩
def Sec.hubParallel (c : Sec) : Bool := decide (le c.bytes 0x0C 1 % 2 = 1)

/-- The fields a HUB section that sets `CHEM` = 2 gives without a record for them: the LiFePO₄ table of R352 and the
values of `VCHG_REQ` and `VCUT` (battery registers); `get` reads the bank written to. -/
def lfpRecs (get : Nat → Word) : List Rec :=
  [⟨0x08C1, 1, 0, withFld (get 0x08C1) 0 9 350⟩, ⟨0x08C7, 1, 0, withFld (get 0x08C7) 0 9 280⟩]
    ++ (List.range 11).map fun k => ⟨0x08E0 + k, 1, 0, BitVec.ofNat 32 (ocvLfp.getD k 0)⟩

/-- The records of a HUB section with those that its chemistry implies. -/
def hubRecs (get : Nat → Word) (rs : List Rec) : List Rec :=
  if rs.any fun r => decide (r.rtype = 1) && decide (r.idx = 0x08C0) && decide (fld r.value 0 3 = 2) then
    ((lfpRecs get).filter fun d => !rs.any fun r => decide (r.rtype = 1) && decide (r.idx = d.idx)) ++ rs
  else rs

/-- HUB: the facet H goes LIVE with its first commit, its records take effect, and a valid battery configuration ends
UNCONFIGURED (R345). The feed settings are in force at once (R307). -/
def State.commitHub (s : State) (c : Sec) : State :=
  let s := s.modHub fun h => { h with prio := c.hubPrio, parallel := c.hubParallel }
  let s := s.applyRecs (hubRecs s.reg (c.recs 0x10))
  let s := s.modHub fun h => { h with feed1 := { h.feed1 with cfg := s.reg 0x0880 }, feed2 := { h.feed2 with cfg := s.reg 0x0881 } }
  (s.configureBat.refreshBat).judgeWm

/-- A FACET section with the tables the facet runs with (R89). -/
def State.commitFacet (s : State) (p : Port) (c : Sec) (t : Option PdoTables) (v : Option VdmTables) : State :=
  let s := s.modF p fun f => { f with cfg := c.facetCfg, pdo := t, vdm := v }
  let s := s.modCc p fun x => { x with term := if c.facetCfg.present then x.term else .deadRd }
  s.applyRecs (c.recs 0x10)

/-- POLICY_CODE: code copied, the zero region cleared, the reset vector set (R98, R99). -/
def State.commitPolicy (s : State) (c : Sec) : State :=
  let load := le c.bytes 8 4
  let code := le c.bytes 0x10 4
  let clear := le c.bytes 0x14 4
  s.modLap fun l =>
    let m := spPutAll (fun _ => (0 : Byte)) l.sram load (slice c.bytes 0x20 code)
    { l with sram := spPutAll (fun _ => (0 : Byte)) m (load + code) (List.replicate clear 0)
             entry := BitVec.ofNat 32 (0x10000000 + le c.bytes 0x0C 4) }

/-- A section of what is in use: the patch's if one is in use and carries it, else the image's (R105). -/
def Found.sec (d : Found) (area typ inst : Nat) : Option Sec :=
  match d.patches.find? fun e => decide (e.1 = area) with
  | some e => match e.2.sec typ inst with
    | some c => some c
    | none => d.img.sec typ inst
  | none => d.img.sec typ inst

def State.commitOpt (s : State) (c : Option Sec) (g : State → Sec → State) : State :=
  match c with
  | some c => g s c
  | none => s

/-- One facet's FACET section with its tables (R105, R106). -/
def State.commitPort (s : State) (d : Found) (p : Port) : State :=
  let n := portNo p
  s.commitOpt (d.sec (n + 1) (n + 2) 0) fun s c =>
    s.commitFacet p c ((d.sec (n + 1) 8 n).map Sec.pdoTables) ((d.sec (n + 1) 9 n).bind Sec.vdmTables)

/-- `CFG_USER_LOC` (R100). -/
def State.userLoc (s : State) (d : Found) : State :=
  match d.img.sec 12 0 with
  | some c => s.setReg 0x020B (fw 0 (c.addr / 256) ||| fw 16 c.pages)
  | none => s.setReg 0x020B 0

/-- R106: the staged contents take effect in their fixed order. -/
def State.commitAll (s : State) (d : Found) : State :=
  let s := s.commitOpt (d.img.sec 1 0) State.commitGlobal
  let s := s.commitOpt (d.img.sec 10 0) State.commitRouting
  let s := s.commitOpt (d.img.sec 11 0) State.commitFault
  let s := s.commitOpt (d.sec 5 6 0) State.commitHub
  let s := (((s.commitPort d .a).commitPort d .b).commitPort d .c).commitPort d .d
  let s := s.commitOpt (d.img.sec 7 0) State.commitPolicy
  (s.userLoc d).fillSel

/-! ### Write sessions -/

/-- A prepare or hold runs in some unit (R122). -/
def Phase.live : Phase → Bool
  | .preparing => true | .holding => true
  | .idle => false | .ready => false | .applied => false | .failed => false | .rolledBack => false | .aborted => false

def State.liveBusy (s : State) : Bool :=
  s.hub.rc.phase.live || allPorts.any fun p => (s.facet p).rc.phase.live

/-- A prepare or a hold runs in another unit than `u` (R122). -/
def State.otherBusy (s : State) (u : Option Port) : Bool :=
  (decide (u ≠ none) && s.hub.rc.phase.live) || allPorts.any fun p => decide (u ≠ some p) && (s.facet p).rc.phase.live

/-- A hold runs. -/
def State.holding (s : State) : Bool :=
  decide (s.hub.rc.phase = .holding) || allPorts.any fun p => decide ((s.facet p).rc.phase = .holding)

/-- A loader page of the session is queued or being programmed. -/
def NvmOp.isPage : NvmOp → Bool
  | .page _ _ => true
  | _ => false

/-- `WR_READY` (R112, R117, R142). -/
def State.wrReady (s : State) : Bool :=
  s.ldr.session.isSome && !s.holding && s.nvm.ops.all (fun o => !o.isPage)
    && (match s.ldr.cmd with | some c => decide (c.op ≠ .openWrite) && decide (c.op ≠ .closeWrite) | none => true)

/-- A session takes one word (R109, R110): a full page is programmed, page 0 is held back. -/
def State.sessionWord (s : State) (x : Session) (v : Word) : State :=
  let page := x.page ++ leBytes 4 v.toNat
  let n := x.words / 64
  let x := { x with words := x.words + 1, page := page }
  if page.length = 256 then
    let s := s.modLdr fun l =>
      { l with session := some { x with page := [], page0 := if n = 0 then page else x.page0 } }
    if n = 0 then s else s.nvmQueue (.page (areaBase x.slot.toNat x.area.toNat + 256 * n) page)
  else s.modLdr fun l => { l with session := some x }

/-- A write of `CFG_DATA` (R108, R112). -/
def State.cfgData (s : State) (m : Master) (v : Word) : State :=
  match s.ldr.session with
  | none => s.busError 0x0203 (masterId m) true 2 5
  | some x =>
    if m ≠ x.owner then s.busError 0x0203 (masterId m) true 2 5
    else if x.ovr || !s.wrReady || decide (areaSize x.area.toNat ≤ 4 * x.words) then
      (s.modLdr fun l => { l with session := some { x with ovr := true } }).orReg 0x0200 (flag 4 true)
    else s.sessionWord x v

/-! ### Commands -/

def ldrOpOf : Nat → Option LdrOp
  | 1 => some .erase | 2 => some .openWrite | 3 => some .closeWrite | 4 => some .verify | 5 => some .commit | _ => none

/-- The facet of a cell is HELD (R113). -/
def State.cellHeld (s : State) (area : Nat) : Bool :=
  if 1 ≤ area ∧ area ≤ 4 then decide ((s.facet (portOf (area - 1))).fstate = .held)
  else decide (area = 5) && decide (s.hub.fstate = .held)

/-- R113, R437, R443: a precondition of a loader command is not met. -/
def State.cfgRefused (s : State) (op : LdrOp) (slot area : Nat) (m : Master) : Bool :=
  let er := (decide (slot = s.bootSlot.toNat) && decide (area = 0)) || (decide (slot = 0) && decide (s.lc ≠ 0))
    || s.cellHeld area
  match op with
  | .erase => er
  | .openWrite => er || s.ldr.session.isSome
  | .closeWrite =>
    match s.ldr.session with
    | none => true
    | some x => decide (x.owner ≠ m) || x.ovr || s.bit 0x0200 4
  | .verify => decide ((s.area slot area).st = .writing)
  | .commit => decide (slot ≠ s.bootSlot.toNat) || !(s.area slot area).inUse || decide (s.bootSlot = 0) || decide (s.lc = 3)

/-- Report in `CFG_CMD_STAT` and set `CMD_DONE` (R115, R117). -/
def State.cfgResult (s : State) (m : Master) (r : Res) (why : Reason) : State :=
  ((s.setReg 0x0202 (statWord (resCode r) why 0 m)).orReg 0x0200 (flag 6 true)).fillSel

/-- The staged contents are gone: `BASE`, `TABLES` and `VERSION` show the contents last applied again (R143). -/
def Rcfg.lapse {β : Type} (r : Rcfg β) : Rcfg β :=
  { r with base := r.last.1, tables := r.last.2.1, version := r.last.2.2 }

/-- Staged contents of a READY unit are discarded (R123). -/
def Rcfg.discard {β : Type} (r : Rcfg β) : Rcfg β := { r.lapse with phase := .idle, err := 0x23, shadow := none }

/-- Contents are staged and no apply on an OFF facet has taken them up (R137). -/
def Rcfg.isStaged {β : Type} (r : Rcfg β) : Bool := decide (r.phase = .ready) && !r.offApply

/-- A cell of the booted slot is erased or opened: its unit's staged contents are lost, and RCFG is posted (R123), at the start
of the loader command and at its end, so that what was staged from the cell meanwhile is lost too. -/
def State.cellEvent (s : State) (slot area : Nat) : State :=
  if slot ≠ s.bootSlot.toNat then s
  else if 1 ≤ area ∧ area ≤ 4 then
    let p := portOf (area - 1)
    if (s.facet p).rc.isStaged then (s.modRc p Rcfg.discard).postF p 0x38 0 else s
  else if area = 5 ∧ s.hub.rc.isStaged = true then (s.modHub fun h => { h with rc := h.rc.discard }).postH 0x38 0
  else s

/-- An accepted loader command starts to run (R107, R113). -/
def State.cfgStart (s : State) (op : LdrOp) (slot area : Nat) (m : Master) : State :=
  let c : LdrCmd := { op := op, slot := BitVec.ofNat 2 slot, area := BitVec.ofNat 3 area, m := m }
  let s := s.modLdr fun l => { l with cmd := some c }
  let s := s.setReg 0x0202 (pendingWord 0 m)
  match op with
  | .erase =>
    let s := s.modLdr fun l =>
      { l with session := match l.session with
          | some x => if x.slot.toNat = slot ∧ x.area.toNat = area then none else some x
          | none => none }
    s.cellEvent slot area
  | .openWrite =>
    let s := s.modLdr fun l =>
      { l with session := some { slot := BitVec.ofNat 2 slot, area := BitVec.ofNat 3 area, owner := m, words := 0
                                 page0 := [], page := [], ovr := false } }
    (s.modArea slot area fun x => { x with st := .writing }).cellEvent slot area
  | _ => s

/-- R556 for a loader command, once no prepare or hold runs (R142). -/
def State.cfgJudge (s : State) (m : Master) (op arg : Nat) : State :=
  match ldrOpOf op with
  | none => s.cfgResult m .refused .badCmd
  | some o =>
    let slot := arg % 4
    let area := arg / 4 % 8
    if o ≠ .closeWrite ∧ (slot = 3 ∨ 5 < area ∨ arg / 32 ≠ 0) then s.cfgResult m .refused .badCmd
    else if s.mode ≠ .standby ∧ s.mode ≠ .run ∧ s.mode ≠ .safe then s.cfgResult m .refused .deviceMode
    else if s.cfgRefused o slot area m then s.cfgResult m .refused .precondition
    else s.cfgStart o slot area m

/-- A write of `CFG_CMD`: discarded while a command is outstanding (R115), kept while a prepare or hold runs (R142). -/
def State.cfgCmd (s : State) (m : Master) (op arg : Nat) : State :=
  if s.ldr.cmd.isSome || s.ldr.waiting.isSome then s.orReg 0x0200 (flag 5 true)
  else if s.liveBusy then
    (s.modLdr fun l => { l with waiting := some (m, fw 8 op ||| fw 16 arg) }).setReg 0x0202 (pendingWord 0 m)
  else s.cfgJudge m op arg

/-- The command that waited is judged once no prepare or hold runs (R142). -/
def State.cfgWaiting (s : State) : State :=
  match s.ldr.waiting with
  | none => s
  | some (m, w) =>
    if s.liveBusy then s else (s.modLdr fun l => { l with waiting := none }).cfgJudge m (fld w 8 8) (fld w 16 16)

/-- `n` bytes of a page that failed verification: free values (log entry 15). -/
def State.failedBytes (s : State) : Nat → List Byte × State
  | 0 => ([], s)
  | n + 1 =>
    let (bs, t) := { s with draws := s.draws + 1 }.failedBytes n
    (Config.failedByte s.draws :: bs, t)

/-- Erase counts of `n` pages from page `k` (R544). -/
def countErases (l : List (Nat × Nat)) (k : Nat) : Nat → List (Nat × Nat)
  | 0 => l
  | n + 1 => countErases (spPut (fun _ => 0) l k (spGet (fun _ => 0) l k + 1)) (k + 1) n

/-- Every page from `a` of `n` bytes reads erased, and readable again. -/
def State.nvmErased (s : State) (a n : Nat) : State :=
  s.modNvm fun v =>
    { v with mem := spClear a (a + n) v.mem
             bad := v.bad.filter fun k => decide (256 * k < a) || decide (a + n ≤ 256 * k)
             scrubBuf := v.scrubBuf.filter fun e => decide (256 * e.1 < a) || decide (a + n ≤ 256 * e.1)
             erases := countErases v.erases (a / 256) (n / 256) }

/-- The programmed pages of a block: those that hold a byte other than 0xFF. -/
def Nvm.blockPages (v : Nvm) (b : Nat) : List Nat := ((v.mem.filter fun e => decide (e.1 / 65536 = b)).map fun e => e.1 / 256).eraseDups

/-- R540: a page has been erased and programmed; its block's age returns to 0 once that holds of each programmed page. -/
def State.pageRenewed (s : State) (k : Nat) : State :=
  s.modNvm fun v =>
    let l := if v.renewed.contains k then v.renewed else v.renewed ++ [k]
    let b := k / 256
    if (v.blockPages b).all fun j => l.contains j then
      { v with renewed := l.filter fun j => decide (j / 256 ≠ b), age := spPut (fun _ => 0) v.age b 0 }
    else { v with renewed := l }

/-- An error in a page of the Onyx region, whose address is a free value (log entry 15). -/
def State.onyxError (s : State) (cause m : Nat) : State :=
  { s with draws := s.draws + 1 }.capture 1 (0x600000 + 256 * (Config.failedPage s.draws % 256)) m 3 3 cause

/-- A page of the Onyx region fails verification: cause 2 or 3. -/
def State.onyxFailed (s : State) (r : ArrayResult) (m : Nat) : State :=
  s.onyxError (if r = ArrayResult.eraseFailed then 3 else 2) m

/-- One page's erase or program fails verification (R414): its contents are free values, and the error is captured with
`cause` 2 or 3 under master `m`. -/
def State.pageFailed (s : State) (a cause m : Nat) : State :=
  let (bs, s) := s.failedBytes 256
  (s.nvmStore (256 * (a / 256)) bs).capture 1 (256 * (a / 256)) m 3 3 cause

/-- An area's erase ends (R107): whole, or up to the page that failed. -/
def State.eraseArea (s : State) (slot area : Nat) (r : ArrayResult) : State :=
  let b := areaBase slot area
  match r with
  | .eraseFailed =>
    let k := Config.failedPage s.draws % (areaSize area / 256)
    ({ s with draws := s.draws + 1 }.nvmErased b (256 * k)).pageFailed (b + 256 * k) 3 0
  | _ => s.nvmErased b (areaSize area)

/-- A page is programmed: its bytes land, or it fails (R414). -/
def State.programPage (s : State) (a : Nat) (data : List Byte) (r : ArrayResult) (m : Nat) : State :=
  match r with
  | .programFailed => s.pageFailed a 2 m
  | _ => (s.nvmStore a data).pageRenewed (a / 256)

/-- The loader pages that still wait are programmed in order. -/
def State.drainPages (s : State) : List NvmOp → State
  | [] => s
  | .page a d :: l => (s.programPage a d .done 0).drainPages l
  | _ :: l => s.drainPages l

/-- `CLOSE_WRITE` completes (R110, R111): what waits, the padded last page, then page 0, whose program `r` judges. -/
def State.closeSession (s : State) (r : ArrayResult) : State :=
  match s.ldr.session with
  | none => s
  | some x =>
    let slot := x.slot.toNat
    let area := x.area.toNat
    let b := areaBase slot area
    let n := x.words / 64
    let s := s.drainPages s.nvm.ops
    let s := s.modNvm fun v => { v with ops := v.ops.filter fun o => !o.isPage }
    let s := if x.page ≠ [] ∧ n ≠ 0 then s.programPage (b + 256 * n) (padTo 256 0 x.page) .done 0 else s
    let s := if x.words = 0 then s
      else s.programPage b (if n = 0 then padTo 256 0 x.page else x.page0) r 0
    let s := s.modLdr fun l => { l with session := none }
    s.modArea slot area fun y => { y with st := if x.words = 0 then .empty else .written }

/-- The tables a patch in a cell keeps for R97 at a `VERIFY` where it carries none: those of its slot's image if that image's header
passes, else none. The spec names a base only for BOOT and for a prepare: the model's choice, log entry 69. -/
def State.baseTables (s : State) (slot : Nat) : Four (Option PdoTables) :=
  if s.judgeHeader slot 0 = 0 then (s.imageAt slot 0).tables else noTables

/-- `VERIFY` completes (R107): the area's state and `CFG_ERR`; in SAFE with cause 0x03 a valid image of slot 1 or 2
authorises one `SAFE_EXIT` for the command's master (R116). -/
def State.verifyArea (s : State) (slot area : Nat) (m : Master) : State :=
  match s.judge slot area (s.baseTables slot) anySec with
  | .ok _ =>
    let s := (s.modArea slot area fun x => { x with st := .valid, err := 0 }).setCfgErr 0 slot area 0
    if area = 0 ∧ slot ≠ 0 ∧ s.mode = .safe ∧ s.rf 0x0107 0 8 = 3 then
      s.modOnx fun o => { o with grant := some { op := 1, arg := 0, master := m }, grantAt := s.cycles }
    else s
  | .bad code sec =>
    let s := s.modArea slot area fun x =>
      { x with st := if x.st = .empty then .empty else .invalid, err := BitVec.ofNat 8 code }
    (s.setCfgErr code slot area sec).nvmUnread slot area anySec code

/-- A running loader command completes with array result `r` (R107, R113, R115, R561). -/
def State.cfgDone (s : State) (r : ArrayResult) : State :=
  match s.ldr.cmd with
  | none => s
  | some c =>
    let slot := c.slot.toNat
    let area := c.area.toNat
    let s := s.modLdr fun l => { l with cmd := none }
    let s := match c.op with
      | .erase =>
        (s.eraseArea slot area r).modArea slot area fun x =>
          { x with st := if r = ArrayResult.eraseFailed then .invalid else .empty }
      | .openWrite =>
        let s := s.eraseArea slot area r
        if r = ArrayResult.eraseFailed then
          (s.modLdr fun l => { l with session := none }).modArea slot area fun x => { x with st := .invalid }
        else s
      | .closeWrite => s.closeSession r
      | .verify => s.verifyArea slot area c.m
      | .commit =>
        match areaCounter slot area with
        | none => s
        | some n =>
          if r = ArrayResult.done then s.setCtr n (max (s.ctr n) (s.area slot area).roll)
          else s.onyxFailed r 1
    let failed := (match c.op with
      | .erase => decide (r = ArrayResult.eraseFailed)
      | .openWrite => decide (r = ArrayResult.eraseFailed)
      | .commit => decide (r ≠ ArrayResult.done)
      | _ => false)
    let s := if c.op = .erase ∨ c.op = .openWrite then s.cellEvent slot area else s
    if failed then s.cfgResult c.m .refused .hardware else s.cfgResult c.m .accepted .none

end Sys2Proof.Machine
end

