-- ==== Sys2Proof/Machine/Rcfg.lean ====
section
/-! DEFINITION. Reconfiguration: staging (R121, R520), the hold and its release (R125 to R136), OFF applies (R137) and the
hub's hold (R138 to R140). During a hold the previous bank keeps acting on the frozen functions and the staged one is
what the registers show; it replaces the previous bank at a release that keeps it. -/
namespace Sys2Proof.Machine

/-- Words of a register range, sparse. -/
def regsIn (lo hi : Nat) (l : List (Nat × Word)) : List (Nat × Word) := l.filter fun e => decide (lo ≤ e.1 ∧ e.1 < hi)

/-- The active bank of a facet. -/
def State.bankOf (s : State) (p : Port) : Bank :=
  let f := s.facet p
  { cfg := f.cfg, pdo := f.pdo, vdm := f.vdm, regs := regsIn (fx p 0) (fx p 0x400) s.regs }

def State.hubBankOf (s : State) : HubBank :=
  { prio := s.hub.prio, parallel := s.hub.parallel, regs := regsIn 0x0800 0x1000 s.regs }

/-- The records of a section applied to a bank's registers (R86, R520). -/
def stageRecs (s : State) (regs : List (Nat × Word)) : List Rec → List (Nat × Word)
  | [] => regs
  | r :: rs => stageRecs s (if r.rtype = 1 then bankPut s regs r.idx r.value else regs) rs

/-- A facet's sections staged over the shadow bank; a patch without a table keeps the present one (R121). -/
def State.stageFacet (s : State) (p : Port) (b : Bank) (g : Img) (base : Bool) : Bank :=
  match g.sec (2 + portNo p) 0 with
  | none => b
  | some c =>
    { cfg := c.facetCfg
      pdo := if base then g.pdo p else (match g.pdo p with | some t => some t | none => b.pdo)
      vdm := if base then g.vdm p else (match g.vdm p with | some t => some t | none => b.vdm)
      regs := stageRecs s b.regs (c.recs 0x10) }

def State.stageHub (s : State) (b : HubBank) (g : Img) : HubBank :=
  match g.sec 6 0 with
  | none => b
  | some c =>
    { prio := c.hubPrio, parallel := c.hubParallel
      regs := stageRecs s b.regs (hubRecs (spGet resetWord b.regs) (c.recs 0x10)) }

/-- The sections a revert of facet `p` takes (R121). -/
def ownSec (p : Port) (c : Sec) : Bool :=
  decide (c.typ = 2 + portNo p) || (decide (c.typ = 8 ∨ c.typ = 9) && decide (c.inst = portNo p))

def hubSec (c : Sec) : Bool := decide (c.typ = 6)

/-- The tables a patch for the facets runs with when it carries none: the present ones (R97, R121). -/
def State.presentTables (s : State) : Four (Option PdoTables) := ⟨s.fa.pdo, s.fb.pdo, s.fc.pdo, s.fd.pdo⟩

/-! ### Prepare -/

/-- A prepare begins (R121, R144). -/
def Rcfg.begin {β : Type} (r : Rcfg β) (base : Bool) (b : β) : Rcfg β :=
  { r with phase := .preparing, base := base, tables := base, pdoTab := base, err := 0, refuse := 0, shadow := some b }

def State.prepareFacet (s : State) (p : Port) (base : Bool) : State :=
  let b := s.bankOf p
  (s.modRc p fun r => r.begin base b).postF p 0x38 (BitVec.ofNat 16 (phaseCode .preparing))

/-- A prepare of the hub begins. `H_RCFG_STAT.TABLES` reads 0 after a hub revert too: R121's words on a revert's `TABLES` are
about a facet, and a hub patch or HUB section carries no tables (the model's choice, log entry 70). -/
def State.prepareHub (s : State) (base : Bool) : State :=
  let b := s.hubBankOf
  (s.modHub fun h => { h with rc := { h.rc.begin base b with tables := false, pdoTab := false } }).postH 0x38
    (BitVec.ofNat 16 (phaseCode .preparing))

/-- A check failed: the shadow bank is discarded (R144). -/
def Rcfg.fail {β : Type} (r : Rcfg β) (code : Nat) : Rcfg β :=
  { r.lapse with phase := .failed, err := BitVec.ofNat 8 code, shadow := none }

/-- Every check passed (R144). -/
def Rcfg.staged {β : Type} (r : Rcfg β) (g : Img) (tables pdo : Bool) (b : β) : Rcfg β :=
  { r with phase := .ready, err := 0, tables := tables, pdoTab := pdo, roll := g.rollback
           version := BitVec.ofNat 32 g.version, shadow := some b }

def Img.hasPdo (g : Img) : Bool := g.secs.any fun c => decide (c.typ = 8)
def Img.hasTables (g : Img) : Bool := g.secs.any fun c => decide (c.typ = 8 ∨ c.typ = 9)

/-- The prepare of a facet ends READY or FAILED (R121); a failure raises its source. -/
def State.prepareDoneF (s : State) (p : Port) : State :=
  let r := (s.facet p).rc
  match r.phase, r.shadow with
  | .preparing, some b =>
    let j := if r.base then s.judge s.bootSlot.toNat 0 noTables (ownSec p)
      else s.judge s.bootSlot.toNat (1 + portNo p) s.presentTables anySec
    match j with
    | .ok g =>
      let b := s.stageFacet p b g r.base
      (s.modRc p fun r => r.staged g (r.base || g.hasTables) (r.base || g.hasPdo) b).postF p 0x38 2
    | .bad code _ =>
      let s := if r.base then s.nvmUnread s.bootSlot.toNat 0 (ownSec p) code
        else s.nvmUnread s.bootSlot.toNat (1 + portNo p) anySec code
      ((s.modRc p fun r => r.fail code).postF p 0x38 5).fault (portNo p) 0x11 code
  | _, _ => s

def State.prepareDoneH (s : State) : State :=
  let r := s.hub.rc
  match r.phase, r.shadow with
  | .preparing, some b =>
    let j := if r.base then s.judge s.bootSlot.toNat 0 noTables hubSec else s.judge s.bootSlot.toNat 5 noTables anySec
    match j with
    | .ok g =>
      let b := s.stageHub b g
      (s.modHub fun h => { h with rc := h.rc.staged g false false b }).postH 0x38 2
    | .bad code _ =>
      let s := if r.base then s.nvmUnread s.bootSlot.toNat 0 hubSec code else s.nvmUnread s.bootSlot.toNat 5 anySec code
      (s.modHub fun h => { h with rc := h.rc.fail code }).postH 0x38 5
  | _, _ => s

/-! ### Swapping banks -/

/-- The registers of a bank take effect, each that differs, in rising index (R520); `n` indices from `i`. -/
def State.swapIn (s : State) (regs : List (Nat × Word)) (i : Nat) : Nat → State
  | 0 => s
  | n + 1 =>
    let s := if bankField i && decide (spGet resetWord regs i ≠ s.reg i) then s.storeRw i (spGet resetWord regs i) else s
    s.swapIn regs (i + 1) n

/-- A bank whose swap may not change the bus keeps the present one (R269). -/
def State.busKept (s : State) (p : Port) (regs : List (Nat × Word)) : List (Nat × Word) :=
  let i := fx p 0x142
  if s.selBlocked p (s.rf i 21 1) (spGet resetWord regs i) then
    spPut resetWord regs i (keep (s.reg i) (spGet resetWord regs i) 21 1)
  else regs

/-- The bank keeps the present bus where the swap may not change it, and says so (R269). -/
def State.swapBlocked (s : State) (p : Port) (regs : List (Nat × Word)) : State :=
  let i := fx p 0x142
  if s.selBlocked p (s.rf i 21 1) (spGet resetWord regs i) then s.orReg (fx p 0x145) (flag 8 true) else s

def State.applyBank (s : State) (p : Port) (b : Bank) : State :=
  let s := s.modF p fun f => { f with cfg := b.cfg, pdo := b.pdo, vdm := b.vdm }
  (s.swapBlocked p b.regs).swapIn (s.busKept p b.regs) (fx p 0) 0x400

def State.applyHubBank (s : State) (b : HubBank) : State :=
  (s.modHub fun h => { h with prio := b.prio, parallel := b.parallel }).swapIn b.regs 0x0800 0x800

/-- What a successful apply marks: `CFG_PATCHED` and the cell in use (R135). -/
def State.markPatched (s : State) (area : Nat) (base : Bool) (roll : Nat) : State :=
  let k := flag (area - 1) true
  let s := if base then s.clrReg 0x020C k else s.orReg 0x020C k
  (s.modArea s.bootSlot.toNat area fun x => { x with inUse := !base, roll := if base then x.roll else roll }).fillSel

/-- The writes held during the hold take effect (R521). -/
def State.applyHeld (s : State) : List (Nat × Word) → State
  | [] => s
  | e :: es => (s.storeRw e.1 e.2).applyHeld es

/-- The journal record of a hold (R135): unit, outcome, `ERR` or `ABORT`, version, length in µs. -/
def State.jrnHold (s : State) (unit : Nat) (ph : Phase) (code version us : Nat) : State :=
  s.jrn 0x05 ([BitVec.ofNat 8 unit, BitVec.ofNat 8 (phaseCode ph), BitVec.ofNat 8 code] ++ leBytes 4 version ++ leBytes 2 us)

/-! ### A port facet's hold -/

/-- The hold begins (R125). -/
def State.holdFacet (s : State) (p : Port) : State :=
  let now := s.cycles
  let s := s.modRc p fun r =>
    { r with phase := .holding, abort := 0, refuse := 0, err := 0, held := [], start := now, deferred := none, late := [] }
  (s.setFState p .held).postF p 0x38 3

/-- Contents applied are the last applied from now on; others have lapsed (R143). -/
def Rcfg.ended {β : Type} (r : Rcfg β) (applied : Bool) : Rcfg β :=
  if applied then { r with last := (r.base, r.tables, r.version) } else r.lapse

/-- The bank and the block's registers at the end of a hold with outcome `ph` (R130, R135, R136). -/
def State.endHoldF (s : State) (p : Port) (ph : Phase) (err abort : Nat) : State :=
  let r := (s.facet p).rc
  let us := min 65535 ((s.cycles - r.start) / 96)
  let s := s.modRc p fun x =>
    { x.ended (decide (ph = .applied)) with
      phase := ph, err := BitVec.ofNat 8 err, abort := BitVec.ofNat 4 abort, holdUs := BitVec.ofNat 16 us, shadow := none
      held := [] }
  let s := match ph, r.shadow with
    | .applied, some b => (s.applyBank p b).markPatched (1 + portNo p) r.base r.roll
    | _, _ => s
  let s := s.applyHeld r.held
  let s := s.jrnHold (portNo p) ph (if ph = .aborted then abort else err) r.version.toNat us
  let s := if ph = .applied then s else s.fault (portNo p) 0x11 (err + 256 * abort)
  s.postF p 0x38 (BitVec.ofNat 16 (phaseCode ph))

/-- The state a released facet takes (R39, R132): QUARANTINED, TRIPPED under the floor latch, or LIVE. -/
def State.leaveHold (s : State) (p : Port) : State :=
  let f := s.facet p
  if f.qPending then (s.modF p fun f => { f with qPending := false }).leave p .quarantined
  else if f.pp.floorLatch then s.setFState p .tripped
  else s.setFState p .live

/-- The frozen values are computed afresh (R125). -/
def State.thaw (s : State) (p : Port) : State :=
  let s := ((s.refreshIlim p).refreshRp p).refreshVconn p
  let s := if (s.facet p).ct.contract then s else s.modPd p fun d => { d with pdEn := s.bit (fx p 0x080) 0 }
  s.refreshDisch p

/-- The deferred message is answered under the section in force (R128); it is gone when the facet is not attached. -/
def State.answerDeferred (s : State) (p : Port) : State :=
  let m := (s.facet p).rc.deferred
  let s := s.modRc p fun r => { r with deferred := none }
  match m with
  | some m => if (s.facet p).cc.attached then s.handleMsg p m else s
  | none => s

/-- R133, R134: an attached source registers its power request afresh, its grant withdrawn and a new offer owed where PDO tables
were staged; a sink then asks for the partner's capabilities. -/
def State.renewContract (s : State) (p : Port) (pdoTab : Bool) : State :=
  let f := s.facet p
  if !f.cc.attached then s
  else if f.ct.prole then
    if pdoTab then (s.requestGrant p).modCt p fun c => { c with offerOwed := true, offerFast := true } else s.registerGrant p
  else if pdoTab then s.modCt p fun c => { c with startup := .getCaps :: c.startup }
  else s

/-- An unattached facet starts afresh where its Type-C state is none of its section's role (R178). -/
def State.rehome (s : State) (p : Port) : State :=
  let f := s.facet p
  let bad := (decide (f.cfg.role = 1) && !f.cc.asSink && decide (f.cc.tc = .unattachedSnk ∨ f.cc.tc = .attachWaitSnk))
    || (decide (f.cfg.role = 0) && decide (f.cc.tc = .unattachedSrc ∨ f.cc.tc = .attachWaitSrc))
  if bad then s.enterTc p f.homeState else s

/-- Release after verification, rollback or abort (R132). -/
def State.releaseF (s : State) (p : Port) (ph : Phase) (err abort : Nat) : State :=
  let pdoTab := (s.facet p).rc.pdoTab && decide (ph = .applied)
  let s := s.endHoldF p ph err abort
  let s := s.leaveHold p
  if (s.facet p).fstate = .quarantined then s.cfgWaiting
  else
    let s := ((s.thaw p).ccLate p).rehome p
    let s := ((s.answerDeferred p).renewContract p pdoTab).idleTx p
    s.cfgWaiting

/-- Verification of a facet's hold ends (R129, R130). -/
def State.verifyF (s : State) (p : Port) (v : Verify) : State :=
  if (s.facet p).rc.phase ≠ .holding then s
  else match v with
    | .pass => s.releaseF p .applied 0 0
    | .mismatch => s.releaseF p .rolledBack 0x20 0
    | .selfCheck => s.releaseF p .rolledBack 0x21 0
    | .timeout => s.releaseF p .rolledBack 0x22 0

/-- An event of R136 aborts the hold. A Hard Reset or FR_Swap signal leaves no deferred message. -/
def State.abortHold (s : State) (p : Port) (code : Nat) : State :=
  if (s.facet p).rc.phase ≠ .holding then s
  else
    let s := if code ≤ 2 then s.modRc p fun r => { r with deferred := none } else s
    s.releaseF p .aborted 0 code

/-- SAFE entry and a brown-out end the hold with code 5; the facet's state is theirs to set (R70, R72, R136). -/
def State.cutHold (s : State) (p : Port) : State :=
  match (s.facet p).rc.phase with
  | .holding => (s.modRc p fun r => { r with deferred := none, late := [] }).endHoldF p .aborted 0 5
  | _ => s

/-! ### An OFF facet -/

/-- An OFF facet presents Rd, dead-battery Rd where its section declares it absent. -/
def State.offTerm (s : State) (p : Port) : State :=
  s.present p (if (s.facet p).cfg.present then .rd else .deadRd)

/-- An accepted apply on an OFF facet swaps the banks at once (R137); the previous one is kept for a rollback. -/
def State.offApplyStart (s : State) (p : Port) : State :=
  match (s.facet p).rc.shadow with
  | some b =>
    let old := s.bankOf p
    (s.modRc p fun r => { r with offApply := true, refuse := 0, shadow := some old }).applyBank p b |>.offTerm p
  | none => s

/-- The verification of an apply on an OFF facet ends (R137): APPLIED, or the previous bank back and ROLLED_BACK. -/
def State.offApplyDone (s : State) (p : Port) (v : Verify) : State :=
  let r := (s.facet p).rc
  match r.offApply, r.shadow with
  | true, some b =>
    match v with
    | .pass =>
      let s := s.markPatched (1 + portNo p) r.base r.roll
      (s.modRc p fun r => { r.ended true with offApply := false, shadow := none, phase := .applied, err := 0, abort := 0 }).postF
        p 0x38 4
    | v =>
      let e := if v = .mismatch then 0x20 else if v = .selfCheck then 0x21 else 0x22
      let s := s.applyBank p b
      let s := if (s.facet p).fstate = .off then s.offTerm p else s
      let s := s.modRc p fun r =>
        { r.ended false with offApply := false, shadow := none, phase := .rolledBack, err := BitVec.ofNat 8 e, abort := 0 }
      (s.postF p 0x38 6).fault (portNo p) 0x11 e
  | _, _ => s

/-! ### The hub's hold -/

def State.holdHub (s : State) : State :=
  let now := s.cycles
  let s := s.modHub fun h =>
    { h with rc := { h.rc with phase := .holding, abort := 0, refuse := 0, err := 0, held := [], start := now } }
  (s.setHubState .held).postH 0x38 3

/-- What the hub's hold kept from an owner's contract follows now: the setpoint of a transition that began in it (R138, R244) and a PPS
contract's limit (R239). -/
def State.resumeRamps (s : State) : State :=
  allPorts.foldl (fun s p =>
    let f := s.facet p
    if !s.owner p then s
    else match f.pd.seq with
      | .srcRamp r => (s.hubVset (s.busOf p) r.mv).ppsLimit p r
      | _ => if f.ct.contract then s.ppsLimit p f.ct.now else s) s

/-- The end of a hub hold (R140): at a kept bank the feed settings, the battery and the effective values follow. -/
def State.endHoldH (s : State) (ph : Phase) (err abort : Nat) : State :=
  let r := s.hub.rc
  let us := min 65535 ((s.cycles - r.start) / 96)
  let s := s.modHub fun h =>
    { h with rc := { h.rc.ended (decide (ph = .applied)) with
                     phase := ph, err := BitVec.ofNat 8 err, abort := BitVec.ofNat 4 abort, holdUs := BitVec.ofNat 16 us
                     shadow := none, held := [] } }
  let s := s.setHubState .live
  let s := match ph, r.shadow with
    | .applied, some b => (s.applyHubBank b).markPatched 5 r.base r.roll
    | _, _ => s
  let s := s.applyHeld r.held
  let s := if ph = .applied then
      let s := s.modHub fun h =>
        { h with feed1 := { h.feed1 with cfg := s.reg 0x0880 }, feed2 := { h.feed2 with cfg := s.reg 0x0881 } }
      (s.configureBat.refreshBat).judgeWm
    else s.refreshBat
  let s := ((s.refreshConv .cv1 (s.droopOf .cv1)).refreshConv .cv2 (s.droopOf .cv2)).resumeRamps
  let s := s.jrnHold 4 ph (if ph = .aborted then abort else err) r.version.toNat us
  s.postH 0x38 (BitVec.ofNat 16 (phaseCode ph))

def State.verifyH (s : State) (v : Verify) : State :=
  if s.hub.rc.phase ≠ .holding then s
  else (match v with
    | .pass => s.endHoldH .applied 0 0
    | .mismatch => s.endHoldH .rolledBack 0x20 0
    | .selfCheck => s.endHoldH .rolledBack 0x21 0
    | .timeout => s.endHoldH .rolledBack 0x22 0).cfgWaiting

/-- SAFE entry and a brown-out end a hub hold (R140). -/
def State.cutHoldH (s : State) : State :=
  match s.hub.rc.phase with
  | .holding => s.endHoldH .aborted 0 5
  | _ => s

end Sys2Proof.Machine
end

