-- ==== Sys2Proof/Machine/Array.lean ====
section
/-! DEFINITION. The operations of the NVM array (R515): what each leaves when it ends, the queue drained without failure
before a power-down or a reboot, and the ledger record (R546). -/
namespace Sys2Proof.Machine

/-- Erase and program one page (R414, R540); a failure leaves free values and is captured with master `m`. -/
def State.rewritePage (s : State) (page : Nat) (data : List Byte) (r : ArrayResult) (m : Nat) : State :=
  let s := s.nvmErased (256 * page) 256
  match r with
  | .eraseFailed => s.pageFailed (256 * page) 3 m
  | _ => s.programPage (256 * page) data r m

/-- A journal record is programmed; the first of a page has the page erased (R446). A failure is "journal record not
written" (R415, table of capture causes). -/
def State.programRecord (s : State) (rec : List Byte) (a : Nat) (r : ArrayResult) : State :=
  let s := if a % 256 = 0 then s.nvmErased a 256 else s
  match r with
  | .done => (s.nvmStore a rec).pageRenewed (a / 256)
  | _ => s.pageFailed a 5 8

/-- The ledger's registers (R547), those that read other than 0. -/
def State.ledgerRegs (s : State) : List (Nat × Word) := s.regs.filter fun e => decide (0x0020 ≤ e.1 ∧ e.1 < 0x0040)

/-- The ledger as it stands goes into its record (R546). -/
def State.ledgerSaved (s : State) : State := s.modNvm fun v => { v with ledger := { regs := s.ledgerRegs, eqh := v.eqh } }

/-- Put a list of registers in place. -/
def State.putRegs (s : State) : List (Nat × Word) → State
  | [] => s
  | e :: es => (s.setReg e.1 e.2).putRegs es

/-- The ledger is restored at BOOT, before the mode becomes RUN (R517, R546), but for the fields that R547 resets. -/
def State.ledgerLoaded (s : State) : State :=
  let s := s.putRegs s.nvm.ledger.regs
  let s := (s.clrReg 0x0023 0xFFFF).clrReg 0x0028 0xF000
  s.modNvm fun v => { v with eqh := v.ledger.eqh }

/-- Report an NVM command (R513, R554). -/
def State.nvmResult (s : State) (m : Master) (r : Res) (why : Reason) : State :=
  s.setReg 0x0603 (statWord (resCode r) why 0 m)

/-- Report a `FLUSH` that completes; that of SENTINEL entry answers no command. -/
def State.flushResult (s : State) : Option Master → State
  | some m => s.nvmResult m .accepted .none
  | none => s

/-- Master of a user-area operation: the command's, or 8 for the controller's own (R422). -/
def opMaster : Option Master → Nat
  | some m => masterId m
  | none => 8

/-- R541: a scrub step rewrites its page and marks its buffer entry done; the block is scrubbed once each programmed page has been. -/
def State.scrubbed (s : State) (b k : Nat) (r : ArrayResult) : State :=
  match r with
  | .done =>
    let s := (s.modNvm fun v => { v.scrubFinish k with erases := countErases v.erases k 1 }).pageRenewed k
    if spGet (fun _ => 0) s.nvm.age b = 0 then
      (s.modNvm fun v => { v with warned := v.warned.filter fun x => decide (x ≠ b) }).count 0x002D 16 16
    else s
  | .programFailed => s.capture 1 (256 * k) 8 3 3 2
  | .eraseFailed => s.capture 1 (256 * k) 8 3 3 3

/-- An array operation ends with result `r` (R47, R555 for quarantine records). A record's own failure is captured with
master 8, that of the user area with the command's master (R422). -/
def State.opDone (s : State) (r : ArrayResult) : NvmOp → State
  | .journal rec a => s.programRecord rec a r
  | .page a d => s.programPage a d r 0
  | .quarantine p x =>
    if r = .done then s.modF p fun f => { f with qRecord := x } else s.onyxError 4 8
  | .gauge => if r = .done then s else s.onyxFailed r 8
  | .ledger => if r = .done then s.ledgerSaved else s.onyxFailed r 8
  | .flush m =>
    match s.nvm.buf with
    | none => s
    | some (k, d) =>
      let s := s.rewritePage k d r (opMaster m)
      ((s.modNvm fun v => { v with buf := none }).orReg 0x0604 (flag 2 true)).flushResult m
  | .eraseUser k m =>
    let s := if r = .eraseFailed then s.pageFailed (256 * k) 3 (masterId m) else s.nvmErased (256 * k) 256
    s.nvmResult m .accepted .none
  | .scrub b k => s.scrubbed b k r

/-- Operations that a condition selects end without failure, in order; the rest stay queued. -/
def State.drainOps (s : State) (take : NvmOp → Bool) : State :=
  let l := s.nvm.ops
  let s := s.modNvm fun v => { v with ops := v.ops.filter fun o => !take o }
  (l.filter take).foldl (fun s o => s.opDone .done o) s

/-- The queued records the brown-out sequence still programs (R72, R567); the journal's closing records follow them. -/
def NvmOp.closing : NvmOp → Bool
  | .quarantine _ _ => true | .gauge => true
  | .journal _ _ => false | .page _ _ => false | .ledger => false | .flush _ => false | .eraseUser _ _ => false
  | .scrub _ _ => false

def NvmOp.isJournal : NvmOp → Bool
  | .journal _ _ => true
  | _ => false

/-- The 64 bytes of a journal record. -/
def State.jrnRec (s : State) (n : Nat) : List Byte := s.nvmBytes (jrnAddr n) 64

/-- `TAG` of the last of `n` records (R449). -/
def State.tagOf (s : State) (n : Nat) : List Byte := if n = 0 then List.replicate 16 0 else (s.jrnRec (n - 1)).drop 48

/-- The last `k` records were discarded before they were programmed: the chain goes on from the one before (log entry 62). -/
def State.jrnDropped (s : State) (k : Nat) : State :=
  if k = 0 then s
  else
    let n := s.onx.jrnCount - k
    let t := s.tagOf n
    s.modOnx fun o => { o with jrnCount := n, jrnTag := t, sinceSeal := o.sinceSeal - k }

/-- A scrub step that the brown-out cuts short: its page is erased, and its copy stands in the scrub buffer, not marked done (R541,
R542, log entry 51). -/
def State.scrubCut (s : State) (k : Nat) : State :=
  let d := s.nvmBytes (256 * k) 256
  (s.nvmErased (256 * k) 256).modNvm fun v => { v with scrubBuf := v.scrubBuf ++ [(k, d)] }

/-- What the array does in a brown-out with the operation that runs (R515, R567): it ends; of a scrub step, its erase does. -/
def State.opCut (s : State) : NvmOp → State
  | .scrub _ k => s.scrubCut k
  | o => s.opDone .done o

/-- The scrub steps whose entries are not marked done are ordered again as BOOT ends, ahead of any new one (R542). -/
def State.scrubResume (s : State) : State :=
  let again := fun (s : State) (e : Nat × List Byte) =>
    let o := NvmOp.scrub (e.1 / 256) e.1
    if s.nvm.ops.contains o then s else s.nvmQueue o
  s.nvm.scrubBuf.foldl again s

/-- R567: the running operation ends, the records are programmed, every other queued operation is discarded. -/
def State.brownOutOps (s : State) : State :=
  match s.nvm.ops with
  | [] => s
  | o :: l =>
    let k := (l.filter NvmOp.isJournal).length
    let s := { s with nvm := { s.nvm with ops := l.filter NvmOp.closing } }.opCut o
    (s.jrnDropped k).drainOps fun _ => true

end Sys2Proof.Machine
end

