-- ==== Sys2Proof/Machine/Modes.lean ====
section
/-! DEFINITION. The device modes (R50 to R74): entry to BOOT, the image taking control, SAFE, the brown-out sequence, and
SENTINEL entry and wake. -/
namespace Sys2Proof.Machine

def State.modeResult (s : State) (m : Master) (r : Res) (why : Reason) : State :=
  s.setReg 0x0102 (statWord (resCode r) why 0 m)

/-! ### Entry to BOOT -/

/-- A facet on entry to BOOT (R39, R40, R47, R61, R517): its reset state, QUARANTINED where it was or where a record stands. -/
def Facet.boot (f : Facet) : Facet :=
  { Facet.reset with
    fstate := if f.qRecord || decide (f.fstate = .quarantined) then .quarantined else .off
    cc := { Cc.reset with pins := f.cc.pins, ov1 := f.cc.ov1, ov2 := f.cc.ov2 }
    pp := { Pp.reset with below := f.pp.below }
    qRecord := f.qRecord }

/-- R436: the actions of decommissioning hold once counter 8 reads 3. -/
def Onx.lifecycle (o : Onx) (lc : Nat) : Onx :=
  if lc = 3 then
    let rev : KeySlot → KeySlot := fun k => match k with | .enabled _ => .revoked | x => x
    { o with keys := { o.keys with img0 := rev o.keys.img0, img1 := rev o.keys.img1, img2 := rev o.keys.img2
                                   img3 := rev o.keys.img3, svc0 := rev o.keys.svc0, svc1 := rev o.keys.svc1 }
             idk := none, jk := none }
  else o

/-- Onyx on entry to BOOT: keys, counters and the journal's head last, everything volatile is at its reset (R517). -/
def Onx.boot (o : Onx) (lc : Nat) : Onx :=
  { (o.lifecycle lc) with
    nonce := none, grant := none, rejects := 0, lockout := false, owner := none, cmd := none, waiting := [], alarm := 0
    alarmLock := false, rngOk := false, selfTest := false, dbgEn := false, jrnOpen := false, lastJrnWrite := none, nonceAt := 0, grantAt := 0, lockAt := 0
    ownerAt := 0, vfyDone := false, vfyOk := false, breaks := 0 }

/-- R452: the head record's `TAG` checks against its predecessor. -/
def State.headOk (s : State) : Bool :=
  let n := s.onx.jrnCount
  n = 0 ||
    (let prev := s.tagOf (n - 1)
     let r := s.jrnRec (n - 1)
     decide (r.drop 48 = leBytes 16 (Config.sha256 (prev ++ r.take 48)).toNat))

/-- A torn last record is to be overwritten (R452). -/
def State.jrnHeadFound (s : State) : State :=
  let n := s.onx.jrnCount
  if s.headOk then s
  else s.modOnx fun o => { o with jrnCount := n - 1, jrnTag := s.tagOf (n - 1) }

/-- `LAST_CAUSE` of record `n` as a CLOSE record, 4 for any other type (R452). -/
def State.closeCause (s : State) (n : Nat) : Nat :=
  let r := s.jrnRec n
  if le r 0 1 ≠ 2 then 4
  else
    let c := le r 0x14 1
    if c = 0 then 5 else c

/-- `MODE_BOOT_REC.LAST_CAUSE` (R452). -/
def State.lastCause (s : State) : Nat :=
  let n := s.onx.jrnCount
  if n = 0 then 0
  else if le (s.jrnRec (n - 1)) 0 1 = 0x0C ∧ 2 ≤ n then s.closeCause (n - 2)
  else s.closeCause (n - 1)

/-- The lowest-lettered port with a valid VBUS (R57). -/
def firstValid (v : Four Bool) : Port := if v.a then .a else if v.b then .b else if v.c then .c else if v.d then .d else .a

/-- What a loader command or a write session leaves when it is cut short (R110, R567): page 0 of an area whose erase had
begun is erased, and the rest of the work is gone (log entry 63). -/
def State.loaderCut (s : State) : State :=
  let s := match s.ldr.cmd with
    | some c =>
      if c.op = LdrOp.erase ∨ c.op = LdrOp.openWrite then s.nvmErased (areaBase c.slot.toNat c.area.toNat) 256 else s
    | none => s
  s.modLdr fun l => { l with cmd := none, waiting := none, session := none, reload := false }

/-- The value `LC_ADVANCE` to 2 locked stands in `SEAL_N` (R18, R459; log entry 84). -/
def State.sealKept (s : State) : State :=
  match s.onx.sealLock with
  | some n => if s.lc = 2 then s.setReg 0x0313 (fw 0 n) else s
  | none => s

/-- Entry to BOOT (R9, R50, R517): `entry` is `GLB_RESET_STAT.ENTRY`. What the spec keeps is kept: NVM, keys, counters,
the inputs' levels, the scratch words but after power-on; everything else is at its reset, commands that await their
evaluation among it (R552, log entry 85). The loader sets the area states and `CFG_SEL_*` (R107, R517). The boot port of R57 is the lowest-lettered
port whose VBUS is valid at this entry to BOOT (log entry 64 for entries without a power-on reset). -/
def State.enterBoot (s : State) (entry : Nat) : State :=
  let s := (s.loaderCut.drainOps fun o => !o.isPage).jrnHeadFound
  let t : State :=
    { State.reset with
      pending := s.pending, draws := s.draws, sense := s.sense, tmode := s.tmode
      vbusOk := s.vbusOk, batOk := s.batOk, auxOk := s.auxOk
      dbBoot := !s.batOk && !s.auxOk, bootPort := firstValid s.vbusOk
      fa := s.fa.boot, fb := s.fb.boot, fc := s.fc.boot, fd := s.fd.boot
      hub := { Hub.reset with bat := { Bat.reset with record := s.hub.bat.record, removedSince := s.hub.bat.removedSince
                                                      lockoutLatch := s.hub.bat.lockoutLatch } }
      onx := s.onx.boot s.lc
      nvm := { s.nvm with buf := none, ops := [] }
      lap := { Lap.reset with sram := if entry = 0 then [] else s.lap.sram }
      gpio := { Gpio.reset with level := s.gpio.level } }
  let t := t.setCtr 6 (s.ctr 6 + 1)
  let t := if entry = 0 then t else (t.setReg 0x0006 (s.reg 0x0006)).setReg 0x0007 (s.reg 0x0007)
  let t := (t.setReg 0x0004 (fw 0 entry)).setReg 0x0106 (fw 0 s.lastCause)
  let t := (((t.refreshFacet .a).refreshFacet .b).refreshFacet .c).refreshFacet .d
  t.sealKept.scanInit.fillSel

/-! ### The image takes control -/

/-- A converter begins to start in cycle `now` (R316): its ramp begins at the present bus voltage `mv`. -/
def Cv.starting (mv now : Nat) (v : Cv) : Cv :=
  { v with st := .starting, charge := false, peaks := 0, acted := false, cc := false, batlim := false
           slewMv := max 1 mv, slewAt := now, startAt := now }

/-- A converter stops switching and loses its bias (R316). -/
def Cv.off (v : Cv) : Cv := { v with st := .off, charge := false, peaks := 0, cc := false, batlim := false, cnt := 0 }

def Cv.standby (v : Cv) : Cv := { v with st := .standby, charge := false, peaks := 0, cc := false, batlim := false, cnt := 0 }

/-- Change a converter, and with it the one that mirrors it (R320). -/
def State.bothCv (s : State) (c : Conv) (g : Cv → Cv) : State :=
  if s.hub.parallel then (s.modCv .cv1 g).modCv .cv2 g else s.modCv c g

/-- `START` at commit (R316). -/
def State.startConv (s : State) (c : Conv) : State :=
  let s := s.unlose (s.convBus c) 6
  if s.hub.parallel && decide (c = .cv2) then s
  else match s.rf (convBase c) 16 2 with
    | 1 => s.bothCv c Cv.standby
    | 2 => s.bothCv c (Cv.starting (s.nbus (s.convBus c)) s.cycles)
    | _ => s

/-- At the handover of CC control a facet starts from the levels it classifies at that moment (R191). -/
def State.ccStart (s : State) (p : Port) : State :=
  let f := s.facet p
  s.modCc p fun c => { c with lvl1 := f.heard p false, lvl2 := f.heard p true, unheard := false }

def State.ccStartAll (s : State) : State := (((s.ccStart .a).ccStart .b).ccStart .c).ccStart .d

/-- The boot port of a dead-battery BOOT goes LIVE as a sink at 5 V (R58, R191); an absent one stays OFF (R59). -/
def State.bootPortLive (s : State) : State :=
  let p := s.bootPort
  if s.dbBoot && (s.facet p).cfg.present then
    let s := (s.setFState p .live).modCc p fun c => { c with asSink := true }
    let s := if (s.facet p).rpOne && s.vbusOk.get p then s.attachSnk p else s.enterTc p .unattachedSnk
    s.modCt p fun c => { c with only5v := true }
  else s

/-- A present OFF port presents Rd at the handover, an absent one dead-battery Rd (R61). -/
def State.handTerm (s : State) (p : Port) : State :=
  if (s.facet p).fstate = .live then s
  else s.present p (if (s.facet p).cfg.present then .rd else .deadRd)

/-- The BOOT record (R451): slot, `DB_BOOT`, `BOOT_PORT`, image version, `CFG_PATCHED`, lifecycle. -/
def State.jrnBoot (s : State) (version : Nat) : State :=
  s.jrn 0x01 ([BitVec.ofNat 8 s.bootSlot.toNat, if s.dbBoot then 1 else 0, BitVec.ofNat 8 (portNo s.bootPort)]
    ++ leBytes 4 version ++ [BitVec.ofNat 8 (s.rf 0x020C 0 5), BitVec.ofNat 8 s.lc])

/-- CELL_REJECT records of the booted slot's cells from area `a` of the next `n` (R105). -/
def State.jrnRejects (s : State) (slot a : Nat) : Nat → State
  | 0 => s
  | n + 1 =>
    let x := s.area slot a
    let s := if x.err ≠ 0 then s.jrn 0x06 [BitVec.ofNat 8 slot, BitVec.ofNat 8 a, x.err] else s
    s.jrnRejects slot (a + 1) n

/-- The journal opens in PROVISIONED lifecycles (R451). -/
def State.jrnOpened (s : State) (slot version : Nat) : State :=
  if s.lc = 1 ∨ s.lc = 2 then
    ((s.modOnx fun o => { o with jrnOpen := true }).jrnBoot version).jrnRejects slot 1 5
  else s

/-- Onyx's self-test has passed (R429). -/
def State.selfTested (s : State) : State :=
  let lc := s.lc
  s.modOnx fun o => { o with selfTest := true, rngOk := true, dbgEn := decide (lc = 0) }

/-- What the boot scan chose takes control (R53, R106, R451): sections committed, the hub LIVE, converters as `START`
says, the boot port handed over, Lapidary released at its reset vector, the journal opened. -/
def State.takeControl (s : State) (d : Found) : State :=
  let s := { s.ledgerLoaded with bootSlot := BitVec.ofNat 2 d.slot, imgAuth := true }.commitAll d
  let s := s.modLdr fun l => { l with booting := false }
  let s := s.setHubState .live
  let s := (s.startConv .cv1).startConv .cv2
  let s := s.ccStartAll.bootPortLive
  let s := (((s.handTerm .a).handTerm .b).handTerm .c).handTerm .d
  let s := { s with mode := .run }.scrubResume
  let s := s.modLap fun l => { l with run := .running, pc := l.entry }
  (s.jrnOpened d.slot d.img.version).fillSel

/-! ### SAFE -/

/-- Every converter off, a charge in progress suspended (R70, R316). -/
def State.convsOff (s : State) : State :=
  let s := if s.hub.bat.phase.active then s.stopCharge .suspended else s
  let s := (s.modCv .cv1 Cv.off).modCv .cv2 Cv.off
  s.modHub fun h => { h with feed1 := { h.feed1 with gap := false }, feed2 := { h.feed2 with gap := false } }

/-- A facet leaves for OFF with active Rd; a QUARANTINED one, or one with a quarantine pending from its hold, is
QUARANTINED (R70, R72). Its discharge runs (R61). -/
def State.portSafe (s : State) (p : Port) : State :=
  let s := s.cutHold p
  let f := s.facet p
  let s := if f.fstate = .quarantined then s else s.leave p (if f.qPending then .quarantined else .off)
  let s := s.modPp p fun x => { x with disch := if x.disch = .strong then .strong else .bleeder }
  (s.modF p fun f => { f with qPending := false }).present p .rd

def State.portsSafe (s : State) : State := (((s.portSafe .a).portSafe .b).portSafe .c).portSafe .d

/-- Lapidary is held in reset. -/
def State.lapReset (s : State) : State := s.modLap fun l => { l with run := .reset, dbgCause := 0, wdCount := 0 }

/-- An `ENTER_SENTINEL` that waits for its completion is cancelled (R64). -/
def State.sentCancel (s : State) : State :=
  match s.sentEntry with
  | .none => s
  | .waitTick m => { s with sentEntry := .none }.modeResult m .refused .precondition
  | .calibrating m => { s with sentEntry := .none }.modeResult m .refused .precondition

/-- Every enabled monitor that R65 had powered down powers up, `n` of them from 0 (R375). -/
def State.wmPowerAll (s : State) : Nat → State
  | 0 => s
  | n + 1 =>
    let s := s.wmPowerAll n
    let w := s.reg (0x0400 + 4 * n)
    if fld w 11 3 ≠ 0 ∧ fld w 11 3 ≠ 5 ∧ (w.getLsbD 17 || w.getLsbD 16) = true then s.wmPowerUp n (w.getLsbD 17) (w.getLsbD 16) else s

/-- `CLK` runs from SENTINEL on, and the next boundary falls one tick length later (R550). -/
def State.clkUp (s : State) : State :=
  let s := if s.mode = .sentinel then { s with nextTick := s.cycles + s.rf 0x0010 8 6 * 24000, burst := none } else s
  { s with clkStopped := false }

/-- Entry to SAFE (R70): nothing changes in SAFE itself and in COLD. A loader command that waited for a hold to end is judged
(R142). -/
def State.enterSafe (s : State) (cause cls block : Nat) : State :=
  if s.mode = .safe ∨ s.mode = .cold then s
  else
    let s := s.sentCancel
    let s := if s.mode = .boot then { s.ledgerLoaded with ldr := { s.ldr with booting := false } }.ccStartAll.scrubResume else s
    let s := if s.mode = .sentinel then s.wmPowerAll 32 else s
    let s := ((s.clkUp.cutHoldH.portsSafe).convsOff).lapReset
    let s := s.modHub fun h => { h with en0 := false, en1 := false, frozen := false }
    let s := s.modGpio fun g => { g with released := 0xF }
    let s := { s with mode := .safe }.cfgWaiting
    let w := fw 0 cause ||| fw 8 cls ||| fw 12 block
    (s.setReg 0x0107 w).jrn 0x03 (leBytes 4 w.toNat)

/-! ### Brown-out -/

/-- A CLOSE record with its SEAL, and the journal closed (R451). -/
def State.jrnClose (s : State) (cause : Nat) : State :=
  if s.onx.jrnOpen then
    let s := (s.jrnRaw 0x02 0 [BitVec.ofNat 8 cause]).jrnSeal
    s.modOnx fun o => { o with jrnOpen := false }
  else s

/-- GPWM off, the loader's and Onyx's work cut short (R72, R567); `VIO_OUT` is off while the warning stands. -/
def State.outputsOff (s : State) : State :=
  let s := s.modHub fun h => { h with en0 := false, en1 := false, frozen := false, auxOn := false }
  (s.modOnx fun o => { o with cmd := none, waiting := [] }).loaderCut

/-- The gauge record of a brown-out (R356). -/
def State.lastGauge (s : State) : State := if s.hub.bat.st = .unconfigured then s else s.gaugeRecord

/-- The brown-out sequence up to the journal's close (R72, R514, R567). -/
def State.brownOut (s : State) : State :=
  let s := s.sentCancel
  let s := { s.clkUp with bow := true }.orReg 0x0108 (flag 6 true)
  let s := ((s.cutHoldH.portsSafe).convsOff).lapReset
  let s := s.outputsOff
  let s := s.lastGauge.brownOutOps.modNvm fun v => { v with buf := none }
  (s.jrnClose 1).drainOps fun _ => true

/-! ### SENTINEL -/

/-- A facet is at rest for SENTINEL (R62). -/
def Facet.rests (f : Facet) : Bool :=
  decide (f.fstate = .off) || decide (f.fstate = .quarantined)
    || (decide (f.fstate = .live) && !f.cc.attached && !f.pp.swCmd)

/-- A converter is stopped (R317). -/
def Cv.stopped (v : Cv) : Bool := decide (v.st = .off) || decide (v.st = .tripped)

/-- R62. -/
def State.sentReady (s : State) : Bool :=
  s.batOk && decide (s.hub.fstate ≠ .held) && (allPorts.all fun p => (s.facet p).rests && !(s.facet p).ct.linkOn) && s.hub.cv1.stopped && s.hub.cv2.stopped
    && !s.adc.running && !s.adc.armed && decide (s.rf 0x0103 0 12 ≠ 0)

/-- The termination of a facet between bursts (R192). -/
def State.sentTerm (s : State) (p : Port) : State :=
  let f := s.facet p
  s.present p (if f.fstate = .live ∧ f.cfg.role = 1 then .hiZ else .deadRd)

/-- Staged contents of READY facets are discarded (R123). -/
def State.sentDiscard (s : State) (p : Port) : State :=
  if (s.facet p).rc.isStaged then (s.modRc p Rcfg.discard).postF p 0x38 0 else s

/-- Monitors that are not SAMPLED power down (R65): bits of the first `n`. -/
def State.wmDown (s : State) : Word := bitsOf (fun k => decide (s.rf (0x0400 + 4 * k) 11 3 ≠ 5)) 32

/-- SENTINEL is entered (R63, R65, R123, R192, R514). -/
def State.sentinelEntered (s : State) (m : Master) (est : Nat) : State :=
  let s := s.drainOps fun o => match o with | .scrub _ _ => false | _ => true
  let s := match s.nvm.buf with
    | some _ => s.opDone .done (.flush none)
    | none => s
  let s := (((s.sentDiscard .a).sentDiscard .b).sentDiscard .c).sentDiscard .d
  let s := if s.hub.rc.isStaged then (s.modHub fun h => { h with rc := h.rc.discard }).postH 0x38 0 else s
  let s := (((s.sentTerm .a).sentTerm .b).sentTerm .c).sentTerm .d
  let s := s.modHub fun h => { h with en0 := false, en1 := false }
  let d := s.wmDown
  let s := { s with wmHi := s.wmHi &&& ~~~ d, wmLo := s.wmLo &&& ~~~ d
                    wmSetHi := s.wmSetHi &&& ~~~ d, wmSetLo := s.wmSetLo &&& ~~~ d
                    mode := .sentinel, clkStopped := true, sentEntry := .none, lastWake := s.cycles, wakes := 0
                    burst := none }
  (s.setReg 0x0013 (fw 0 est)).modeResult m .accepted .none

/-- A facet's termination from RUN entry (R194, R178), where the debounce of a candidate starts. -/
def State.runTerm (s : State) (p : Port) : State :=
  let f := s.facet p
  let s := s.present p (if f.fstate = .live then tcTerm f.cc.tc else if f.cfg.present then .rd else .deadRd)
  if f.fstate = .live then s.ccArm p else s

/-- SENTINEL ends in RUN (R50, R329, R375): the tick starts afresh, and what a burst in progress had decided joins the wake. -/
def State.wakeNow (s : State) : State :=
  if s.mode = .sentinel then
    let s := match s.burst with
      | some b => s.orReg 0x0104 b.cause
      | none => s
    let s := { s.clkUp with mode := .run }
    let s := (s.wmPowerAll 32).gpwmCtlDone
    (((s.runTerm .a).runTerm .b).runTerm .c).runTerm .d
  else s

/-- A fault or a monitor's edge wakes at the end of the burst that sees it, and at once where none runs (R67, R68, R412). -/
def State.wakeBurst (s : State) (cause : Word) : State :=
  match s.burst with
  | some b => { s with burst := some { b with cause := b.cause ||| cause, forced := true } }
  | none => (s.orReg 0x0104 cause).wakeNow

/-- A wake event of `MODE_WAKE_EN` bit `k` (R64, R67, R194): it wakes from SENTINEL, a monitor's at the end of its burst and
any other without `CLK`; and it cancels an entry. -/
def State.wakeEvent (s : State) (k : Nat) : State :=
  if !s.bit 0x0103 k then s
  else if s.mode = .sentinel then (if k = 4 then s.wakeBurst (flag k true) else (s.orReg 0x0104 (flag k true)).wakeNow)
  else if s.sentEntry ≠ .none then (s.orReg 0x0104 (flag k true)).sentCancel
  else s

end Sys2Proof.Machine
end

