-- ==== Sys2Proof/Machine/Settle.lean ====
section
/-! DEFINITION. The end of a cycle and what the hardware owes: events enter their queues (R154), mirrors follow the epochs
(R42), a failed SENTINEL entry is cancelled (R64), an enabled interrupt line ends STANDBY (R161), and the actions of logic rules (R157) and fault reactions (R410)
are taken one after another. -/
namespace Sys2Proof.Machine

/-- Reaction 3 and rule action 0x03 have their conditions (R410). -/
def Facet.mayReset (f : Facet) : Bool :=
  f.cc.attached && f.pd.pdEn && decide (f.pd.hrPhase = 0) && !f.pd.hrSink

/-- A rule writes `OUT` of a pin that lets rules drive it (R157, R498); none in SAFE (R564). -/
def State.ruleGpio (s : State) (pin : BitVec 2) (level : Bool) : State :=
  let i := 0x2040 + pin.toNat
  if s.mode ≠ .safe ∧ s.bit i 6 = true then s.setFld i 1 1 (if level then 1 else 0) else s

/-- Take one owed action. -/
def State.runAct (s : State) : Act → State
  | .openSwitch p =>
    match (s.facet p).fstate with
    | .live => s.openSwitch p
    | .held => let s := s.abortHold p 4; if (s.facet p).fstate = .live then s.openSwitch p else s
    | _ => s
  | .hardReset p =>
    let f := s.facet p
    if !f.mayReset then s
    else match f.fstate with
      | .live => s.orderHardReset p 0
      | .tripped => s.orderHardReset p 0
      | .held => (s.abortHold p 4).orderHardReset p 0
      | _ => s
  | .quarantine p => s.quarantine p
  | .safe u c => s.enterSafe 1 c.toNat u
  | .thermalSafe => s.enterSafe 2 0 0
  | .ruleEvent p arg => s.postF p 0x70 arg
  | .gpio pin level => s.ruleGpio pin level
  | .ilim p ma => s.bankWrite (fx p 0x141) (withFld (s.reg (fx p 0x141)) 0 7 (min 127 (ma / 50)))
  | .abort p c => s.abortHold p c.toNat
  | .wake => s.wakeBurst 0
  | .frs b => s.frsSignalAll b

/-- An interrupt line that is enabled ends STANDBY (R50, R161). -/
def State.standbyEnd (s : State) : State := if s.mode = .standby ∧ s.meip = true then { s with mode := .run } else s

/-- `CLK` is stopped outside SENTINEL (R330). -/
def State.stalled (s : State) : Bool := s.clkStopped && decide (s.mode ≠ .sentinel)

/-- R64: an entry to SENTINEL whose preconditions have failed is cancelled; the port whose attach did it is recorded where
that wake is enabled. -/
def State.sentWatch (s : State) : State :=
  if s.sentEntry = .none ∨ s.sentReady = true ∨ s.stalled = true then s
  else (s.orReg 0x0104 (bitsOf (fun k => s.bit 0x0103 k && (s.facet (portOf k)).cc.attached) 4)).sentCancel

/-- The end of a cycle. -/
def State.endCycle (s : State) : State := (s.sentWatch.syncFeeds.refreshFresh.clearFresh.flushPosts).standbyEnd

/-- Take owed actions, each in a cycle of its own, at most `n`. -/
def State.settleN : Nat → State → State
  | 0, s => { s with todo := [] }
  | n + 1, s =>
    match s.todo with
    | [] => s
    | a :: l => State.settleN n (({ s with todo := l }.runAct a).endCycle)

end Sys2Proof.Machine
end

