-- ==== Sys2Proof/Machine/RegRead.lean ====
section
/-! DEFINITION. What a read of each register returns: stored bits, and the read-only bits that the structures of the
state hold (the field tables of each chapter, gathered by R501). Reading has its side effects in `Machine/Fabric.lean`. -/
namespace Sys2Proof.Machine

/-! ### The stored word -/

/-- In a hold a bank field shows the bank that was swapped in (R125, R520). -/
def heldView (r : Word) (phase : Phase) (shadow : Option (List (Nat × Word))) (i : Nat) : Word :=
  match phase, shadow, regRow i with
  | .holding, some l, some row =>
    let m := row.rw ||| row.w1s
    (r &&& ~~~ m) ||| (spGet resetWord l i &&& m)
  | _, _, _ => r

def State.baseView (s : State) (i : Nat) : Word :=
  match facetOf i with
  | some (p, _) => heldView (s.reg i) (s.facet p).rc.phase ((s.facet p).rc.shadow.map Bank.regs) i
  | none =>
    if 0x0800 ≤ i ∧ i < 0x1000 then heldView (s.reg i) s.hub.rc.phase (s.hub.rc.shadow.map HubBank.regs) i else s.reg i

/-! ### Words of each block -/

def modeCode : Mode → Nat
  | .cold => 0 | .boot => 1 | .sentinel => 2 | .standby => 3 | .run => 4 | .safe => 5

/-- `MODE_STATUS`. -/
def State.modeWord (s : State) : Word :=
  fw 0 (modeCode s.mode) ||| flag 3 s.dbBoot ||| fw 4 (portNo s.bootPort) ||| flag 6 s.imgAuth ||| flag 7 s.bow
    ||| flag 8 s.vbusOk.a ||| flag 9 s.vbusOk.b ||| flag 10 s.vbusOk.c ||| flag 11 s.vbusOk.d ||| flag 12 s.batOk
    ||| flag 13 s.auxOk ||| fw 14 s.bootSlot.toNat

/-- `CFG_STATUS.LOADER` (R117); 3 during a prepare or a hold, whatever else runs (text of R122). -/
def State.loaderCode (s : State) : Nat :=
  if s.ldr.booting then 1 else if s.liveBusy then 3 else if s.ldr.cmd.isSome || s.ldr.reload then 2 else 0

/-- `CFG_WR_PTR`. -/
def Ldr.ptrWord (l : Ldr) : Word :=
  match l.session with
  | some x => fw 0 (x.words / 64) ||| fw 16 (x.words % 64)
  | none => 0

def keyCode : KeySlot → Nat
  | .empty => 0 | .enabled _ => 1 | .revoked => 2

/-- `ONX_KEYS`: slot code k in bits 2k+1:2k. -/
def Keys.word (k : Keys) : Word :=
  fw 0 (keyCode k.img0) ||| fw 2 (keyCode k.img1) ||| fw 4 (keyCode k.img2) ||| fw 6 (keyCode k.img3)
    ||| fw 8 (keyCode k.svc0) ||| fw 10 (keyCode k.svc1) ||| fw 12 (keyCode k.anc0) ||| fw 14 (keyCode k.anc1)
    ||| fw 16 (keyCode k.anc2) ||| fw 18 (keyCode k.anc3)

/-- `ONX_STATUS` but its W1C bits. -/
def State.onxWord (s : State) : Word :=
  let o := s.onx
  fw 0 s.lc ||| flag 2 o.rngOk ||| flag 3 o.selfTest ||| flag 4 o.idk.isSome ||| flag 5 o.cmd.isSome
    ||| fw 6 (match o.owner with | some m => masterId m | none => 15) ||| fw 16 o.alarm.toNat ||| flag 24 o.alarmLock

/-- `ONX_AUTH`. -/
def Onx.authWord (o : Onx) : Word :=
  fw 24 (min 7 o.rejects) |||
    (match o.grant with
    | some g => fw 0 g.op.toNat ||| fw 8 g.arg.toNat ||| flag 16 true ||| fw 20 (masterId g.master)
    | none => 0)

/-- Number of the oldest journal record held: a page of four is erased before its first record is written (R446). -/
def Onx.oldest (o : Onx) : Nat := (o.jrnCount + 3) / 4 * 4 - 131072

/-- `ADC_STAT`. -/
def Adc.word (a : Adc) : Word :=
  fw 0 (if a.running then 1 else 0) ||| flag 1 a.armed ||| fw 2 a.step ||| fw 5 a.fifo.length
    ||| fw 12 (min 15 (max (max a.cStart a.cChan) (max a.cGain a.cFilt)))

/-- A queued or running operation of the user area. -/
def NvmOp.isUser : NvmOp → Bool
  | .flush _ => true | .eraseUser _ _ => true
  | .journal _ _ => false | .quarantine _ _ => false | .page _ _ => false | .gauge => false
  | .ledger => false | .scrub _ _ => false

def NvmOp.isScrub : NvmOp → Bool
  | .scrub _ _ => true
  | .journal _ _ => false | .quarantine _ _ => false | .page _ _ => false | .gauge => false
  | .ledger => false | .flush _ => false | .eraseUser _ _ => false

/-- `FLUSHING`: a `FLUSH` or `ERASE` of the user area runs or waits. -/
def Nvm.flushing (n : Nvm) : Bool := n.ops.any NvmOp.isUser

/-- `BUS_NVM_STAT`. -/
def Nvm.word (n : Nvm) : Word :=
  flag 0 (!n.ops.isEmpty) ||| flag 1 n.buf.isSome ||| flag 2 n.flushing
    ||| flag 3 (match n.ops with | o :: _ => o.isScrub | [] => false)
    ||| fw 16 (match n.buf with | some (k, _) => k | none => 0)

/-- `LAP_STATUS.RUNSTATE` (R151): clock-gated outside RUN and BOOT. -/
def State.runCode (s : State) : Nat :=
  match s.lap.run with
  | .reset => 0
  | .halted => 3
  | .running => if s.lapClocked then 1 else 2

/-- `x_FLT_SCFG` of the selected source. -/
def State.scfgWord (s : State) (u : Nat) : Word :=
  let src := s.rf (unitBase u + 3) 0 8
  match srcDefault u src with
  | none => 0
  | some _ =>
    let c := s.srcCfg u src
    fw 0 c.cls ||| fw 4 c.lvl ||| flag 6 true ||| flag 7 (decide (u = 5) && decide (src = 1 ∨ src = 2)) ||| fw 8 c.n
      ||| fw 16 c.w

/-- `x_FLT_SCNT` of the selected source; a window with no tick left has closed. -/
def State.scntWord (s : State) (u : Nat) : Word :=
  match findWindow (BitVec.ofNat 8 (s.rf (unitBase u + 3) 0 8)) (s.flt u).windows with
  | some w => if w.left = 0 then 0 else fw 0 w.count ||| fw 8 w.left
  | none => 0

/-- A fault unit's register by offset. -/
def State.unitView (s : State) (u o : Nat) (w : Word) : Word :=
  match o with
  | 0x0 => s.fltWord u ||| (w &&& 0x80000)
  | 0x4 => s.scfgWord u
  | 0x5 => s.scntWord u
  | 0x6 => match (s.flt u).hist with | e :: _ => e.w0 | [] => 0
  | 0x8 => fw 0 (s.flt u).hist.length
  | 0xD => (s.flt u).lvl
  | _ => w

def txCode : TxStat → Nat
  | .idle => 0 | .busy => 1 | .done => 2 | .failed => 3

/-- `Fx_RCFG_DEFER`. -/
def deferWord : Option PdMsg → Word
  | none => 0
  | some m => flag 0 true ||| fw 1 m.typ ||| flag 6 (decide (m.cls = .data))

/-- `Fx_LINK_STAT`. -/
def Facet.linkWord (f : Facet) : Word :=
  flag 0 f.ct.linkOn ||| flag 1 f.lk.linkUp ||| flag 2 f.lk.polInv ||| flag 3 f.lk.txActive ||| flag 4 f.lk.rxActive
    ||| flag 5 f.lk.txHalt

/-- A facet register by offset; in a hold `ROLE` and `TRY` are those of the section swapped in. -/
def State.facetView (s : State) (p : Port) (o : Nat) (w : Word) : Word :=
  let f := s.facet p
  match o with
  | 0x004 => w ||| flag 16 f.clampIlim
  | 0x040 =>
    let c := match f.rc.phase, f.rc.shadow with | .holding, some b => b.cfg | _, _ => f.cfg
    w ||| fw 4 c.role.toNat ||| fw 6 c.tryRole.toNat
  | 0x043 => fw 0 (fld w 0 9) ||| flag 16 f.cc.vconnOn ||| flag 17 f.cc.vconnOc
  | 0x085 => fw 0 (txCode f.pd.txStat)
  | 0x086 => fw 0 (sopNo f.pd.rxSop) ||| flag 2 f.pd.rxFull
  | 0x102 => f.ct.now.rdo
  | 0x103 => fw 0 (f.ct.now.mv / 20) ||| fw 16 f.ct.now.ma10
  | 0x105 => fw 0 f.ct.grant ||| fw 16 f.ct.pending
  | 0x201 => f.linkWord
  | 0x301 => f.rc.version
  | 0x302 => f.rc.holdUs.setWidth 32
  | 0x303 => deferWord f.rc.deferred
  | _ => w

/-- A hub register. -/
def State.hubView (s : State) (i : Nat) (w : Word) : Word :=
  match i with
  | 0x0804 => w ||| (s.hub.clamp.setWidth 32 <<< 16)
  | 0x0845 => flag 0 s.hub.frozen ||| w
  | 0x08CC => fw 0 s.hub.bat.soc ||| fw 8 s.soh ||| fw 16 s.hub.bat.cycles
  | 0x08CD => fw 0 (s.hub.bat.qrem / uAh)
  | 0x08CE => fw 0 s.hub.bat.fcc
  | 0x0F01 => s.hub.rc.version
  | 0x0F02 => s.hub.rc.holdUs.setWidth 32
  | _ => w

/-- A port's on-resistance register: BASE of the die, and until an hour is measured RON as BASE (log entry 16). -/
def ronView (n : Fin 4) (w : Word) : Word :=
  let b := (Config.ronBase n).toNat
  fw 0 (if fld w 0 12 = 0 then b else fld w 0 12) ||| fw 12 b ||| (w &&& 0x7F000000)

/-- Registers 0x0000 to 0x02FF. -/
def State.lowView (s : State) (i : Nat) (w : Word) : Word :=
  match i with
  | 0x0001 => Config.trace0
  | 0x0002 => Config.trace1.setWidth 32
  | 0x0003 => w ||| Config.trim.setWidth 32
  | 0x0011 => fw 0 (s.time % 2 ^ 32)
  | 0x0018 => s.irqView
  | 0x0024 => ronView 0 w | 0x0025 => ronView 1 w | 0x0026 => ronView 2 w | 0x0027 => ronView 3 w
  | 0x0100 => s.modeWord
  | 0x0109 => w ||| flag 1 s.vioOn
  | 0x0200 => (w &&& 0x70) ||| fw 0 s.loaderCode ||| flag 2 s.ldr.session.isSome ||| flag 3 s.wrReady
  | 0x0204 => s.ldr.ptrWord
  | _ => w

/-- Registers 0x0300 to 0x06FF. -/
def State.midView (s : State) (i : Nat) (w : Word) : Word :=
  if 0x0400 ≤ i ∧ i < 0x0480 ∧ i % 4 = 2 then
    let k := (i - 0x0400) / 4
    (w &&& 0xF0) ||| flag 0 (s.wmLo.getLsbD k) ||| flag 1 (s.wmHi.getLsbD k) ||| flag 2 ((s.wmSetHi ||| s.wmSetLo).getLsbD k)
  else match i with
  | 0x0300 => (w &&& 0xC00) ||| s.onxWord
  | 0x0303 => s.onx.authWord
  | 0x0305 => flag 0 s.onx.dbgEn
  | 0x0307 => fw 0 (s.ctr (s.rf 0x0306 0 6))
  | 0x0308 => (byteWords 4 s.devId).getD 0 0
  | 0x0309 => (byteWords 4 s.devId).getD 1 0
  | 0x030A => (byteWords 4 s.devId).getD 2 0
  | 0x030B => (byteWords 4 s.devId).getD 3 0
  | 0x030C => s.onx.keys.word
  | 0x0310 => fw 0 (s.onx.jrnCount - 1)
  | 0x0311 => fw 0 s.onx.oldest
  | 0x0312 => flag 0 s.onx.jrnOpen ||| flag 1 s.onx.vfyDone ||| flag 2 s.onx.vfyOk ||| fw 16 (min 65535 s.onx.breaks)
  | 0x0314 => 0x00010200
  | 0x0315 => if s.certified then 0 else w
  | 0x0480 => s.wmHi
  | 0x0481 => s.wmLo
  | 0x0482 => s.wmFlagged
  | 0x0483 => s.wmPend
  | 0x0501 => s.adc.word
  | 0x0504 => match s.adc.fifo with | e :: _ => e.w0 | [] => 0
  | 0x0505 => s.adc.w1
  | 0x0601 => s.nvm.word
  | _ => w

/-- Registers 0x0700 to 0x07FF. -/
def State.lapView (s : State) (i : Nat) (w : Word) : Word :=
  if 0x0711 ≤ i ∧ i ≤ 0x071F ∧ i % 2 = 1 then fw 0 (s.tmr ((i - 0x0711) / 2)).count
  else if 0x0720 ≤ i ∧ i ≤ 0x0733 then
    let q := (i - 0x0720) / 4
    match i % 4 with
    | 0 => (match (s.evq q).ents with | e :: _ => e.1 | [] => 0)
    | 1 => (s.evq q).w1
    | 2 => fw 0 (s.evq q).ents.length
    | _ => w
  else if 0x0740 ≤ i ∧ i ≤ 0x0749 ∧ i % 2 = 1 then
    let m := (i - 0x0740) / 2
    withFld (s.mbx m).res 28 4 (s.mbx m).seq.toNat
  else match i with
  | 0x0700 => w ||| fw 0 s.runCode
  | 0x0702 => s.irqView
  | _ => w

/-- Registers of the service port, GPIO and debug. -/
def State.svcView (s : State) (i : Nat) (w : Word) : Word :=
  match i with
  | 0x2000 => fw 0 s.svc.addr.toNat ||| flag 7 (decide (s.svc.tx = .index) || decide (s.svc.tx = .data))
      ||| fw 16 s.svc.ptr.toNat
  | 0x2004 => (w &&& 0x01FF01F0) ||| flag 0 (decide (s.svc.ctl ≠ .idle)) ||| fw 1 s.svc.attempts.toNat
  | 0x2044 => bitsOf s.gpioIn 4 ||| fw 4 (bitsOf (fun n => decide (s.pgPorts n ≠ [])) 4).toNat
  | 0x2101 => flag 0 (decide (s.lap.run = .halted)) ||| fw 4 s.lap.dbgCause.toNat
  | _ => w

/-- What a read of a register returns. -/
def State.regView (s : State) (i : Nat) : Word :=
  let w := s.baseView i
  match unitOf i with
  | some (u, o) => s.unitView u o w
  | none =>
    match facetOf i with
    | some (p, o) => s.facetView p o w
    | none =>
      if i < 0x0300 then s.lowView i w
      else if i < 0x0700 then s.midView i w
      else if i < 0x0800 then s.lapView i w
      else if i < 0x1000 then s.hubView i w
      else s.svcView i w

end Sys2Proof.Machine
end

