-- ==== Sys2Proof/Machine/FacetCmd.lean ====
section
/-! DEFINITION. Facet commands: the judgement of R44 in its order, with the preconditions of R119, R120, R229, R250, R266
and R271, and what each accepted opcode does. A command reaches a facet through `Fx_CMD` or through its mailbox (R158). -/
namespace Sys2Proof.Machine

/-! ### Reports -/

/-- A command's result goes to its status register, or to the mailbox with its sequence count (R158, R554). -/
def State.report (s : State) (q : Nat) (statIdx : Nat) (src : Src) (r : Res) (why : Reason) (epoch : Byte) : State :=
  let w := statWord (resCode r) why epoch (srcMaster src)
  match src with
  | .direct _ => s.setReg statIdx w
  | .mailbox => s.setMbx q { seq := (s.mbx q).seq + 1, res := w }

/-- Report a facet command with the epoch after evaluation. -/
def State.reportF (s : State) (p : Port) (src : Src) (r : Res) (why : Reason) : State :=
  s.report (portNo p) (fx p 0x002) src r why (s.facet p).epoch

/-! ### Judgement -/

/-- The opcode is defined and `ARG` is valid for it (R44, R119, R229, R266). -/
def facetArgOk (op arg : Nat) : Bool :=
  if 1 ≤ op ∧ op ≤ 6 then arg = 0
  else if op = 7 then decide (arg ≤ 2)
  else if op = 8 then arg = 0
  else if op = 0x10 then decide (arg ≤ 1)
  else if op = 0x11 then decide (arg % 8 ≠ 0)
  else if op = 0x17 then decide (arg ≤ 1)
  else if 0x12 ≤ op ∧ op ≤ 0x1A then arg = 0
  else if 0x30 ≤ op ∧ op ≤ 0x33 then arg = 0
  else if op = 0x40 then arg = 0
  else false

/-- The facet states in which an opcode is allowed; reconfiguration opcodes pass in HELD (R119). -/
def facetAllowed (op : Nat) (x : FState) : Bool :=
  match x with
  | .off => decide (op = 1 ∨ (0x30 ≤ op ∧ op ≤ 0x33))
  | .live => decide (op ≠ 1 ∧ op ≠ 0x40)
  | .held => decide (0x30 ≤ op ∧ op ≤ 0x33)
  | .tripped => decide (4 ≤ op ∧ op ≤ 8) || decide (op = 0x13 ∨ op = 0x17 ∨ op = 0x1A)
      || decide (op = 0x30 ∨ op = 0x32 ∨ op = 0x33)
  | .quarantined => decide (op = 0x40)

/-- R271: `SWITCH_ON` contradicts the hardware. -/
def State.switchHardware (s : State) (p : Port) : Bool :=
  let x := (s.facet p).pp
  !x.swCmd && (x.floorLatch || s.tsd || x.leak || x.stall)

/-- R271: the preconditions of `SWITCH_ON`. -/
def State.switchOk (s : State) (p : Port) : Bool :=
  let f := s.facet p
  let b := s.busOf p
  let bus := s.nbus b
  let vb := s.sense.vbus.get p
  f.pp.swCmd ||
    (f.cc.attached && decide (f.pd.hrPhase ≠ 1) && decide (f.pd.hrPhase ≠ 2) && !f.pd.hrSink
      && (if f.ct.prole then decide (4750 ≤ bus) && (s.owner p || inSafe5V bus)
          else s.vbusOk.get p && (feedList (s.feed b).cfg).contains (portNo p + 1)
            && ((s.feed b).priority || !s.otherFeed b (portNo p + 1)
              || (decide (vb ≤ bus + 500) && decide (bus ≤ vb + 500)))))

/-- The sections listed by staged VDM tables keep an entered chain-link mode (R124 condition 6). -/
def keepsLink (v : Option VdmTables) : Bool :=
  match v with
  | some t => match t.svids.find? (fun x => decide (x.svid = linkSvid)) with
    | some x => !x.modes.isEmpty
    | none => false
  | none => false

/-- R122 and R124: what refuses an apply, 0 for none: another unit's prepare or hold first, then the first condition. An OFF facet
is judged by conditions 1 and 7 (R137); an apply while the verification of an earlier one on it runs is refused with 7 (the
model's choice, log entry 42). -/
def State.applyRefuse (s : State) (p : Port) : Nat :=
  let f := s.facet p
  let live := decide (f.fstate = .live)
  if s.otherBusy (some p) || f.rc.offApply then 7
  else match f.rc.phase, f.rc.shadow with
  | .ready, some b =>
    if live && f.cc.attached && !f.ct.contract then 2
    else if live && !f.noSeq then 3
    else if live && f.pp.ilimAct then 4
    else if live && f.cc.attached
        && (!b.cfg.present || decide (b.cfg.role = if f.ct.prole then 0 else 1)) then 5
    else if live && f.ct.linkOn && !keepsLink b.vdm then 6
    else 0
  | _, _ => 1

/-- What refuses a reconfiguration opcode with `PRECONDITION` outside HELD: its `REFUSE` code, 0 for none. -/
def State.rcfgRefuse (s : State) (p : Port) (op : Nat) : Nat :=
  if op = 0x31 then s.applyRefuse p
  else if op = 0x30 ∨ op = 0x33 then (if s.liveBusy || (s.facet p).rc.offApply then 7 else 0)
  else 0

/-- The preconditions of the contract opcodes (R250, R266). `REQUEST` for an object that R243 or R265 keeps a sink from asking
for fails them (log entry 72), and so do `ENTER_MODE` where the facet's own table does not list the chain link (R96) and
`AUTH_START`, whose challenge needs random data, while `RNG_OK` is 0 (R428, log entry 82). -/
def State.contractOk (s : State) (p : Port) (op arg : Nat) : Bool :=
  let f := s.facet p
  if op = 0x10 then f.ct.prole && f.cc.attached && (f.pd.partner || decide (f.ct.offerCode = 0 ∨ f.pd.capsSent = 0))
  else if op = 0x11 then
    f.sinking && decide (f.ct.srcCaps ≠ []) && decide (argPos arg ≤ f.ct.srcCaps.length)
      && s.busAllows p (s.argObj p arg) && (!s.gated p || isSafe5 (s.argObj p arg))
  else if op = 0x12 then s.prsAllowed p
  else if op = 0x13 then f.drsAllowed
  else if op = 0x14 then s.vcsAllowed p (s.raFound p)
  else if op = 0x15 then f.sinking && f.ct.contract && !f.ct.epr
  else if op = 0x16 then f.ct.epr
  else if op = 0x17 then f.cc.attached && f.ct.drole && (decide (arg = 0) || f.ct.vconnSrc)
  else if op = 0x18 then f.ct.drole && f.ct.partnerLink && !f.ct.linkOn && f.listsLink
  else if op = 0x19 then f.ct.linkOn
  else f.cfg.auth && f.ct.contract && !f.ct.authRun && s.onx.rngOk

/-- The preconditions of every opcode but the reconfiguration ones (R39, R229, R266, R271). -/
def State.facetOk (s : State) (p : Port) (op arg : Nat) : Bool :=
  let f := s.facet p
  if op = 1 then f.cfg.present
  else if op = 3 then s.switchOk p
  else if op = 5 then f.mayReset
  else if op = 7 then f.cc.attached && f.pd.pdEn && (decide (arg = 0) || f.ct.vconnSrc)
  else if op = 8 then f.ct.drole && f.ct.vconnSrc && s.bit (fx p 0x080) 1
  else if 0x10 ≤ op ∧ op ≤ 0x1A then s.contractOk p op arg
  else true

/-- A grant that matches an operation, its argument and the master (R441). -/
def State.granted (s : State) (op arg : Nat) (m : Master) : Bool :=
  match s.onx.grant with
  | some g => decide (g.op.toNat = op) && decide (g.arg.toNat = arg) && decide (g.master = m)
  | none => false

/-- The grant is used up. -/
def State.useGrant (s : State) : State := s.modOnx fun o => { o with grant := none }

/-- How a facet command is judged (R44): the result, the reason, and the `REFUSE` code of a reconfiguration opcode. -/
def State.judgeFacet (s : State) (p : Port) (op : Nat) (epoch : Byte) (arg : Nat) (src : Src) : Res × Reason × Nat :=
  let f := s.facet p
  let rc := decide (0x30 ≤ op ∧ op ≤ 0x33)
  if !facetArgOk op arg then (.refused, .badCmd, 0)
  else if f.epoch ≠ epoch ∨ f.epPend = true then (.stale, .none, 0)
  else if s.mode ≠ .standby ∧ s.mode ≠ .run then (.refused, .deviceMode, 0)
  else if !facetAllowed op f.fstate then (.refused, .facetState, 0)
  else if op = 3 ∧ s.switchHardware p = true then (.refused, .hardware, 0)
  else if rc && decide (f.fstate = .held) then (.refused, .precondition, 0)
  else if rc && decide (s.rcfgRefuse p op ≠ 0) then (.refused, .precondition, s.rcfgRefuse p op)
  else if !s.facetOk p op arg then (.refused, .precondition, 0)
  else if op = 0x40 ∧ s.granted 2 (portNo p) (srcMaster src) = false then (.refused, .notAuthenticated, 0)
  else (.accepted, .none, 0)

/-! ### What the accepted opcodes do -/

/-- Start a message sequence unless one runs that may not be interrupted (log entry 17). -/
def State.startSeq (s : State) (p : Port) (g : State → State) : State := if (s.facet p).noSeq then g s else s

/-- `SWITCH_OFF` (R22, R276, R284, R286, R291): the switch opens; stall, retry count and a LEAK that is absent are
cleared, and in TRIPPED the trip and, below the floor threshold, the floor latch: an open pair that does not leak carries no current. -/
def State.switchOff (s : State) (p : Port) : State :=
  let f := s.facet p
  let s := s.openSwitch p
  let latch := f.pp.floorLatch && f.pp.overFloor && (f.pp.swObs || f.pp.leak)
  let s := s.modPp p fun x =>
    { x with stall := false, retryUsed := 0, leak := x.leak && x.leakNow.isSome, selOpen := x.selOpen && x.leakNow.isSome
             floorLatch := latch, tripCause := if latch then x.tripCause else 0 }
  if f.fstate = .tripped ∧ latch = false then s.setFState p .live else s

/-- `CABLE_RESET` (R203, R228): Cable Reset is sent, and the SOP′ and SOP″ MessageIDs reset. -/
def State.cableReset (s : State) (p : Port) : State :=
  s.modPd p fun d => { (d.resetIdsOf .sopP).resetIdsOf .sopPP with cableRsts := d.cableRsts + 1 }

/-- `SEND_CAPS` (R234, R266). -/
def State.sendCapsCmd (s : State) (p : Port) (arg : Nat) : State :=
  if arg = 1 then (s.requestGrant p).sendCaps p else s.sendCaps p

/-- `REQUEST` (R266), an answer where Source_Capabilities await one (R241) and a sequence of its own otherwise (R208): the boot port's 5 V limit of R58 ends with it. -/
def State.requestCmd (s : State) (p : Port) (arg : Nat) : State :=
  let s := s.modCt p fun c => { c with only5v := false }
  s.startSeq p fun s =>
    s.sendRequest p (s.commandReq p arg) (decide ((s.facet p).pd.seq ≠ .snkSelect))

/-- `PR_SWAP`, `DR_SWAP`: the request is sent (R250). -/
def State.swapCmd (s : State) (p : Port) (typ : Nat) (q : Seq) : State :=
  s.startSeq p fun s => (s.setSeq p q).send p (mkCtl .sop typ).initiate

/-- `VCONN_SWAP` (R250, R253): a facet that presents Rd has probed the pin. -/
def State.vconnSwapCmd (s : State) (p : Port) : State :=
  s.startSeq p fun s =>
    let s := if (s.facet p).ct.vconnSrc then s else s.probePin p (s.raFound p)
    (s.setSeq p (.vcs .requested)).send p (mkCtl .sop 0x0B).initiate

/-- `EPR_EXIT` (R249). -/
def State.eprExitCmd (s : State) (p : Port) : State :=
  s.startSeq p fun s => (s.setSeq p (.epr .exiting)).send p (mkData .sop 0x0A [fw 24 5]).initiate

/-- `DISCOVER` (R258, R260). -/
def State.discoverCmd (s : State) (p : Port) (arg : Nat) : State :=
  s.startSeq p fun s =>
    if arg = 1 then s.cableIdentity p else s.vdmBegin p .identity

/-- `EXIT_MODE` (R263): the transceiver disconnects, and Exit Mode is sent. -/
def State.exitModeCmd (s : State) (p : Port) : State :=
  s.startSeq p fun s => (s.linkOff p).vdmBegin p .exitMode

/-- `REPAIR` (R40, R442): OFF, the record's clearing ordered, the grant used up, a REPAIR record written. -/
def State.repairCmd (s : State) (p : Port) : State :=
  let s := s.useGrant
  let s := s.present p (if (s.facet p).cfg.present then .rd else .deadRd)
  ((s.setFState p .off).nvmQueue (.quarantine p false)).jrn 0x0E [BitVec.ofNat 8 (portNo p)]

/-- `RCFG_APPLY` (R125, R137). -/
def State.applyCmd (s : State) (p : Port) : State :=
  if (s.facet p).fstate = .off then s.offApplyStart p else s.holdFacet p

/-- `RCFG_CANCEL` (R123, R144): staged contents are discarded. -/
def State.cancelCmd (s : State) (p : Port) : State :=
  if (s.facet p).rc.isStaged then (s.modRc p fun r => { r.discard with err := 0 }).postF p 0x38 0
  else s

/-- What an accepted facet opcode does. -/
def State.runFacet (s : State) (p : Port) (op arg : Nat) : State :=
  match op with
  | 0x01 => s.goLive p
  | 0x02 => s.leave p .off
  | 0x03 => if (s.facet p).pp.swCmd then s else s.closeSwitch p
  | 0x04 => s.switchOff p
  | 0x05 => s.orderHardReset p 0
  | 0x06 => s.quarantine p
  | 0x07 => s.sendSoftReset p (sopOf arg)
  | 0x08 => s.cableReset p
  | 0x10 => s.sendCapsCmd p arg
  | 0x11 => s.requestCmd p arg
  | 0x12 => s.swapCmd p 0x0A (.prs .requested)
  | 0x13 => s.swapCmd p 0x09 (.drs true)
  | 0x14 => s.vconnSwapCmd p
  | 0x15 => s.startSeq p fun s => s.eprEnterSend p
  | 0x16 => s.eprExitCmd p
  | 0x17 => s.discoverCmd p arg
  | 0x18 => s.startSeq p fun s => s.vdmBegin p .enterMode
  | 0x19 => s.exitModeCmd p
  | 0x1A => s.startSeq p fun s => s.authBegin p
  | 0x30 => s.prepareFacet p false
  | 0x31 => s.applyCmd p
  | 0x32 => s.cancelCmd p
  | 0x33 => s.prepareFacet p true
  | 0x40 => s.repairCmd p
  | _ => s

/-- Evaluate a facet command (R44) and report it (R554); `REFUSE` follows a refused reconfiguration opcode (R143). -/
def State.facetCmd (s : State) (p : Port) (op : Nat) (epoch : Byte) (arg : Nat) (src : Src) : State :=
  match s.judgeFacet p op epoch arg src with
  | (.accepted, _, _) => (s.runFacet p op arg).reportF p src .accepted .none
  | (r, why, k) =>
    let s := if k = 0 then s else s.modRc p fun c => { c with refuse := BitVec.ofNat 4 k }
    s.reportF p src r why

end Sys2Proof.Machine
end

