-- ==== Sys2Proof/Machine/HubCmd.lean ====
section
/-! DEFINITION. Hub commands: the judgement of R44 for reconfiguration (R119, R139), converter (R319) and battery opcodes
(R361), and what each accepted one does (R316, R345, R349). -/
namespace Sys2Proof.Machine

/-- Report a hub command with the hub's epoch after evaluation. -/
def State.reportH (s : State) (src : Src) (r : Res) (why : Reason) : State := s.report 4 0x0802 src r why s.hub.epoch

/-- The opcode is defined and `ARG` is valid for it. -/
def hubArgOk (op arg : Nat) : Bool :=
  if 0x30 ≤ op ∧ op ≤ 0x33 then arg = 0
  else if 0x50 ≤ op ∧ op ≤ 0x53 then decide (arg ≤ 1)
  else if 0x60 ≤ op ∧ op ≤ 0x62 then arg = 0
  else if op = 0x63 then decide (arg < 256)
  else false

/-- The converter an opcode's `ARG` names. -/
def argConv (arg : Nat) : Conv := if arg % 2 = 1 then .cv2 else .cv1

/-- R319: a converter opcode's conditions. -/
def State.cvOk (s : State) (op arg : Nat) : Bool :=
  let v := s.cv (argConv arg)
  let mirror := decide (arg % 2 = 1) && s.hub.parallel
  if mirror then false
  else if op = 0x50 then s.batOk && decide (v.st = .off ∨ v.st = .standby)
  else if op = 0x51 then s.batOk && decide (v.st = .off ∨ v.st = .starting ∨ v.st = .regulating)
  else if op = 0x53 then decide (v.st = .tripped)
  else true

/-- The battery state is PRESENT or DEPLETED. -/
def State.batLive (s : State) : Bool := decide (s.hub.bat.st = .present ∨ s.hub.bat.st = .depleted)

/-- R361: a battery opcode's precondition. -/
def State.batCmdOk (s : State) (op arg : Nat) : Bool :=
  if op = 0x60 then s.batLive
  else if op = 0x62 then
    (decide (s.hub.bat.st = .fault) && !s.hub.bat.deep) || decide (s.hub.bat.phase = .timeout)
  else if op = 0x63 then s.batLive && decide (arg ≤ 200)
  else true

/-- A converter setpoint transition is in progress (R139): a setpoint moves, or an owner's transition awaits its end. -/
def State.slewing (s : State) : Bool :=
  s.slews .cv1 || s.slews .cv2 || (allPorts.any fun p => (s.facet p).ct.trans && s.owner p)

/-- R139: what refuses an apply on the hub: 1 and 7 as for a facet, 8 a condition of R139 itself, which has no `REFUSE`
code. -/
def State.hubRefuse (s : State) (op : Nat) : Nat :=
  if op = 0x31 then
    if s.otherBusy none then 7
    else match s.hub.rc.phase, s.hub.rc.shadow with
    | .ready, some b =>
      if (allPorts.any fun p => decide ((s.facet p).fstate = .held)) || s.hub.feed1.gap || s.hub.feed2.gap || s.slewing
          || ((!s.hub.cv1.stopped || !s.hub.cv2.stopped) && decide (b.parallel ≠ s.hub.parallel)) then 8
      else 0
    | _, _ => 1
  else if op = 0x30 ∨ op = 0x33 then (if s.liveBusy then 7 else 0)
  else 0

/-- How a hub command is judged (R44). -/
def State.judgeHub (s : State) (op : Nat) (epoch : Byte) (arg : Nat) : Res × Reason × Nat :=
  let rc := decide (0x30 ≤ op ∧ op ≤ 0x33)
  if !hubArgOk op arg then (.refused, .badCmd, 0)
  else if s.hub.epoch ≠ epoch ∨ s.hub.epPend = true then (.stale, .none, 0)
  else if s.mode ≠ .standby ∧ s.mode ≠ .run then (.refused, .deviceMode, 0)
  else if rc && decide (s.hub.fstate = .held) then (.refused, .precondition, 0)
  else if s.hub.fstate ≠ .live then (.refused, .facetState, 0)
  else if rc && decide (s.hubRefuse op ≠ 0) then (.refused, .precondition, s.hubRefuse op % 8)
  else if 0x50 ≤ op ∧ op ≤ 0x53 ∧ s.cvOk op arg = false then (.refused, .precondition, 0)
  else if 0x60 ≤ op ∧ s.batCmdOk op arg = false then (.refused, .precondition, 0)
  else (.accepted, .none, 0)

def Cv.tripped (v : Cv) : Cv := { v with st := .tripped, charge := false, peaks := 0, cc := false, batlim := false, cnt := 0 }

/-- Voltage of the bus a converter serves, 20 mV. -/
def State.convV (s : State) (c : Conv) : Nat := s.nbus (s.convBus c) / 20

/-- First number of a converter's fault sources, less one. -/
def convSrc (c : Conv) : Nat := 8 * convNo c

/-- A converter trips (R316, R318): flag `k` of `H_CVn_FLAGS`, source `src`, the feed lost (R294). -/
def State.cvTrip (s : State) (c : Conv) (k src : Nat) (ev : Bool) : State :=
  let b := s.convBus c
  let fed := (s.cv c).inBus
  let v := s.convV c
  let s := if (s.cv c).charge then s.stopCharge .suspended else s
  let s := s.bothCv c Cv.tripped
  let s := s.orReg (convBase c + 8) (flag k true)
  let s := if ev then s.postH 0x52 (BitVec.ofNat 16 (convNo c)) else s
  let s := if fed then s.feedEnd b 6 else s
  s.fault 4 (convSrc c + src) v

/-- A command moves a converter (R316): a charge on it ends, and its bus loses it as a feed (R294), so that the changeover
which follows does not choose it. -/
def State.cvTo (s : State) (c : Conv) (g : Cv → Cv) : State :=
  let b := s.convBus c
  let fed := (s.cv c).inBus
  let s := if (s.cv c).charge then s.stopCharge .suspended else s
  let s := (s.unlose b 6).bothCv c g
  if fed && !(s.cv c).inBus then (s.markLost b 6).feedEnd b 6 else s

/-- `CV_RUN` (R316): the ramp starts from the present bus voltage; the NBUS clamp, while it acts, trips it at once (R22, R318). -/
def State.cvRunCmd (s : State) (c : Conv) : State :=
  let s := s.cvTo c (Cv.starting (s.nbus (s.convBus c)) s.cycles)
  if (s.cv c).clampOff then s.cvTrip c 3 4 true else s

/-- `BAT_CLEAR` (R345, R349). -/
def State.batClear (s : State) : State :=
  let s := if s.hub.bat.phase = .timeout then s.setPhase .idle else s
  if s.hub.bat.st = .fault ∧ s.hub.bat.deep = false then s.setBat .qualifying else s

/-- `CHG_STORE` (R361): with the state of charge at `STORE_SOC` the charger stops at once. -/
def State.chargeStore (s : State) : State :=
  let s := s.modBat fun b => { b with full := false }
  if s.storeReached then s.chargeDone else s

/-- `GAUGE_SET` (R361): `ARG` × 0.5 % of `FCC`. -/
def State.gaugeSet (s : State) (arg : Nat) : State :=
  s.modBat fun b => { b with qrem := b.part (5 * arg), gaugeValid := false }

/-- What an accepted hub opcode does. -/
def State.runHub (s : State) (op arg : Nat) : State :=
  let c := argConv arg
  match op with
  | 0x30 => s.prepareHub false
  | 0x31 => s.holdHub
  | 0x32 =>
    if s.hub.rc.isStaged then (s.modHub fun h => { h with rc := { h.rc.discard with err := 0 } }).postH 0x38 0 else s
  | 0x33 => s.prepareHub true
  | 0x50 => s.cvRunCmd c
  | 0x51 => s.cvTo c Cv.standby
  | 0x52 => s.cvTo c Cv.off
  | 0x53 => s.cvTo c Cv.off
  | 0x60 => s.modBat fun b => { b with full := true }
  | 0x61 => s.chargeStore
  | 0x62 => s.batClear
  | 0x63 => s.gaugeSet arg
  | _ => s

/-- Evaluate a hub command (R44) and report it (R554). -/
def State.hubCmd (s : State) (op : Nat) (epoch : Byte) (arg : Nat) (src : Src) : State :=
  match s.judgeHub op epoch arg with
  | (.accepted, _, _) => (s.runHub op arg).reportH src .accepted .none
  | (r, why, k) =>
    let s := if k = 0 then s else s.modHub fun h => { h with rc := { h.rc with refuse := BitVec.ofNat 4 k } }
    s.reportH src r why

/-- A command for a unit: a port facet, or the hub. -/
def State.unitCmd (s : State) (u : Option Port) (op : Nat) (epoch : Byte) (arg : Nat) (src : Src) : State :=
  match u with
  | some p => s.facetCmd p op epoch arg src
  | none => s.hubCmd op epoch arg src

end Sys2Proof.Machine
end

