-- ==== Sys2Proof/Machine/ModeCmd.lean ====
section
/-! DEFINITION. The mode commands (R50, R52, R62, R71, R556): their judgement and their effect. -/
namespace Sys2Proof.Machine

/-- A mode command judged in the order of R556; `go` is its effect. -/
def State.modeCmd (s : State) (m : Master) (arg : Half) (allowed pre auth : Bool) (go : State) : State :=
  if arg ≠ 0 then s.modeResult m .refused .badCmd
  else if !allowed then s.modeResult m .refused .deviceMode
  else if !pre then s.modeResult m .refused .precondition
  else if !auth then s.modeResult m .refused .notAuthenticated
  else go

/-- The device is in RUN or STANDBY. -/
def State.awake (s : State) : Bool := decide (s.mode = .run) || decide (s.mode = .standby)

/-- Every port switch opens. -/
def State.openAll (s : State) : State := (((s.openSwitch .a).openSwitch .b).openSwitch .c).openSwitch .d

def State.enterStandbyCmd (s : State) (m : Master) (arg : Half) : State :=
  s.modeCmd m arg (decide (s.mode = .run)) true true ({ s with mode := .standby }.modeResult m .accepted .none)

def State.enterSentinelCmd (s : State) (m : Master) (arg : Half) : State :=
  s.modeCmd m arg s.awake s.sentReady true ({ s with sentEntry := .waitTick m }.setReg 0x0102 (pendingWord 0 m))

def State.softRebootCmd (s : State) (m : Master) (arg : Half) : State :=
  s.modeCmd m arg s.awake true true (((s.openAll.ledgerSaved).jrnClose 2).enterBoot 1)

def State.enterSafeCmd (s : State) (m : Master) (arg : Half) : State :=
  s.modeCmd m arg s.awake true true ((s.enterSafe 5 0 0).modeResult m .accepted .none)

def State.safeExitCmd (s : State) (m : Master) (arg : Half) : State :=
  s.modeCmd m arg (decide (s.mode = .safe)) true (s.granted 1 0 m)
    (((s.useGrant.ledgerSaved).jrnClose 3).enterBoot 2)

/-- A command of `MODE_CMD` evaluated (R52, R556). -/
def State.modeWrite (s : State) (m : Master) (op : Nat) (arg : Half) : State :=
  match op with
  | 1 => s.enterStandbyCmd m arg
  | 2 => s.enterSentinelCmd m arg
  | 3 => s.softRebootCmd m arg
  | 4 => s.enterSafeCmd m arg
  | 5 => s.safeExitCmd m arg
  | _ => s.modeResult m .refused .badCmd

end Sys2Proof.Machine
end

