-- ==== Sys2Proof/Machine/Await.lean ====
section
/-! DEFINITION. Commands that await their evaluation (R44, R52, R158, R554), and what every meaning answers: the commands
written a cycle ago are evaluated after the hardware changes of the cycle (R46), the cycle ends, and every owed action is
taken. -/
namespace Sys2Proof.Machine

/-! ### Writing a command -/

/-- Number of a unit: 0 to 3 for facets A to D, 4 for the hub. -/
def unitNo : Option Port → Nat
  | some p => portNo p
  | none => 4

/-- Word index of a unit's command status register. -/
def unitStat : Option Port → Nat
  | some p => fx p 0x002
  | none => 0x0802

/-- What reports a command reads PENDING, with the epoch it gave before (R554). -/
def State.pendingNote (s : State) : CmdTo → State
  | .mode m => s.setReg 0x0102 (pendingWord 0 m)
  | .unit u (.direct m) => s.setReg (unitStat u) (pendingWord (BitVec.ofNat 8 (s.rf (unitStat u) 16 8)) m)
  | .unit u .mailbox =>
    let x := s.mbx (unitNo u)
    s.setMbx (unitNo u) { x with res := pendingWord (BitVec.ofNat 8 (fld x.res 16 8)) (srcMaster .mailbox) }

/-- A command is written and awaits its evaluation; `due` where the cycle of its write is over. -/
def State.await (s : State) (who : CmdTo) (op : Nat) (epoch : Byte) (arg : Nat) (due : Bool) : State :=
  { s.pendingNote who with awaits := s.awaits ++ [⟨who, op, epoch, arg, due⟩] }

/-- A command written there awaits its evaluation. -/
def State.awaiting (s : State) (who : CmdTo) : Bool := s.awaits.any fun a => decide (a.who = who)

/-- R158: a mailbox write is discarded, sets `MBX_LOST` and is a mailbox error (R414). -/
def State.mbxLost (s : State) (u : Option Port) (m : Master) : State :=
  (s.orReg 0x0700 (flag (16 + unitNo u) true)).capture 2 (0x40000000 + 4 * (0x0740 + 2 * unitNo u)) (masterId m) 1 2 1

/-- A command written for a unit by a master, to its register or its mailbox (R44, R158). -/
def State.unitWrite (s : State) (m : Master) (u : Option Port) (op : Nat) (epoch : Byte) (arg : Nat) (src : Src)
    (due : Bool) : State :=
  if src = .mailbox ∧ s.awaiting (.unit u src) = true then s.mbxLost u m else s.await (.unit u src) op epoch arg due

/-- A unit command as one row, its write and its evaluation (log entry 37): it is evaluated after those that await. -/
def State.unitRow (s : State) (u : Option Port) (op : Nat) (epoch : Byte) (arg : Nat) (src : Src) : State :=
  if s.awaits = [] then s.unitCmd u op epoch arg src else s.unitWrite (srcMaster src) u op epoch arg src true

/-- A mode command as one row. -/
def State.modeRow (s : State) (m : Master) (op : Nat) (arg : Half) : State :=
  if s.awaits = [] then s.modeWrite m op arg else s.await (.mode m) op 0 arg.toNat true

/-! ### Evaluation -/

/-- Evaluate one command. -/
def State.evalOne (s : State) (a : Await) : State :=
  match a.who with
  | .mode m => s.modeWrite m a.op (BitVec.ofNat 16 a.arg)
  | .unit u src => s.unitCmd u a.op a.epoch a.arg src

/-- Evaluate the commands at the front whose write lies a cycle back, at most `n`. -/
def State.evalDue : Nat → State → State
  | 0, s => s
  | n + 1, s =>
    match s.awaits with
    | [] => s
    | a :: l => if a.due then State.evalDue n ({ s with awaits := l }.evalOne a) else s

/-- R44, R46, R52: what awaits from before is evaluated, and the next cycle may evaluate the rest; nothing while `CLK` is
stopped. -/
def State.evaluate (s : State) : State :=
  if s.awaits = [] ∨ s.clkStopped = true ∨ s.mode = .cold then s
  else
    let s := State.evalDue s.awaits.length s
    { s with awaits := s.awaits.map fun a => { a with due := true } }

/-! ### The answer of a meaning -/

/-- The waits of the protocol engines that have ended (R230, log entry 59). -/
def State.pdDueAll (s : State) : State := if s.clkStopped then s else (((s.pdDue .a).pdDue .b).pdDue .c).pdDue .d

/-- The cycle ends and every owed action is taken (log entry 11); what needs `CLK` waits while it is stopped. -/
def State.settle (s : State) : State :=
  let t := s.pdDueAll.evaluate.endCycle
  if t.stalled then t else t.settleN 64

/-- The answer of a meaning. -/
def done (s : State) : Host.Outcome State Fault Refusal := .next s.settle

/-- The synchronous part of the block runs: not in COLD (R56), nor while `CLK` is stopped outside SENTINEL (R330). -/
def State.on (s : State) : Bool := decide (s.mode ≠ .cold) && !s.stalled

/-- What a register command answers: nothing acts while the synchronous part does not run. -/
def powered (s u : State) : Host.Outcome State Fault Refusal := if s.on then done u else .next s

/-- What an event answers: it acts where the synchronous part runs and its condition `g` holds, and changes nothing
elsewhere (log entry 4). -/
def event (s : State) (g : Bool) (u : State) : Host.Outcome State Fault Refusal := if s.on && g then done u else .next s

end Sys2Proof.Machine
end

