-- ==== Sys2Proof/Machine/Clock.lean ====
section
/-! DEFINITION. TIME passing: pending epoch advances fall due on the way (R41), and the timers whose
expiry is due. -/
namespace Sys2Proof.Machine

/-! ### Pending advances -/

/-- A pending advance takes place in cycle `at'` (R41); changes of the same cycle are covered where it is the present one. -/
def Facet.advanceDue (at' : Nat) (same : Bool) (f : Facet) : Facet :=
  { f with epoch := f.epoch + 1, epPend := false, epLast := some at', fresh := same }

def Hub.advanceDue (at' : Nat) (same : Bool) (h : Hub) : Hub :=
  { h with epoch := h.epoch + 1, epPend := false, epLast := some at', fresh := same }

/-- The cycle in which a facet's, or the hub's, pending advance is due (R41). -/
def State.advanceAt (s : State) : Option Port → Nat
  | some p => (s.facet p).epLast.getD 0 + 12500
  | none => s.hub.epLast.getD 0 + 12500

/-- An advance is pending. -/
def State.advancePends (s : State) : Option Port → Bool
  | some p => (s.facet p).epPend
  | none => s.hub.epPend

/-- The pending advance of a unit takes place and refreshes its mirrors (R41, R553); `now` is the cycle reached. -/
def State.advanceUnit (s : State) (now : Nat) (h : Option Port) : State :=
  let t := s.advanceAt h
  let same := decide (now ≤ t)
  match h with
  | some p => (s.setFacet p ((s.facet p).advanceDue t same)).refreshFacet p
  | none => { s with hub := s.hub.advanceDue t same }.refreshHub

/-- The facets and the hub, none naming the hub. -/
def allUnits : List (Option Port) := [some .a, some .b, some .c, some .d, none]

/-- Every advance due by cycle `now` takes place, each in its own cycle. -/
def State.passAdvances (s : State) (now : Nat) : State :=
  allUnits.foldl (fun s h => if s.advancePends h && decide (s.advanceAt h ≤ now) then s.advanceUnit now h else s) s

/-- Move TIME forward to the cycle in which an event is due, past the advances that fall due on the way; it never moves back
(R28). -/
def State.reach (s : State) (due : Nat) : State :=
  ((s.passAdvances (max s.cycles due)).elapse (due - s.cycles)).pwmPass (due - s.cycles)

/-- An event due at a cycle may come: the tick boundary does not lie before it. -/
def State.inTick (s : State) (due : Nat) : Bool := decide (s.mode = .sentinel) || decide (due ≤ s.nextTick)

/-- A condition that must last `n` cycles has lasted them at the cycle it names (log entry 79). -/
def lasts (t : Option Nat) (n : Nat) : Option Nat := t.map (· + n)

/-- An event that is due in a cycle: TIME reaches it (R13). -/
def dueEvent (s : State) (t : Option Nat) (g : Bool) (u : State → State) : Host.Outcome State Fault Refusal :=
  match t with
  | some t => event s (g && s.inTick t) (u (s.reach t))
  | none => .next s

/-- An advance is due now. -/
def State.advanceDue (s : State) : Bool := allUnits.any fun h => s.advancePends h && decide (s.advanceAt h ≤ s.cycles)

/-! ### Timers that are due -/

/-- Timer `k` has counted to 0 and its expiry is due (R163). -/
def State.timerDue (s : State) (k : Nat) : Bool := s.bit (0x0710 + 2 * k) 26 && decide ((s.tmr k).count = 0)

def State.timersDue (s : State) : Nat → Bool
  | 0 => false
  | n + 1 => s.timerDue n || s.timersDue n

end Sys2Proof.Machine
end

