-- ==== Sys2Proof/Machine/Nets.lean ====
section
/-! DEFINITION. The nets, the levels that R563 gives some of them, their scales (R364, R365), and what a window monitor's comparator
(R366, R382) or an ADC result (R400) can show of a level. -/
namespace Sys2Proof.Machine

/-- The level of a CC pin in mV (R563): VCONN's output on the pin that carries it, the BMC swing of R197 while the facet's packet is on
the terminated pin, and otherwise the voltage that the terminations give, as `CC_LEVEL_CHANGE` last showed it. -/
def Facet.pinRange (f : Facet) (cc2 : Bool) : Nat × Nat :=
  let v := if cc2 then f.cc.pins.cc2 else f.cc.pins.cc1
  if f.cc.vconnOn && decide (f.cc.orient ≠ cc2) then (4850, 5250)
  else if f.pd.inFlight.isSome && decide (f.cc.orient = cc2) then (0, 1200)
  else (v, v)

/-- The least and the greatest level in mV of a net of R563; `none` for a net whose level another chapter gives, which the events show. -/
def State.netRange (s : State) (net : Nat) : Option (Nat × Nat) :=
  if net = 0x4E then some (if s.mode = .sentinel ∧ s.burst.isNone = true then (0, 0) else (4850, 5250))
  else if net = 0x4F then some (1188, 1212)
  else if net = 0x4B then some (if s.vioOn then (3200, 3400) else (0, 0))
  else if 0x20 ≤ net ∧ net < 0x40 ∧ (net % 8 = 3 ∨ net % 8 = 4) then
    some ((s.facet (portOf ((net - 0x20) / 8))).pinRange (decide (net % 8 = 4)))
  else none

/-! ### Scales -/

/-- Scale classes (R365). Levels are in µV, µA or µ°C. -/
inductive NetClass where
  | v | b | l | ip | il | ib | iv | t
deriving DecidableEq, Repr

/-- The class of a net (R364). -/
def netClass (net : Nat) : NetClass :=
  if net < 0x40 then
    (match net % 8 with | 0 => .v | 1 => .ip | 2 => .ip | 3 => .l | 4 => .l | 5 => .iv | 6 => .v | _ => .b)
  else if net = 0x42 then .b
  else if net = 0x40 ∨ net = 0x41 ∨ net = 0x43 then .v
  else if net = 0x44 ∨ net = 0x45 then .il
  else if net = 0x46 ∨ net = 0x47 then .ib
  else if net = 0x49 then .ip
  else if net = 0x4A then .t
  else .l

/-- A class's monitor step (R365). -/
def NetClass.monStep : NetClass → Int
  | .v => 240000 | .b => 82000 | .l => 25000 | .ip => 30000 | .il => 80000 | .ib => 64000 | .iv => 2000 | .t => 1000000

/-- Twice a class's ADC step at ×1 (R365). -/
def NetClass.adcStep2 : NetClass → Int
  | .v => 30000 | .b => 10250 | .l => 3125 | .ip => 3750 | .il => 10000 | .ib => 8000 | .iv => 250 | .t => 125000

/-- What a class adds to a level before it is compared: class T begins at −64 °C. -/
def NetClass.zero : NetClass → Int
  | .t => 64000000
  | .v => 0 | .b => 0 | .l => 0 | .ip => 0 | .il => 0 | .ib => 0 | .iv => 0

/-- A net may stand at a level (R563). -/
def State.netAt (s : State) (net : Nat) (level : Int) : Bool :=
  match s.netRange net with
  | none => true
  | some (lo, hi) => decide ((1000 * lo : Nat) ≤ level) && decide (level ≤ (1000 * hi : Nat))

/-- With its net at a level, a comparator of monitor `k` can read `v` (R366): the threshold stands at its code times the class's
step, within 1.5 steps of error and half of the 1.0 step of noise (R365, R373, R382, log entry 80). -/
def State.wmReads (s : State) (k : Nat) (high v : Bool) (level : Int) : Bool :=
  let c := netClass (s.rf (0x0400 + 4 * k) 0 8)
  let x := level + c.zero
  let th := c.monStep * s.rf (0x0401 + 4 * k) (if high then 8 else 0) 8
  if high = v then decide (th ≤ x + 2 * c.monStep) else decide (x ≤ th + 2 * c.monStep)

/-- The same, where the net of monitor `k` may stand at that level. -/
def State.wmMay (s : State) (k : Nat) (high v : Bool) (level : Int) : Bool :=
  s.netAt (s.rf (0x0400 + 4 * k) 0 8) level && s.wmReads k high v level

/-- Factor of an ADC gain code. -/
def gainOf (g : BitVec 2) : Nat := if g = 1 then 4 else if g = 2 then 16 else 1

/-- A settled result of the ADC of a level of its net can be `code`: the level in class steps, times the gain (R365), within the gain
error, the offset, the non-linearity and the noise of R400 (log entry 80). -/
def State.adcMay (s : State) (code : BitVec 12) (level : Int) : Bool :=
  let net := s.adc.chan.toNat + 0x20
  let c := netClass net
  let g := gainOf s.adc.gain
  let x := max 0 (level + c.zero)
  let e : Int := if g = 16 then 10 else 5
  let slack : Int := if g = 16 then 22 else 12
  let top := min 4095 (2 * x * g * (1000 + e) / (1000 * c.adcStep2))
  let bottom := min 4095 (2 * x * g * (1000 - e) / (1000 * c.adcStep2))
  s.netAt net level && decide (bottom ≤ code.toNat + slack) && decide (code.toNat ≤ top + slack)

end Sys2Proof.Machine
end

