-- ==== Sys2Proof/Machine/Adc.lean ====
section
/-! DEFINITION. The telemetry ADC: the sequencer (R388 to R390), settle counters and validity (R391 to R395), and the
result FIFO (R396 to R398), with the meanings of its rows. -/
namespace Sys2Proof.Machine

/-! ### Steps -/

/-- Conversions a result averages at a `FILT` code (R385). -/
def filtDepth (f : BitVec 2) : Nat := if f = 0 then 1 else if f = 1 then 4 else 16

/-- `ADC_SEQn.GAIN`: 3 acts as 0. -/
def adcGain (w : Word) : BitVec 2 := if fld w 6 2 = 3 then 0 else BitVec.ofNat 2 (fld w 6 2)

/-- `ADC_SEQn.FILT`: 3 acts as 2. -/
def adcFilt (w : Word) : BitVec 2 := if fld w 8 2 = 3 then 2 else BitVec.ofNat 2 (fld w 8 2)

/-- `ADC_SEQn.CHAN`: 48 to 63 act as 47. -/
def adcChan (w : Word) : BitVec 6 := BitVec.ofNat 6 (min 47 (fld w 0 6))

/-- Step `n` begins with the word of its `ADC_SEQn` (R391): a start from idle loads the START counter, any other step
boundary a counter for each setting that differs. -/
def Adc.stepTo (a : Adc) (n : Nat) (w : Word) (fromIdle : Bool) : Adc :=
  let d := filtDepth (adcFilt w)
  let load := fun (on : Bool) (v old : Nat) => if on then v else old
  { a with
    running := true, step := n, left := max 1 (fld w 16 10), chan := adcChan w, gain := adcGain w, filt := adcFilt w
    last := w.getLsbD 31
    cStart := load fromIdle (max 3 d) a.cStart
    cChan := load (!fromIdle && decide (adcChan w ≠ a.chan)) 2 a.cChan
    cGain := load (!fromIdle && decide (adcGain w ≠ a.gain)) 3 a.cGain
    cFilt := load (!fromIdle && decide (adcFilt w ≠ a.filt)) d a.cFilt }

/-- The next result ends after `FILT`'s conversions of 96 cycles each (R385). -/
def Adc.next (now : Nat) (a : Adc) : Adc := { a with due := now + 96 * filtDepth a.filt }

def State.adcStep (s : State) (n : Nat) (fromIdle : Bool) : State :=
  s.modAdc fun a => (a.stepTo n (s.reg (0x0508 + n)) fromIdle).next s.cycles

/-- The gauge path converts (R386): a battery is configured, and the device is not in SENTINEL. -/
def State.gaugePath (s : State) : Bool := decide (s.hub.bat.st ≠ .unconfigured) && decide (s.mode ≠ .sentinel)

/-- `n` conversions of the gauge path delay the main path by as many (R387). -/
def State.gaugeConverts (s : State) (n : Nat) : State :=
  if s.adc.running && s.gaugePath then s.modAdc fun a => { a with due := a.due + 96 * n } else s

/-- Set a bit of `ADC_FLAGS`: 0 SEQ_DONE, 1 GAP, 2 TRIG_MISSED, 3 OVERRANGE. -/
def State.adcFlag (s : State) (k : Nat) : State := s.orReg 0x0502 (flag k true)

/-- `START` (R388, R389); none before an image has control (R20). -/
def State.adcStart (s : State) : State :=
  if !s.imgAuth then s
  else if s.adc.running || s.adc.armed then s.adcFlag 2
  else if s.adc.mode = 2 then s.modAdc fun a => { a with armed := true }
  else s.adcStep 0 true

/-- `STOP` (R388 to R390): the result in progress is discarded and a new `MODE` takes effect. -/
def State.adcStop (s : State) : State :=
  s.modAdc fun a => { a with running := false, armed := false, mode := BitVec.ofNat 2 (s.rf 0x0500 0 2) }

/-- A write of `ADC_CMD`: `STOP` wins. -/
def State.adcCmd (s : State) (v : Word) : State :=
  if v.getLsbD 1 then s.adcStop else if v.getLsbD 0 then s.adcStart else s

/-- A tick boundary and the per-tick mode (R388, R389); the gauge path converts `BAT_NTC`, and twice `BAT+` for the absence probe
(R343, R386). -/
def State.adcTick (s : State) : State :=
  let s := s.gaugeConverts (if s.charging then 1 else 3)
  if !s.adc.armed then s else if s.adc.running then s.adcFlag 2 else s.adcStep 0 true

/-! ### Results -/

/-- The larger remaining counter with its `REASON`; at a tie the earlier one, which has the lower code (R393). -/
def worseCount (x y : Nat × Nat) : Nat × Nat := if x.1 < y.1 then y else x

/-- Remaining settle count and `REASON`; a count of 0 leaves the result valid. -/
def Adc.settle (a : Adc) : Nat × Nat :=
  worseCount (worseCount (worseCount (a.cChan, 1) (a.cGain, 2)) (a.cFilt, 3)) (a.cStart, 5)

/-- Every counter decrements after a result is judged (R392). -/
def Adc.counted (a : Adc) : Adc :=
  { a with cStart := a.cStart - 1, cChan := a.cChan - 1, cGain := a.cGain - 1, cFilt := a.cFilt - 1 }

/-- The result is the last of the sequence. -/
def Adc.ends (a : Adc) : Bool := decide (a.left ≤ 1) && (a.last || decide (a.step = 7))

/-- A conversion of the result stood at an end of the scale (R394); an unfiltered code says so itself. -/
def Adc.railed (a : Adc) (code : BitVec 12) (rail : Bool) : Bool :=
  rail || (decide (a.filt = 0) && (decide (code = 0) || decide (code = 4095)))

/-- FIFO word 0 of a result (R396). -/
def Adc.word0 (a : Adc) (code : BitVec 12) (rail : Bool) : Word :=
  let c := a.settle
  let reason := if c.1 ≠ 0 then c.2 else if a.railed code rail then 4 else 0
  fw 0 code.toNat ||| flag 12 (decide (reason = 0)) ||| fw 13 reason ||| fw 16 a.chan.toNat ||| fw 22 a.gain.toNat
    ||| fw 24 a.filt.toNat ||| fw 26 a.step ||| flag 29 a.ends

/-- The GAP entry (R398) with `n` results lost. -/
def gapWord (n : Nat) : Word := fw 0 n ||| fw 13 7

/-- A result enters the FIFO (R398). -/
def State.adcPush (s : State) (w0 : Word) : State :=
  let l := s.adc.fifo
  if l.length < 63 then s.modAdc fun a => { a with fifo := l ++ [⟨w0, s.stamp⟩] }
  else if l.length = 63 then (s.modAdc fun a => { a with fifo := l ++ [⟨gapWord 1, s.stamp⟩] }).adcFlag 1
  else match l.getLast? with
    | none => s
    | some e => s.modAdc fun a => { a with fifo := l.dropLast ++ [{ e with w0 := gapWord (satInc 4095 (fld e.w0 0 12)) }] }

/-- What follows a result: the next result of the step, the next step, or the end of the sequence (R388). -/
def State.adcNext (s : State) : State :=
  let a := s.adc
  if a.ends then
    let s := s.adcFlag 0
    if a.mode = 1 then s.adcStep 0 false else s.modAdc fun a => { a with running := false }
  else if a.left ≤ 1 then s.adcStep (a.step + 1) false
  else s.modAdc fun a => { a with left := a.left - 1 }.next s.cycles

/-- A main-path result completes (R393 to R395). -/
def State.adcResult (s : State) (code : BitVec 12) (rail : Bool) : State :=
  let a := s.adc
  if !a.running then s
  else
    let s := if a.settle.1 = 0 ∧ a.railed code rail = true then s.adcFlag 3 else s
    ((s.adcPush (a.word0 code rail)).modAdc Adc.counted).adcNext

/-- A read of `ADC_FIFO_W0` removes the oldest entry and latches its word 1 (R397). -/
def State.adcPop (s : State) : State :=
  match s.adc.fifo with
  | [] => s
  | e :: l => s.modAdc fun a => { a with fifo := l, w1 := e.w1 }

/-! ### Meanings -/

/-- R388, R389. -/
def execAdcStart (_ : Master) (s : State) : Host.Outcome State Fault Refusal := powered s (s.adcCmd 1)

/-- R389. -/
def execAdcStop (_ : Master) (s : State) : Host.Outcome State Fault Refusal := powered s (s.adcCmd 2)

/-- R385, R393: a result ends, of a level that its net may have (R563) where no setting change still settles. -/
def execAdcResult (code : BitVec 12) (rail : Bool) (level : Int) (s : State) : Host.Outcome State Fault Refusal :=
  dueEvent s (some s.adc.due) (s.adc.running && (decide (s.adc.settle.1 ≠ 0) || s.adcMay code level)) (State.adcResult · code rail)

/-- R397. -/
def execAdcFifoRead (_ : Master) (s : State) : Host.Outcome State Fault Refusal := powered s s.adcPop

/-- R390. -/
def execAdcSeqWrite (_ : Master) (n : Fin 8) (v : Word) (s : State) : Host.Outcome State Fault Refusal :=
  powered s (s.regWrite (0x0508 + n.val) v)

end Sys2Proof.Machine
end

