-- ==== Sys2Proof/Machine/Tick.lean ====
section
/-! DEFINITION. The work of a tick boundary (R550): measurements and mirrors (R42), envelopes (R166, R279, R312, R341), the
converters' available power (R314), feed budgets and power grants (R36 to R38, R235, R303, R304), the counters that count
ticks (R162, R164, R407), the absence probe (R343) and the charger's input limit (R348). -/
namespace Sys2Proof.Machine

/-! ### Measurements -/

/-- A facet's measured values (R42). -/
def State.measureF (s : State) (p : Port) (m : Sense) : State :=
  (s.setFld (fx p 0x043) 0 9 (min 511 (m.ivconn.get p))).setReg (fx p 0x144)
    (fw 0 (sfld 16 (m.iport.get p)) ||| fw 16 (min 4095 (m.vbus.get p / 20)))

/-- `GLB_DIE_TEMP` and the highest temperatures of `GLB_LDG_TJ` (R547); source 0x0507 occurs as the junction is first seen at or above 140 °C. -/
def State.measureDie (s : State) (tj : Int) : State :=
  let hot := decide (140 ≤ tj)
  let rose := hot && !s.bit 0x0014 8
  let t := Int.toNat (tj + 64) % 256
  let s := s.setReg 0x0014 (fw 0 t ||| flag 8 hot ||| flag 9 s.tsd)
  let s := (s.setFld 0x0023 8 8 (max t (s.rf 0x0023 8 8))).setFld 0x0023 16 8 (max t (s.rf 0x0023 16 8))
  if rose then s.fault 5 0x07 (Int.toNat (tj + 64) % 256) else s

/-- What a facet's measured values settle (log entry 31): the port current is below the floor threshold, so `SWITCH_OFF`
releases the latch (R22); a LEAK condition is absent once the gate is at or below 2 V, or VBUS has fallen or the partner sources
(R290, R291). -/
def State.judgePort (s : State) (p : Port) : State :=
  let i := (s.sense.iport.get p).natAbs
  let v := s.sense.vbus.get p
  let src := (s.facet p).partnerSourcing
  let gate := s.sense.gates.get p
  s.modPp p fun x =>
    { x with overFloor := x.overFloor && decide (1100 ≤ i)
             leakNow := match x.leakNow with
               | some .gate => if gate then some .gate else none
               | some .vbus => if decide (3000 ≤ v) && !src then some .vbus else none
               | none => none }

/-- `CC` and `BATLIM` as the measured currents show them (R309, R315, log entry 31). -/
def State.judgeLimits (s : State) (c : Conv) (i10mA : Int) : State :=
  let lim : Int := 5 * s.rf (convBase c + 4) 0 8
  let dis : Int := 50 * s.rf 0x08C6 0 8
  let ib := s.sense.ibat
  s.modCv c fun v => { v with cc := v.inBus && decide (lim ≤ i10mA), batlim := v.inBus && decide (dis ≤ ib) }

/-- A reading within its range sets `NTC_OK` (R340, log entry 31), and the 5 mA discharge of a removal ends below 2.0 V
(R358). -/
def State.judgeNtc (s : State) : State :=
  let ok := decide (-40 ≤ s.sense.ntc) && decide (s.sense.ntc ≤ 100)
  let up := decide (2000 ≤ s.sense.bat)
  s.modBat fun b => { b with ntcOk := b.ntcOk || ok, drain5mA := b.drain5mA && up }

/-- The delay line is calibrated against `CLK` (R324). -/
def State.delayLine (s : State) : State := s.setReg 0x0845 (flag 1 true ||| fw 8 (Config.dlTaps s.cycles).toNat)

/-- The band of an NTC reading (R341). -/
def ntcBand (t : Int) : BitVec 3 :=
  if t < -20 then 0 else if t < 0 then 1 else if t < 10 then 2 else if t < 45 then 3 else if t < 60 then 4
  else if t < 75 then 5 else 6

/-- Consecutive ticks with a condition. -/
def streak (c : Bool) (n : Nat) : Nat := if c then n + 1 else 0

/-- The cycle since which a condition has held. -/
def since (c : Bool) (now : Nat) (t : Option Nat) : Option Nat := if c then some (t.getD now) else none

/-- An absence reading of the probe, which runs in STANDBY and RUN while the battery is not being charged (R343). -/
def State.absentReading (s : State) : Bool :=
  s.sense.absent && !s.charging && (decide (s.mode = .standby) || decide (s.mode = .run))

/-- `BAT+` is below the removal threshold, where a monitor is routed for it (R344, R345). -/
def State.belowRemoval (s : State) : Bool := !s.wmRouted || decide (s.sense.bat < 82 * s.rf (0x0401 + 4 * s.removalWm) 8 8)

/-- What a tick's readings add to the conditions that must last (R340, R341, R345, R349). -/
def State.judgeBat (s : State) : State :=
  let mv := s.sense.bat
  let t := s.sense.ntc
  let cut := s.cells * 10 * s.vcut
  let gone := s.absentReading || decide (mv < 2000)
  let valid := !gone && s.belowRemoval && s.hub.bat.ntcOk
  let high := decide (107 * s.packVchg < 100 * mv)
  let chg : Int := max 50 (5 * s.rf 0x08C4 0 7 / 2)
  s.modBat fun b =>
    { b with lowT := streak (decide (mv < cut)) b.lowT, highT := streak (decide (cut + 100 * s.cells < mv)) b.highT
             ovT := streak high b.ovT, goneT := streak gone b.goneT
             ntcT := streak (decide (t < -40) || decide (100 < t)) b.ntcT
             bandT := if ntcBand t = b.bandSeen then b.bandT + 1 else 1, bandSeen := ntcBand t
             okSince := since valid s.cycles b.okSince
             cvLow := since (decide (b.phase = .cv) && decide (-s.sense.ibat < chg)) s.cycles b.cvLow }

/-- Every measured value refreshed at a tick. -/
def State.measure (s : State) (m : Sense) : State :=
  let s := { s with sense := m }
  let s := (((s.measureF .a m).measureF .b m).measureF .c m).measureF .d m
  let s := s.setReg 0x0885 (fw 0 (min 4095 (m.nbus1 / 20)) ||| fw 16 (min 4095 (m.nbus2 / 20)))
  let s := s.setReg 0x0817 (fw 0 (sfld 16 m.iout1) ||| fw 16 (sfld 16 m.ibat1))
  let s := s.setReg 0x0827 (fw 0 (sfld 16 m.iout2) ||| fw 16 (sfld 16 m.ibat2))
  let s := s.setReg 0x08CA (fw 0 (min 65535 m.bat) ||| fw 16 (sfld 16 m.ibat))
  let s := (((s.judgePort .a).judgePort .b).judgePort .c).judgePort .d
  let s := ((s.judgeLimits .cv1 m.iout1).judgeLimits .cv2 m.iout2).judgeNtc.judgeBat
  (s.setReg 0x08CB (fw 0 (sfld 8 m.ntc))).measureDie m.tj

/-- Every envelope is evaluated and the effective values follow (R166, R279, R312, R341). -/
def State.envelopes (s : State) : State :=
  let s := (((s.refreshIlim .a).refreshIlim .b).refreshIlim .c).refreshIlim .d
  ((s.refreshConv .cv1 (s.droopOf .cv1)).refreshConv .cv2 (s.droopOf .cv2)).refreshBat

/-! ### Power -/

/-- Converters in BUS. -/
def State.inBusCount (s : State) : Nat := (if s.hub.cv1.inBus then 1 else 0) + (if s.hub.cv2.inBus then 1 else 0)

/-- Available power of a converter in 0.5 W (R314). -/
def State.availOf (s : State) (c : Conv) : Nat :=
  if !(s.cv c).inBus then 0
  else
    let byLimit := s.vsetMv c * s.rf (convBase c + 4) 0 8 / 20
    let byBat := 9 * s.sense.bat * s.rf 0x08C6 0 8 / 200
    let byBat := if s.hub.parallel then byBat else byBat / max 1 s.inBusCount
    min 60000 (min byLimit byBat) / 500

def State.setAvail (s : State) : State :=
  let a1 := s.availOf .cv1
  let a2 := s.availOf .cv2
  (s.modCv .cv1 fun v => { v with avail := a1 }).modCv .cv2 fun v => { v with avail := a2 }

/-- Power in 0.5 W of an implicit contract (R303): 5 V at the current the partner's Rp advertises (log entry 68). -/
def rpHalfWatts : Nat → Nat
  | 0 => 0 | 1 => 5 | 2 => 15 | _ => 30

/-- Power of one supplying feed in 0.5 W (R303). -/
def State.feedPower (s : State) (b : Bus) (code : Nat) : Nat :=
  if 1 ≤ code ∧ code ≤ 4 then
    let c := (s.facet (portOf (code - 1))).ct
    if c.contract then c.now.mv * c.now.ma10 / 50000 else rpHalfWatts (s.facet (portOf (code - 1))).cc.partnerRp.toNat
  else if code = 5 then s.rf 0x0884 16 8
  else if code = 6 then
    match s.busConv b with
    | some c => (s.cv c).avail + (if s.hub.parallel then s.hub.cv2.avail else 0)
    | none => 0
  else 0

/-- A bus's budget (R303). -/
def State.budget (s : State) (b : Bus) : Nat :=
  (s.feed b).supplying.foldl (fun n c => n + s.feedPower b c.toNat) 0 - fld (s.feed b).cfg 21 8

/-- Set a bus's budget, and `OVER` as it stands against the grants (R303, R304); source 0x041B occurs as it rises. -/
def State.setBudget (s : State) (b : Bus) : State :=
  let n := s.budget b
  let ovr := decide (n < s.granting b)
  let rose := ovr && !(s.feed b).ovr
  let s := s.setFld 0x0883 (16 * busNo b) 16 (min 65535 n)
  let s := s.modFeed b fun f => { f with ovr := ovr }
  if rose then s.fault 4 0x1B (busNo b + 1) else s

/-- Insert a port behind those of no higher priority number (R36). -/
def insertPrio (pr : Four Nat) (p : Port) : List Port → List Port
  | [] => [p]
  | q :: qs => if pr.get p < pr.get q then p :: q :: qs else q :: insertPrio pr p qs

def sortPrio (pr : Four Nat) : List Port → List Port
  | [] => []
  | p :: ps => insertPrio pr p (sortPrio pr ps)

/-- Ports in ascending priority number, ties by letter. -/
def grantOrder (pr : Four Nat) : List Port := sortPrio pr [.d, .c, .b, .a]

/-- A grant in full: an offer that waited for it follows (R133, R235). -/
def State.grantFull (s : State) (p : Port) (left : Nat) : State :=
  let s := s.modCt p fun c => { c with grant := c.pending, pending := 0, resize := none }
  let s := s.postF p 0x33 (BitVec.ofNat 16 (1 + 2 * min 32767 left))
  s.owedOffer p

/-- One pending request against its bus's remainder, in which a grant it replaces (R134) does not count (R37); what a refusal leaves to size the next by (R235). A request
registered in this boundary's cycle waits for the next (R38), and one of a HELD facet for its release (R125, R134). -/
def State.grantOne (s : State) (p : Port) : State :=
  let c := (s.facet p).ct
  if c.pending = 0 ∨ s.cycles ≤ c.pendAt ∨ (s.facet p).fstate = .held then s
  else
    let rem := s.remainder (s.busOf p) + c.grant
    if c.pending ≤ rem then s.grantFull p (rem - c.pending)
    else
      (s.modCt p fun c => { c with resize := some (max 5 rem) }).postF p 0x33 (BitVec.ofNat 16 (2 * min 32767 rem))

/-- The request sized at the boundary before takes the place of the one refused (R235, R38). -/
def State.resized (s : State) (p : Port) (old : Option Nat) : State :=
  match old with
  | none => s
  | some n => if (s.facet p).ct.pending = 0 then s else s.modCt p fun c => { c with pending := n }

/-- Allocation at a tick (R36 to R38, R235); none in a hub hold (R138). -/
def State.allocate (s : State) : State :=
  if s.hub.fstate = .held then s
  else
    let ra := s.fa.ct.resize
    let rb := s.fb.ct.resize
    let rc := s.fc.ct.resize
    let rd := s.fd.ct.resize
    let s := (grantOrder s.hub.prio).foldl State.grantOne s
    (((s.resized .a ra).resized .b rb).resized .c rc).resized .d rd

/-- The hub sets an owned bus's setpoint request to the owner's voltage (R232); a transition in progress, Hard
Reset until the switch has opened (R224, R246) and a hub hold keep it. -/
def State.ownVset (s : State) (b : Bus) : State :=
  match s.busOwner b with
  | none => s
  | some p =>
    let d := (s.facet p).pd
    if (s.facet p).ct.trans ∨ d.hrSending ∨ d.hrPhase = 1 ∨ s.hub.fstate = .held then s
    else match s.busConv b with
      | none => s
      | some c => if s.rf (convBase c + 1) 0 12 = (s.facet p).nowMv / 20 then s else s.hubVset b (s.facet p).nowMv

/-- `CHG_INLIM` (R348): the power the charge would take from its bus exceeds the remainder. -/
def State.judgeInLim (s : State) : State :=
  let b := s.convBus s.hub.bat.chgCv
  let ichg := 50 * s.rf 0x08C4 0 7
  let want := s.sense.bat * (if s.hub.bat.phase = .precharge then max 100 (ichg / 10) else ichg) / 500000
  s.modBat fun x => { x with inLim := s.charging && decide (s.remainder b < want) }

/-- Budgets, allocation and what follows from them. -/
def State.tickPower (s : State) : State :=
  let s := s.syncFeeds.setAvail
  let s := ((s.setBudget .nbus1).setBudget .nbus2).allocate
  ((s.ownVset .nbus1).ownVset .nbus2).judgeInLim.judgeCharge

/-! ### Counters -/

/-- One tick of every open counting window; a window with none left has closed (R407). -/
def FltUnit.tick (f : FltUnit) : FltUnit := { f with windows := f.windows.map fun w => { w with left := w.left - 1 } }

def State.tickWindows (s : State) : State :=
  { s with flt0 := s.flt0.tick, flt1 := s.flt1.tick, flt2 := s.flt2.tick, flt3 := s.flt3.tick, flt4 := s.flt4.tick
           flt5 := s.flt5.tick }

/-- A policy timer in ticks counts one (R162), but in a debug halt (R170). -/
def State.tickTimer (s : State) (n : Nat) : State :=
  if s.bit (0x0710 + 2 * n) 26 ∧ s.bit (0x0710 + 2 * n) 24 ∧ s.lap.run ≠ .halted then
    s.setTmr n { s.tmr n with count := (s.tmr n).count - 1 }
  else s

def State.tickTimers (s : State) : Nat → State
  | 0 => s
  | n + 1 => (s.tickTimers n).tickTimer n

/-- The watchdog counts while `RUNSTATE` is 1 and `TIMEOUT` is not 0 (R164); a write of `LAP_WD_CFG` leaves its count, which only
the kick restarts (the model's choice, log entry 83). -/
def State.tickWatchdog (s : State) : State :=
  if s.runCode = 1 ∧ s.rf 0x0705 0 16 ≠ 0 then s.modLap fun l => { l with wdCount := l.wdCount + 1 } else s

/-- Every counter of ticks (R13, R14). -/
def State.tickCounters (s : State) : State := ((s.tickWindows.tickTimers 8).tickWatchdog)

/-- The tick length in force ends, and the one last written begins; one written in this boundary's own cycle waits for the
next (R26). -/
def State.tickLength (s : State) : State :=
  let q := s.rf 0x0010 0 6
  let now := s.tickOld.getD q
  let s := s.setReg 0x0010 (fw 0 q ||| flag 6 s.tickOld.isSome ||| fw 8 now)
  { s with nextTick := s.cycles + 24000 * now, tickOld := none }

/-- An `ENTER_SENTINEL` that waits for a tick begins its calibration (R63). -/
def State.sentTick (s : State) : State :=
  match s.sentEntry with
  | .waitTick m => { s with sentEntry := .calibrating m }
  | _ => s

def State.refreshAll (s : State) : State :=
  ((((s.refreshFacet .a).refreshFacet .b).refreshFacet .c).refreshFacet .d).refreshHub

/-- The SAMPLED monitors that a sample window latches: those with a comparator enabled (R67, R374). -/
def State.wmSampledSet (s : State) : Word :=
  bitsOf (fun k =>
    let w := s.reg (0x0400 + 4 * k)
    s.imgAuth && decide (fld w 11 3 = 5) && (w.getLsbD 17 || w.getLsbD 16)) 32

/-- The sample window of 5 µs opens for the SAMPLED monitors powered at the boundary (R374). -/
def State.openWindow (s : State) : State :=
  { s with mon := { s.mon with latchAt := s.cycles + 480, latches := s.wmSampledSet } }

/-- A tick boundary with the values then measured. -/
def State.tick (s : State) (m : Sense) : State :=
  let s := (s.reach s.nextTick).tickLength.ccHearAll
  let s := ((s.measure m).latchFeed .nbus1).latchFeed .nbus2
  let s := s.envelopes.tickPower.tickCounters
  s.openWindow.adcTick.sentTick.delayLine.refreshAll

end Sys2Proof.Machine
end

