-- ==== Sys2Proof/Machine/Supplies.lean ====
section
/-! DEFINITION. The modes and supplies: supervisors (R48), power-on reset, the ends of BOOT (R53, R55, R429), brown-out
(R72 to R74), mode commands (R50, R52, R62, R71, R556) and SENTINEL (R63, R67, R29). An event whose condition does not
hold leaves the state as it is (log entry 4). -/
namespace Sys2Proof.Machine

/-! ### Supplies -/

/-- Some input is valid. -/
def State.anyInput (s : State) : Bool := s.vbusOk.a || s.vbusOk.b || s.vbusOk.c || s.vbusOk.d || s.batOk || s.auxOk

/-- `MODE_SUP_FLAGS` bit of an input, and whether the input is valid. -/
def State.supplyBit (s : State) : Supply → Nat × Bool
  | .vbus p => (portNo p, s.vbusOk.get p)
  | .bat => (4, s.batOk)
  | .auxin => (5, s.auxOk)

/-- Set a supervisor's state (R48); outside COLD a change sets its flag of `MODE_SUP_FLAGS` (R506). -/
def State.setSupply (s : State) (i : Supply) (valid : Bool) : State :=
  let (k, old) := s.supplyBit i
  let s := if old = valid ∨ s.mode = .cold then s else s.orReg 0x0108 (flag k true)
  match i with
  | .vbus p => { s with vbusOk := s.vbusOk.set p valid }
  | .bat => { s with batOk := valid }
  | .auxin => { s with auxOk := valid }

/-- What a supervisor's change sets going outside COLD: BOOT again during a brown-out (R74), a wake (R64), an attach that
waited for VBUS (R178) or the end of a sink's grace interval (R226), `AUXIN` as a feed. The loss of a feed and of a sink's VBUS are events of their own. -/
def State.supplyActs (s : State) (i : Supply) (valid : Bool) : State :=
  if s.bow then (if valid then s.enterBoot 3 else s)
  else if !valid then s
  else match i with
    | .vbus p =>
      let s := s.wakeEvent 10
      let s := s.modPd p fun d => { d with hrSink := false }
      if s.mode = .sentinel then s else s.ccTimer p .supply
    | .bat => s
    | .auxin => (s.auxDone (s.reg 0x0884)).wakeEvent 10

/-- R48; the lockout latch holds the `BAT+` supervisor invalid (R359). -/
def execSupplyValid (i : Supply) (valid : Bool) (s : State) : Host.Outcome State Fault Refusal :=
  let v := valid && !(decide (i = .bat) && s.hub.bat.lockoutLatch)
  let t := s.setSupply i v
  if s.mode = .cold then .next t else done (t.supplyActs i v)

/-- R50: power-on reset is released once an input is valid. -/
def execPowerOnResetRelease (tmode : Bool) (s : State) : Host.Outcome State Fault Refusal :=
  if s.mode = .cold ∧ s.anyInput = true then done ({ s with tmode := tmode }.enterBoot 0) else .next s

/-- The boot scan may run (R525, R429). -/
def State.booting (s : State) : Bool := decide (s.mode = .boot) && !s.tmode && !s.bow

/-- The boot count, raised at entry to BOOT, has been programmed with result `r` (R434, R561): a failure is recorded, the
counter keeps its previous value and BOOT continues (log entry 90). -/
def State.bootCounted (s : State) (r : ArrayResult) : State :=
  if r = .done then s else (s.setCtr 6 (s.ctr 6 - 1)).onyxFailed r 1

/-- R53. -/
def execBootImageLoaded (ctr : ArrayResult) (s : State) : Host.Outcome State Fault Refusal :=
  if s.booting then
    match (s.bootCounted ctr).selfTested.bootScan with
    | (t, some d) => done (t.takeControl d)
    | (_, none) => .next s
  else .next s

/-- R55. -/
def execNoValidImage (ctr : ArrayResult) (s : State) : Host.Outcome State Fault Refusal :=
  if s.booting then
    match (s.bootCounted ctr).selfTested.bootScan with
    | (_, some _) => .next s
    | (t, none) => done (t.fillSel.enterSafe 3 0 0)
  else .next s

/-- R429. -/
def execOnyxSelfTestFail (ctr : ArrayResult) (s : State) : Host.Outcome State Fault Refusal :=
  if s.booting ∧ s.onx.selfTest = false then done ((s.bootCounted ctr).enterSafe 4 0 0) else .next s

/-- R72: raised when no input remains valid; in BOOT nothing is written. -/
def execBrownOutWarning (s : State) : Host.Outcome State Fault Refusal :=
  if s.mode = .cold ∨ s.bow = true ∨ s.anyInput = true then .next s
  else if s.mode = .boot then done ({ s with bow := true }.orReg 0x0108 (flag 6 true))
  else done s.brownOut

/-- A facet below power-on reset: its quarantine lasts by its record alone (R40, R47). -/
def Facet.unpowered (f : Facet) : Facet := { f with fstate := .off }.boot

/-- COLD (R56, R61): NVM, keys and counters last, the lockout latch (R360) and the pins' levels; everything else is without power. -/
def State.toCold (s : State) : State :=
  { State.reset with
    mode := .cold, pending := s.pending, draws := s.draws, sense := s.sense
    vbusOk := s.vbusOk, batOk := s.batOk, auxOk := s.auxOk
    fa := s.fa.unpowered, fb := s.fb.unpowered, fc := s.fc.unpowered, fd := s.fd.unpowered
    hub := { Hub.reset with bat := { Bat.reset with record := s.hub.bat.record, removedSince := s.hub.bat.removedSince
                                                    lockoutLatch := s.hub.bat.lockoutLatch } }
    onx := s.onx, nvm := { s.nvm with buf := none, ops := [] }
    gpio := { Gpio.reset with level := s.gpio.level } }

/-- In COLD no discharge runs (R61). -/
def State.discharged (s : State) : State :=
  let off : Facet → Facet := fun f => { f with pp := { f.pp with disch := .off } }
  { s with fa := off s.fa, fb := off s.fb, fc := off s.fc, fd := off s.fd }

/-- R72: the internal rails fall below power-on reset. -/
def execBrownOutPor (s : State) : Host.Outcome State Fault Refusal :=
  if s.bow then .next s.toCold.discharged else .next s

/-! ### Mode commands -/

/-- R50. -/
def execEnterStandby (m : Master) (arg : Half) (s : State) : Host.Outcome State Fault Refusal :=
  powered s (s.modeRow m 1 arg)

/-- R62, R63. -/
def execEnterSentinel (m : Master) (arg : Half) (s : State) : Host.Outcome State Fault Refusal :=
  powered s (s.modeRow m 2 arg)

/-- R50, R546. -/
def execSoftReboot (m : Master) (arg : Half) (s : State) : Host.Outcome State Fault Refusal :=
  powered s (s.modeRow m 3 arg)

/-- R50, R70. -/
def execEnterSafe (m : Master) (arg : Half) (s : State) : Host.Outcome State Fault Refusal :=
  powered s (s.modeRow m 4 arg)

/-- R71, R442, R546. -/
def execSafeExit (m : Master) (arg : Half) (s : State) : Host.Outcome State Fault Refusal :=
  powered s (s.modeRow m 5 arg)

/-! ### SENTINEL -/

/-- R63, R64: the calibration of 16 wake intervals ends with `EST_CYCLES`. -/
def execSentinelEntryComplete (est : BitVec 24) (s : State) : Host.Outcome State Fault Refusal :=
  match s.sentEntry with
  | .calibrating m => if s.awake then done (if s.sentReady then s.sentinelEntered m est.toNat else s.sentCancel) else .next s
  | _ => .next s

/-- The comparison at 1.5 µs makes a source candidate: a pin above 0.20 V (R192, R193). -/
def Facet.srcCand (f : Facet) (v : Pins) : Bool :=
  decide (f.fstate = .live) && !f.cc.attached && decide (f.cfg.role ≠ 1) && (decide (200 < v.cc1) || decide (200 < v.cc2))

/-- The comparison at 4.9 µs under Rp 3.0 A makes a sink candidate: a pin at 0.50 to 2.05 V (R192, R193). -/
def Facet.snkCand (f : Facet) (v : Pins) : Bool :=
  let rd := fun n => decide (500 ≤ n) && decide (n ≤ 2050)
  decide (f.fstate = .live) && !f.cc.attached && decide (f.cfg.role ≠ 0) && (rd v.cc1 || rd v.cc2)

/-- R194: a candidate sets `SENT_CAND`; with its wake enabled the facet goes to AttachWait, its pins classified as they were
sampled. -/
def State.sample (s : State) (p : Port) (v w : Pins) : State :=
  let f := s.facet p
  let a := f.srcCand v
  let b := f.snkCand w
  if !(a || b) then s
  else
    let s := s.orReg (fx p 0x042) (flag 7 true)
    if s.bit 0x0103 (portNo p) then
      let t : Term := if a then .rd else .rp
      let x := if a then v else w
      (s.setTc p (if a then .attachWaitSnk else .attachWaitSrc)).modCc p fun c =>
        { c with pins := x, lvl1 := ccClass p false t 3 x.cc1, lvl2 := ccClass p true t 3 x.cc2 }
    else s

/-- The `MODE_WAKE_CAUSE` bits a burst's samples set (R194). -/
def State.candMask (s : State) (v w : Four Pins) : Word :=
  bitsOf (fun k =>
    let f := s.facet (portOf k)
    s.bit 0x0103 k && (f.srcCand (v.get (portOf k)) || f.snkCand (w.get (portOf k)))) 4

/-- `MODE_SENT_CFG.PERIOD` as it acts. -/
def State.sentPeriod (s : State) : Nat := max 1 (s.rf 0x0105 0 16)

/-- `EST_CYCLES`. -/
def State.estCycles (s : State) : Nat := s.rf 0x0013 0 24

/-- The end of a burst (R67): the rest of its 8 µs passes, the counters of ticks advance, the mirrors are refreshed (R42), and the device wakes where a source
decided it. -/
def State.burstOver (s : State) : State :=
  match s.burst with
  | none => s
  | some b =>
    let now := s.cycles + b.left
    let s := { s.passAdvances now with cycles := now }.tickCounters.refreshAll
    if b.forced || decide (b.cause ≠ 0) then s.wakeNow else { s with burst := none }

/-- A burst ends once every SAMPLED monitor is latched. -/
def State.burstCheck (s : State) : State :=
  match s.burst with
  | some b => if b.wms = 0 then s.burstOver else s
  | none => s

/-- A SAMPLED monitor has been latched in the burst. -/
def State.wmLatched (s : State) (k : Nat) : State :=
  match s.burst with
  | some b => { s with burst := some { b with wms := putBit b.wms k false } }.burstCheck
  | none => s

/-- A burst begins at a wake-timer expiry (R29, R67, R194, R351): TIME is set, the wake is a tick boundary that takes a tick
length written before (R26, R550), and the CC pins are sampled. -/
def State.burstStart (s : State) (v w : Four Pins) : State :=
  let now := max s.cycles (s.lastWake + s.estCycles)
  let s := { s.passAdvances now with cycles := now, lastWake := now, wakes := s.wakes + 1 }.tickLength
  let s := s.gaugeFlow (s.rf 0x08C8 16 16 * s.estCycles)
  let mask := s.candMask v w ||| flag 11 (s.bit 0x0103 11 && decide (s.wakes % s.sentPeriod = 0))
  let s := (((s.sample .a v.a w.a).sample .b v.b w.b).sample .c v.c w.c).sample .d v.d w.d
  { s with burst := some { left := 768, cause := mask, forced := false, wms := s.wmSampledSet } }

/-- R67: a burst still in progress ends first. `early` and `late` are the pins' voltages at 1.5 µs and at 4.9 µs (R192). -/
def execWakeTimerExpiry (early late : Four Pins) (s : State) : Host.Outcome State Fault Refusal :=
  if s.mode = .sentinel then
    let t := s.burstOver
    done (if t.mode = .sentinel then (t.burstStart early late).burstCheck else t)
  else .next s

/-- R29: every 65 536 wake intervals `EST_CYCLES` is measured afresh. -/
def execSentinelCalibration (est : BitVec 24) (s : State) : Host.Outcome State Fault Refusal :=
  if s.mode = .sentinel ∧ s.wakes % 65536 = 0 ∧ 0 < s.wakes then done (s.setReg 0x0013 (fw 0 est.toNat)) else .next s

end Sys2Proof.Machine
end

