-- ==== Sys2Proof/Machine/Feeds.lean ====
section
/-! DEFINITION. Feeds of the node buses (R294 to R302, R313), converter trips and starts (R316, R318), and the PWM
generator's period boundaries and freezes (R323, R328 to R333), with the meanings of their rows. -/
namespace Sys2Proof.Machine

/-! ### Feeds -/

/-- A feed supplies a bus, or is held to supply it through a gap. -/
def State.supplies (s : State) (b : Bus) (code : Nat) : Bool := (s.feed b).supplying.contains (BitVec.ofNat 3 code)

/-- R294, R300, R308, R257: an available feed is lost. One that supplies a PRIORITY bus is opened and the bus changes over; the
sources on a bus that pass-through alone fed are told. -/
def State.feedLost (s : State) (b : Bus) (code : Nat) : State :=
  let f := s.feed b
  let through := s.supplies b code && (f.supplying.all fun c => decide (1 ≤ c.toNat ∧ c.toNat ≤ 4))
  let s := s.markLost b code
  let s := if f.priority then s.breakFeed code else s
  let s := s.feedEnd b code
  if through then { s with todo := s.todo ++ [.frs b] } else s

/-- Position of a code in a bus's list; past its end where it is not listed. -/
def listPos (code : Nat) : List Nat → Nat
  | [] => 0
  | c :: cs => if c = code then 0 else 1 + listPos code cs

/-- A feed of an earlier `LIST` position than the one that supplies (R301). -/
def State.better (s : State) (b : Bus) (code : Nat) : Bool :=
  let l := feedList (s.feed b).cfg
  decide (listPos code l < listPos (s.feed b).act l)

/-- R297, R299, R301: a feed has been available for 1 s. In SHARE it supplies again; in PRIORITY an armed feed closes onto a bus
that none supplies, or takes the bus from a feed of a later `LIST` position. -/
def State.feedReturned (s : State) (b : Bus) (code : Nat) : State :=
  let s := s.unlose b code
  if !s.feedArmed b code || (s.feed b).gap || s.supplies b code || !s.listed b code then s
  else if !(s.feed b).priority then s.admitShare b
  else if (s.feed b).act = 0 then s.makeFeed b code
  else if s.better b code then (s.breakFeed (s.feed b).act).breakBus b
  else s

/-- R300 step 3, R307: the gap ends and the first available feed closes under the configuration then in force. -/
def State.changeoverMake (s : State) (b : Bus) : State :=
  let s := s.modFeed b fun f => { f with gap := false }
  let s := s.latchFeed b
  match s.firstAvailable b with
  | some c => s.makeFeed b c
  | none => s.chargeToBus b

/-- R302. -/
def State.busLostNow (s : State) (b : Bus) : State :=
  let s := s.modFeed b fun f => { f with lost := true }
  (s.postH 0x51 (BitVec.ofNat 16 s.supplyMask)).fault 4 (0x17 + busNo b) 0

/-- The droop of the share loop (R297, R298, R313) in 20 mV. -/
def State.shareSet (s : State) (b : Bus) (d1 d2 : Nat) (lim : Bool) : State :=
  let s := s.modFeed b fun f => { f with shareLim := lim }
  let one := fun (s : State) (c : Conv) (d : Nat) =>
    if s.convBus c = b then (s.modCv c fun v => { v with droop := min 25 d }).refreshConv c d else s
  one (one s .cv1 d1) .cv2 d2

/-- R294: a supplying feed or an armed one. -/
def execFeedLost (b : Bus) (code : BitVec 3) (s : State) : Host.Outcome State Fault Refusal :=
  event s (s.supplies b code.toNat || s.feedAvailable b code.toNat) (s.feedLost b code.toNat)

/-- R300. -/
def execFeedChangeoverMake (b : Bus) (s : State) : Host.Outcome State Fault Refusal :=
  event s (s.feed b).gap (s.changeoverMake b)

/-- R301. -/
def execFeedReturn (b : Bus) (code : BitVec 3) (s : State) : Host.Outcome State Fault Refusal :=
  event s (decide (code ≠ 0) && decide (code ≠ 7)) (s.feedReturned b code.toNat)

/-- R302. -/
def execBusLost (b : Bus) (s : State) : Host.Outcome State Fault Refusal :=
  event s ((s.supplyingNow b).isEmpty && !(s.feed b).lost) (s.busLostNow b)

/-- R297, R298, R313; the share loop runs on in a hub hold (R138). -/
def execShareEqualise (b : Bus) (droop1 droop2 : Nat) (lim : Bool) (s : State) : Host.Outcome State Fault Refusal :=
  event s (!(s.feed b).priority) (s.shareSet b droop1 droop2 lim)

/-- R307. -/
def execFeedCfgWrite (_ : Master) (b : Bus) (v : Word) (s : State) : Host.Outcome State Fault Refusal :=
  powered s (s.regWrite (0x0880 + busNo b) v)

/-- R270, R307: `H_AUX_CFG.EN` is written with the register's other fields as they stand. -/
def execAuxEnableWrite (_ : Master) (en : Bool) (s : State) : Host.Outcome State Fault Refusal :=
  powered s (s.regWrite 0x0884 (withFld (s.reg 0x0884) 0 1 (if en then 1 else 0)))

/-! ### Converters -/

/-- The ramp of a start has ended and the bus, at `mv`, is within ±2 % of `VSET` (R310, R316); a converter that the NBUS clamp
holds off does not start (R22). -/
def State.startEnded (s : State) (c : Conv) (mv : Nat) : Bool :=
  let v := s.vsetMv c
  decide ((s.cv c).st = .starting) && !(s.cv c).clampOff && !s.slews c && decide (98 * v ≤ 100 * mv)
    && decide (100 * mv ≤ 102 * v)

/-- R316. -/
def execCvStartRampEnd (c : Conv) (mv : Nat) (s : State) : Host.Outcome State Fault Refusal :=
  event s (s.startEnded c mv) (s.bothCv c fun v => { v with st := .regulating })

/-- The cycle in which a start that has not reached REGULATING is given up, 500 ms after it (R316). -/
def State.startLimit (s : State) (c : Conv) : Nat := (s.cv c).startAt + 48000000

/-- R316. -/
def execCvStartTimeout (c : Conv) (s : State) : Host.Outcome State Fault Refusal :=
  event s (decide ((s.cv c).st = .starting) && s.inTick (s.startLimit c)) ((s.reach (s.startLimit c)).cvTrip c 4 5 false)

/-- R318: 16 consecutive peak-limit actions, which needs at least 16. -/
def execCvPeakTrip (c : Conv) (s : State) : Host.Outcome State Fault Refusal :=
  event s ((s.cv c).switching && decide (16 ≤ (s.cv c).peaks)) (s.cvTrip c 1 2 true)

/-- A bus that has stayed below 3.0 V for 10 ms trips its converter: in REGULATING, or in STARTING more than 10 ms after the
start (R318). -/
def State.uvTrips (s : State) (c : Conv) : Bool :=
  decide ((s.cv c).st = .regulating) || (decide ((s.cv c).st = .starting) && decide ((s.cv c).startAt + 960000 < s.cycles))

/-- R318. -/
def execCvUndervoltageTrip (c : Conv) (s : State) : Host.Outcome State Fault Refusal :=
  event s (s.uvTrips c) (s.cvTrip c 2 3 true)

/-! ### PWM -/

/-- R323, R331: `CLK` runs to the end of the channel's last count; no boundary while the generator is stopped. -/
def execPwmPeriodBoundary (ch : PwmChan) (s : State) : Host.Outcome State Fault Refusal :=
  event s (!s.hub.frozen && s.hub.chanRuns ch && s.inTick (s.boundaryAt ch)) (s.reach (s.boundaryAt ch))

/-- R328. -/
def execGpwmPerWrite (_ : Master) (second : Bool) (v : Word) (s : State) : Host.Outcome State Fault Refusal :=
  powered s (s.regWrite (if second then 0x0843 else 0x0841) v)

/-- R328. -/
def execGpwmDutyWrite (_ : Master) (second : Bool) (v : Word) (s : State) : Host.Outcome State Fault Refusal :=
  powered s (s.regWrite (if second then 0x0844 else 0x0842) v)

/-- R329. -/
def execGpwmCtlWrite (_ : Master) (v : Word) (s : State) : Host.Outcome State Fault Refusal :=
  powered s (s.regWrite 0x0840 v)

end Sys2Proof.Machine
end

