-- ==== Sys2Proof/Machine/Floor.lean ====
section
/-! DEFINITION. The floor (R21 to R24, R68, R331): it acts whatever the mode, with `CLK` stopped too, and wakes the device
from SENTINEL, once what it did there is stamped (R30); and the end of its clamps. -/
namespace Sys2Proof.Machine

/-- What a floor event answers: it acts wherever the rails stand. -/
def floor (s : State) (g : Bool) (u : State) : Host.Outcome State Fault Refusal :=
  if decide (s.mode ≠ .cold) && g then done u else .next s

/-- R22, R24, R283, R287: the gates open, the floor latch sets and the facet trips; what the port carried at that moment is what
its release waits to see fall (log entry 31). -/
def State.portFloor (s : State) (p : Port) (i : Int) : State :=
  let s := s.modPp p fun x => { x with floorLatch := true, overFloor := true }
  ((s.trip p 3).fault (portNo p) 0x01 (sfld 16 i)).wakeNow

/-- R22, R318, R331: the on-time ends, so that the next action is of a later period; on a frozen converter all four switches latch off. -/
def State.convPeak (s : State) (c : Conv) : State :=
  let frozen := s.hub.frozen || s.clkStopped
  let v := s.convV c
  let s := s.modCv c fun x =>
    { x with peakLatch := x.peakLatch || frozen, peaks := if frozen then x.peaks else x.peaks + 1
             acted := x.acted || !frozen }
  let s := (s.orReg (convBase c + 8) (flag 0 true)).count (convBase c + 9) 0 16
  (s.fault 4 (convSrc c + 1) v).wakeNow

/-- The NBUS clamp holds a converter of its bus off, and one that switches trips (R22, R318). -/
def State.clampConv (s : State) (b : Bus) (c : Conv) : State :=
  if s.convBus c ≠ b then s
  else
    let s := s.modCv c fun x => { x with clampOff := true }
    if (s.cv c).switching then s.cvTrip c 3 4 true else s

/-- R22. -/
def State.nbusClamp (s : State) (b : Bus) : State :=
  let s := s.modFeed b fun f => { f with clamped := true }
  ((s.clampConv b .cv1).clampConv b .cv2).wakeNow

/-- R22: both battery-side legs are held off. -/
def State.batClamp (s : State) : State :=
  let s := s.modHub fun h =>
    { h with cv1 := { h.cv1 with legsOff := true }, cv2 := { h.cv2 with legsOff := true }
             bat := { h.bat with clampLatch := true } }
  (s.fault 4 0x10 s.sense.bat).wakeNow

/-- R22, R23: every switch opens and both converters stop; the fault's SAFE entry waits for `CLK`. -/
def State.thermal (s : State) (tj : Int) : State :=
  let s := { s with tsd := true, sense := { s.sense with tj := tj } }
  let s := s.openAll.convsOff
  (s.fault 5 0x01 (Int.toNat (tj + 64) % 256)).wakeNow

/-- R22: a clamp ends, and with it the hold it put on the converters; legs held off by a removal stay so (R358). -/
def State.clampEnd (s : State) : Option Bus → State
  | none =>
    let held := decide (s.hub.bat.st = .absent)
    s.modHub fun h =>
      { h with cv1 := { h.cv1 with legsOff := held }, cv2 := { h.cv2 with legsOff := held }
               bat := { h.bat with clampLatch := false } }
  | some b =>
    let s := s.modFeed b fun f => { f with clamped := false }
    let one := fun (s : State) (c : Conv) =>
      if s.convBus c = b then s.modCv c fun x => { x with clampOff := false } else s
    one (one s .cv1) .cv2

/-- A clamp holds now. -/
def State.clampHolds (s : State) : Option Bus → Bool
  | none => s.hub.bat.clampLatch
  | some b => (s.feed b).clamped

/-- R22. -/
def execPortHardOvercurrent (p : Port) (i : Int) (s : State) : Host.Outcome State Fault Refusal :=
  floor s true (s.portFloor p i)

/-- R22, R331. -/
def execConverterPeakCurrent (c : Conv) (s : State) : Host.Outcome State Fault Refusal :=
  floor s (s.cv c).switching (s.convPeak c)

/-- R22. -/
def execNbusOvervoltageClamp (b : Bus) (s : State) : Host.Outcome State Fault Refusal :=
  floor s (!(s.feed b).clamped) (s.nbusClamp b)

/-- R22. -/
def execBatOvervoltageClamp (s : State) : Host.Outcome State Fault Refusal :=
  floor s (!s.hub.bat.clampLatch) s.batClamp

/-- R23. -/
def execDieThermalShutdown (tj : Int) (s : State) : Host.Outcome State Fault Refusal :=
  floor s true (s.thermal tj)

/-- R22. -/
def execOvervoltageClampRelease (b : Option Bus) (s : State) : Host.Outcome State Fault Refusal :=
  floor s (s.clampHolds b) (s.clampEnd b)

end Sys2Proof.Machine
end

