-- ==== Sys2Proof/Machine/TimeFamily.lean ====
section
/-! DEFINITION. Ticks, TIME, epochs and the stop of `CLK`: the meanings of their rows (R14, R26 to R28, R41, R330, R333,
R550, R553). -/
namespace Sys2Proof.Machine

/-- R550; in SENTINEL each wake is the tick boundary (`WAKE_TIMER_EXPIRY`). -/
def execTickBoundary (m : Sense) (s : State) : Host.Outcome State Fault Refusal :=
  event s (decide (s.mode ≠ .sentinel)) (s.tick m)

/-- R26. -/
def execTickCfgWrite (_ : Master) (v : Word) (s : State) : Host.Outcome State Fault Refusal :=
  powered s (s.regWrite 0x0010 v)

/-- The snapshot in `GLB_TIME_HI` (R27): TIME[47:32], the wrap count and ESTIMATED. -/
def State.timeSnap (s : State) : State :=
  s.setReg 0x0012 (fw 0 (s.time / 2 ^ 32) ||| fw 16 s.wraps ||| flag 31 (decide (s.mode = .sentinel)))

/-- R27. -/
def execTimeLoRead (_ : Master) (s : State) : Host.Outcome State Fault Refusal := powered s s.timeSnap

/-- The cycle in which TIME next wraps (R28). -/
def State.wrapAt (s : State) : Nat := (s.cycles / 2 ^ 48 + 1) * 2 ^ 48

/-- R28: TIME is the low 48 bits of the count, the wrap count the bits above. -/
def execTimeWrap (s : State) : Host.Outcome State Fault Refusal :=
  event s (decide (s.mode ≠ .sentinel) && s.inTick s.wrapAt) (s.reach s.wrapAt)

/-- A pending advance falls due (R41). -/
def State.epochAdvance (s : State) (h : Option Port) : State := s.reach (s.advanceAt h)

/-- R41, R42. -/
def execEpochAdvance (h : Option Port) (s : State) : Host.Outcome State Fault Refusal :=
  event s (s.advancePends h && s.inTick (s.advanceAt h)) (s.epochAdvance h)

/-- R330: a failure of Quartz stops `CLK` outside SENTINEL and freezes the PWM outputs. -/
def execClockStop (s : State) : Host.Outcome State Fault Refusal :=
  event s (decide (s.mode ≠ .sentinel)) { s.freeze with clkStopped := true }

/-- R333, R332, R505: `CLK` resumes; each converter's loop restarts in the state it has. -/
def State.clockBack (s : State) : State :=
  let s := { s with clkStopped := false }
  let s := if s.lap.run = .halted then s else s.unfreeze
  (s.orReg 0x0003 (flag 8 true)).fault 5 0x02 0

/-- R333. -/
def execClockLoss (s : State) : Host.Outcome State Fault Refusal :=
  if decide (s.mode ≠ .cold) && s.stalled then done s.clockBack else .next s

end Sys2Proof.Machine
end

