-- ==== Sys2Proof/Machine/CcFamily.lean ====
section
/-! DEFINITION. CC and attach: the meanings of the rows on levels, debounces, Try states, ErrorRecovery, Rp, VCONN and CC
over-voltage (R174 to R190). A timer's row acts where that timer runs. -/
namespace Sys2Proof.Machine

/-- Neither pin is above the over-voltage threshold, whose crossings have rows of their own (R190). -/
def pinsBelow (p : Port) (v : Pins) : Bool := decide (v.cc1 < ccOvMv p false) && decide (v.cc2 < ccOvMv p true)

/-- R174 to R178: the pins are classified anew. -/
def execCcLevelChange (p : Port) (v : Pins) (s : State) : Host.Outcome State Fault Refusal :=
  event s (decide (s.mode ≠ .sentinel) && pinsBelow p v) (s.ccLevels p v)

/-- A debounce of a facet counts: it is suspended while the comparators are ignored (R176). -/
def State.debounces (s : State) (p : Port) (run : Bool) : Bool := run && !s.ccMuted p

/-- R178, R188. -/
def execCcDebounceExpiry (p : Port) (s : State) : Host.Outcome State Fault Refusal :=
  event s (s.debounces p (s.facet p).cc.ccDeb) (s.ccTimer p .ccDebounce)

/-- A CC over-voltage stands while the facet is attached (R190). -/
def Facet.ovAttached (f : Facet) : Bool := (f.cc.ov1 || f.cc.ov2) && f.cc.attached

/-- R178, R190. -/
def execPdDebounceExpiry (p : Port) (s : State) : Host.Outcome State Fault Refusal :=
  event s (s.debounces p ((s.facet p).cc.pdDeb || (s.facet p).ovAttached)) (s.ccTimer p .pdDebounce)

/-- R178. -/
def execTryCcDebounceExpiry (p : Port) (s : State) : Host.Outcome State Fault Refusal :=
  event s (s.debounces p (s.facet p).cc.tryDeb) (s.ccTimer p .tryCcDebounce)

/-- A Try state in which tDRPTry runs (R178). -/
def TcState.trying : TcState → Bool
  | .trySrc => true | .trySnk => true | .tryWaitSrc => true
  | .disabled => false | .unattachedSnk => false | .attachWaitSnk => false | .attachedSnk => false
  | .unattachedSrc => false | .attachWaitSrc => false | .attachedSrc => false | .tryWaitSnk => false
  | .errorRecovery => false

/-- R178. -/
def execDrpTryExpiry (p : Port) (s : State) : Host.Outcome State Fault Refusal :=
  event s ((s.facet p).cc.tc.trying && !(s.facet p).cc.tryDone) (s.ccTimer p .drpTry)

/-- R178. -/
def execDrpTryWaitExpiry (p : Port) (s : State) : Host.Outcome State Fault Refusal :=
  event s (decide ((s.facet p).cc.tc = .tryWaitSnk)) (s.ccTimer p .drpTryWait)

/-- R178, R183. -/
def execDrpPhaseEnd (p : Port) (s : State) : Host.Outcome State Fault Refusal :=
  event s ((s.facet p).drp && (decide ((s.facet p).cc.tc = .unattachedSnk) || decide ((s.facet p).cc.tc = .unattachedSrc)))
    (s.ccTimer p .drpPhase)

/-- R178. -/
def execErrorRecoveryExpiry (p : Port) (s : State) : Host.Outcome State Fault Refusal :=
  event s (decide ((s.facet p).cc.tc = .errorRecovery)) (s.ccTimer p .errorRecovery)

/-- R182: a changed Rp has stayed for tRpValueChange. -/
def execRpValueChangeExpiry (p : Port) (s : State) : Host.Outcome State Fault Refusal :=
  event s (s.debounces p (s.facet p).cc.rpDeb) ((s.modCc p fun c => { c with rpDeb := false }).orReg (fx p 0x042) (flag 3 true))

/-- R178: outside the exceptions of R226, R252 and R255. -/
def execSinkVbusInvalid (p : Port) (s : State) : Host.Outcome State Fault Refusal :=
  event s (!s.vbusOk.get p && decide ((s.facet p).cc.tc = .attachedSnk)) (s.ccTimer p .vbusGone)

/-- R182: `RP_LEVEL` is written with the register's other fields as they stand. -/
def execRpLevelWrite (_ : Master) (p : Port) (lvl : BitVec 2) (s : State) : Host.Outcome State Fault Refusal :=
  powered s (s.regWrite (fx p 0x040) (withFld (s.reg (fx p 0x040)) 0 2 lvl.toNat))

/-- R187. -/
def State.vconnTrip (s : State) (p : Port) (mA : Nat) : State :=
  let s := s.modCc p fun c => { c with vconnOn := false, vconnOc := true }
  (s.orReg (fx p 0x042) (flag 4 true)).fault (portNo p) 0x06 mA

/-- R187. -/
def execVconnOvercurrent (p : Port) (mA : Nat) (s : State) : Host.Outcome State Fault Refusal :=
  event s (s.facet p).cc.vconnOn (s.vconnTrip p mA)

/-- R190. -/
def execCcOvervoltage (p : Port) (pin : CcPin) (s : State) : Host.Outcome State Fault Refusal :=
  event s true (s.ccOver p pin)

/-- R190. -/
def execCcOvervoltageClear (p : Port) (pin : CcPin) (s : State) : Host.Outcome State Fault Refusal :=
  event s true (s.ccOverEnd p pin)

/-- VBUS crosses vSafe0V (R178, R272): the guard counts from there, and an attach that waited for it goes on. -/
def State.vbusCross (s : State) (p : Port) (below : Bool) : State :=
  let s := s.modPp p fun x => { x with below := below, guardOk := x.guardOk && (below || decide (x.sw ≠ .guardWait)) }
  if below then s.ccTimer p .supply else s

/-- R178, R272. -/
def execVbusVsafe0vCrossing (p : Port) (below : Bool) (s : State) : Host.Outcome State Fault Refusal :=
  event s (decide (s.mode ≠ .sentinel)) (s.vbusCross p below)

end Sys2Proof.Machine
end

