-- ==== Sys2Proof/Machine/PdFamily.lean ====
section
/-! DEFINITION. PD messages: acknowledgement and retries (R201, R205), the rows of received messages (R212 to R215), the
firmware buffer (R217 to R219) and Hard Reset signalling (R222 to R227). A message is handled by what its own header says
it is. -/
namespace Sys2Proof.Machine

/-! ### Acknowledgement -/

/-- A GoodCRC is a valid message of the partner (R202, R227, R231). -/
def Pd.noteAck (d : Pd) (sp : Sop) : Pd :=
  { d with hrCount := 0, noResp := none, partner := d.partner || decide (sp = .sop), rev := if sp = .sop ∧ d.rev = 0 then 2 else d.rev }

/-- MessageID of the message as it was sent, header bits 11:9 (R202). -/
def TxMsg.id (m : TxMsg) : BitVec 3 := BitVec.ofNat 3 (m.hdr.toNat / 512)

/-- Firmware's message stands acknowledged (R219): what comes within tSenderResponse answers it (R212). -/
def State.fwAcked (s : State) (p : Port) (m : TxMsg) : State :=
  let t := s.cycles + 2880000
  let ask := match m.cls with
    | .control => decide (m.typ.toNat ≠ 0x10)
    | .data => decide (m.typ.toNat = 0x07)
    | .extended => decide (m.typ.toNat ∈ [0x03, 0x04, 0x06])
  (s.modPd p fun d => { d with txStat := .done, fwDue := some t, fwAsk := ask }).orReg (fx p 0x082) (flag 2 true)

/-- The cable's answer is waited for (R230). -/
def State.cableAcked (s : State) (p : Port) : State :=
  let t := s.cycles + 2592000
  s.modPd p fun d => if d.cable.isSome then { d with cableDue := some t } else d

/-- A whole message stands acknowledged (R205): the firmware's is reported, and the sequence goes on. -/
def State.txDone (s : State) (p : Port) (m : TxMsg) : State :=
  if m.fw then s.fwAcked p m else if m.sop = .sop then s.acked p m else s.cableAcked p

/-- R205, R210: the transmit MessageID advances, unless it was reset since; the next chunk of a longer message waits for its
request. -/
def State.goodCrc (s : State) (p : Port) (m : TxMsg) : State :=
  let s := s.hush p
  let s := s.modPd p fun d =>
    { d.noteAck m.sop with txId := if d.txId.get m.sop = m.id then d.txId.set m.sop (m.id + 1) else d.txId, inFlight := none }
  let s := if m.more then s.modPd p fun d => { d with chunkTx := some { m with chunk := m.chunk + 1, resends := 0, hdr := 0 } }
    else s.txDone p m
  s.idleTx p

/-- R190, R205: a GoodCRC that matches the message in flight, heard on a pin that is not isolated. -/
def execGoodcrcReceived (p : Port) (sp : Sop) (id : BitVec 3) (s : State) : Host.Outcome State Fault Refusal :=
  match (s.facet p).pd.inFlight with
  | some m => event s (decide (m.sop = sp) && decide (m.id = id) && !(s.facet p).isolated && !(s.facet p).pd.hrSending) (s.goodCrc p m)
  | none => .next s

/-- nRetryCount (R230). -/
def Facet.retries (f : Facet) : Nat := if f.rev2 then 3 else 2

/-- R205: resend with the same MessageID, or give up. -/
def State.noGoodCrc (s : State) (p : Port) (m : TxMsg) : State :=
  if m.resends < (s.facet p).retries then
    (s.modPd p fun d => { d with inFlight := some { m with resends := m.resends + 1 } }).count (fx p 0x083) 16 16
  else (s.txFailed p m).idleTx p

/-- R205. -/
def execGoodcrcTimeout (p : Port) (s : State) : Host.Outcome State Fault Refusal :=
  match (s.facet p).pd.inFlight with
  | some m => event s true (s.noGoodCrc p m)
  | none => .next s

/-- R201. -/
def execCrcErrorPacket (p : Port) (s : State) : Host.Outcome State Fault Refusal :=
  event s ((s.facet p).cc.attached && (s.facet p).pd.pdEn && !(s.facet p).isolated)
    ((s.count (fx p 0x083) 0 16).orReg (fx p 0x082) (flag 10 true))

/-! ### Received messages -/

/-- R213, R241. -/
def execSourceCapabilitiesRx (p : Port) (m : PdMsg) (s : State) : Host.Outcome State Fault Refusal :=
  event s true (s.rx p m)

/-- R213, R238. -/
def execRequestRx (p : Port) (m : PdMsg) (s : State) : Host.Outcome State Fault Refusal := event s true (s.rx p m)

/-- R213, R238. -/
def execEprRequestRx (p : Port) (m : PdMsg) (s : State) : Host.Outcome State Fault Refusal := event s true (s.rx p m)

/-- R212, R243, R252, R253. -/
def execAcceptRx (p : Port) (m : PdMsg) (s : State) : Host.Outcome State Fault Refusal := event s true (s.rx p m)

/-- R212, R243. -/
def execRejectRx (p : Port) (m : PdMsg) (s : State) : Host.Outcome State Fault Refusal := event s true (s.rx p m)

/-- R212, R243. -/
def execWaitRx (p : Port) (m : PdMsg) (s : State) : Host.Outcome State Fault Refusal := event s true (s.rx p m)

/-- R212, R243, R252, R253, R255. -/
def execPsRdyRx (p : Port) (m : PdMsg) (s : State) : Host.Outcome State Fault Refusal := event s true (s.rx p m)

/-- R220. -/
def execSoftResetRx (p : Port) (m : PdMsg) (s : State) : Host.Outcome State Fault Refusal := event s true (s.rx p m)

/-- R250, R252. -/
def execPrSwapRx (p : Port) (m : PdMsg) (s : State) : Host.Outcome State Fault Refusal := event s true (s.rx p m)

/-- R250, R251. -/
def execDrSwapRx (p : Port) (m : PdMsg) (s : State) : Host.Outcome State Fault Refusal := event s true (s.rx p m)

/-- What a probe of the non-terminated pin of a port reads from now on (R253). -/
def State.seeProbe (s : State) (p : Port) (ra : Bool) : State :=
  { s with sense := { s.sense with probe := s.sense.probe.set p ra } }

/-- R250, R253: `ra` is what a probe of the non-terminated pin reads. -/
def execVconnSwapRx (p : Port) (m : PdMsg) (ra : Bool) (s : State) : Host.Outcome State Fault Refusal :=
  event s true ((s.seeProbe p ra).rx p m)

/-- R255. -/
def execFrSwapRx (p : Port) (m : PdMsg) (s : State) : Host.Outcome State Fault Refusal := event s true (s.rx p m)

/-- R212, R236. -/
def execGetSourceCapRx (p : Port) (m : PdMsg) (s : State) : Host.Outcome State Fault Refusal := event s true (s.rx p m)

/-- R212. -/
def execGetSinkCapRx (p : Port) (m : PdMsg) (s : State) : Host.Outcome State Fault Refusal := event s true (s.rx p m)

/-- R247, R249. -/
def execEprModeRx (p : Port) (m : PdMsg) (s : State) : Host.Outcome State Fault Refusal := event s true (s.rx p m)

/-- R248. -/
def execEprKeepaliveRx (p : Port) (m : PdMsg) (s : State) : Host.Outcome State Fault Refusal := event s true (s.rx p m)

/-- R240. -/
def execGetPpsStatusRx (p : Port) (m : PdMsg) (s : State) : Host.Outcome State Fault Refusal := event s true (s.rx p m)

/-- R260. -/
def execStructuredVdmRx (p : Port) (m : PdMsg) (s : State) : Host.Outcome State Fault Refusal := event s true (s.rx p m)

/-- R258 to R263. -/
def execVdmResponseRx (p : Port) (m : PdMsg) (s : State) : Host.Outcome State Fault Refusal := event s true (s.rx p m)

/-- R262, R263. -/
def execEnterModeRx (p : Port) (m : PdMsg) (s : State) : Host.Outcome State Fault Refusal := event s true (s.rx p m)

/-- R263. -/
def execExitModeRx (p : Port) (m : PdMsg) (s : State) : Host.Outcome State Fault Refusal := event s true (s.rx p m)

/-- R213. -/
def execBistRx (p : Port) (m : PdMsg) (s : State) : Host.Outcome State Fault Refusal := event s true (s.rx p m)

/-- R213. -/
def execBistCarrierEnd (p : Port) (s : State) : Host.Outcome State Fault Refusal :=
  event s (s.facet p).pd.bistCarrier (s.modPd p fun d => { d with bistCarrier := false })

/-- R212. -/
def execGetRevisionRx (p : Port) (m : PdMsg) (s : State) : Host.Outcome State Fault Refusal := event s true (s.rx p m)

/-- R212, R236. -/
def execGetSourceInfoRx (p : Port) (m : PdMsg) (s : State) : Host.Outcome State Fault Refusal := event s true (s.rx p m)

/-- R214, R455. -/
def execSecurityRequestRx (p : Port) (m : PdMsg) (s : State) : Host.Outcome State Fault Refusal := event s true (s.rx p m)

/-- R217, R218. -/
def execFirmwareMessageRx (p : Port) (m : PdMsg) (s : State) : Host.Outcome State Fault Refusal := event s true (s.rx p m)

/-- R210, R211. -/
def execExtendedChunkRx (p : Port) (m : PdMsg) (s : State) : Host.Outcome State Fault Refusal := event s true (s.rx p m)

/-- R209. -/
def execUnchunkedExtendedRx (p : Port) (m : PdMsg) (s : State) : Host.Outcome State Fault Refusal :=
  event s true (s.rx p m)

/-- R215. -/
def execUnsupportedMessageRx (p : Port) (m : PdMsg) (s : State) : Host.Outcome State Fault Refusal :=
  event s true (s.rx p m)

/-! ### Signals -/

/-- Hard Reset signalling received (R223, R226, R136): a hold is aborted first, a sink's switch opens, and signalling of
the facet's own that overlaps is one with it. -/
def State.hardResetIn (s : State) (p : Port) : State :=
  let s := if (s.facet p).fstate = .held then s.abortHold p 1 else s
  let sent := (s.facet p).pd.hrSending
  let s := if (s.facet p).ct.prole then s else ((s.feedGone p).openSwitch p).modPd p fun d => { d with hrSink := true }
  s.hardResetEnd p sent true

/-- R190, R223. -/
def execHardResetRx (p : Port) (s : State) : Host.Outcome State Fault Refusal :=
  event s ((s.facet p).cc.attached && (s.facet p).pd.pdEn && !(s.facet p).isolated) (s.hardResetIn p)

/-- R223. -/
def execHardResetSignallingEnd (p : Port) (s : State) : Host.Outcome State Fault Refusal :=
  event s (s.facet p).pd.hrSending (s.hardResetEnd p true false)

/-- R190, R199, R255, R136. -/
def execFrSwapSignal (p : Port) (s : State) : Host.Outcome State Fault Refusal :=
  event s ((s.facet p).cc.attached && !(s.facet p).isolated)
    ((if (s.facet p).fstate = .held then s.abortHold p 2 else s).onFrSignal p)

/-! ### The firmware buffer -/

/-- A message that firmware may send (R212 to R214); `o` is its first data object. -/
def fwMaySend (cls : MsgClass) (typ : Nat) (o : Word) : Bool :=
  match cls with
  | .control => decide (typ ∈ [0x10, 0x11, 0x12, 0x15, 0x16])
  | .data => decide (typ ∈ [0x05, 0x06, 0x07]) || (decide (typ = 0x0F) && !vdmStructured o && decide (vdmSvid o = linkSvid))
  | .extended => decide (typ ∈ [0x01, 0x02, 0x03, 0x04, 0x05, 0x06, 0x07, 0x0D, 0x0E, 0x0F])

/-- `Fx_PD_TXBUF1` and the words after it. -/
def State.txWords (s : State) (p : Port) : Nat → List Word
  | 0 => []
  | n + 1 => s.txWords p n ++ [s.reg (fx p (0x089 + n))]

/-- The message in `Fx_PD_TXBUF0` to `7` for an ordered set. -/
def State.txBuffered (s : State) (p : Port) (sp : Sop) : TxMsg :=
  let w := s.reg (fx p 0x088)
  let typ := BitVec.ofNat 5 (fld w 0 5)
  let n := fld w 12 3
  let len := fld w 16 9
  let ext := w.getLsbD 15
  { sop := sp, cls := if ext then .extended else if n = 0 then .control else .data, typ := typ
    objs := s.txWords p (if ext then min 7 ((len + 3) / 4) else n), len := if ext then len else 0, chunk := 0, resends := 0
    init := true, fw := true, hdr := 0 }

/-- R219: the write is taken. -/
def State.txAllowed (s : State) (p : Port) (m : TxMsg) (sop : Nat) : Bool :=
  let f := s.facet p
  decide (f.pd.txStat ≠ .busy) && fwMaySend m.cls m.typ.toNat (m.objs.getD 0 0) && decide (m.len ≤ 26)
    && decide (f.fstate = .live) && f.cc.attached && f.pd.pdEn && decide (sop < 3) && (decide (sop = 0) || f.ct.vconnSrc)

/-- A write of `Fx_PD_TXCTL` (R219): refused, or the message is queued; one that Revision 2.0 cannot send fails (R202). -/
def State.txctl (s : State) (p : Port) (v : Word) : State :=
  let m := s.txBuffered p (sopOf (fld v 0 2))
  if !s.txAllowed p m (fld v 0 2) then s.orReg (fx p 0x082) (flag 5 true)
  else (s.modPd p fun d => { d with txStat := .busy, fwAwait := false }).send p m

/-- R219. -/
def execPdTxctl (_ : Master) (p : Port) (v : Word) (s : State) : Host.Outcome State Fault Refusal :=
  powered s (s.txctl p v)

/-- A write of 1 to `RXINFO.RELEASE`. -/
def State.rxRelease (s : State) (p : Port) : State := s.modPd p fun d => { d with rxFull := false }

/-- R217. -/
def execReleaseRxBuffer (_ : Master) (p : Port) (s : State) : Host.Outcome State Fault Refusal := powered s (s.rxRelease p)

/-- R218. -/
def execFwResponseTimeout (p : Port) (s : State) : Host.Outcome State Fault Refusal :=
  event s (s.facet p).pd.fwAwait
    (((s.modPd p fun d => { d with fwAwait := false }).orReg (fx p 0x082) (flag 6 true)).notSupported p (s.facet p).pd.rxSop)

/-- R211: a chunk request or a chunk does not come. -/
def State.chunkFailed (s : State) (p : Port) : State :=
  match (s.facet p).pd.chunkTx with
  | some t => (s.txFailed p { t with sop := .sop }).idleTx p
  | none =>
    ((s.modPd p fun d => { d with chunkRx := none }).orReg (fx p 0x082) (flag 11 true)).sendSoftReset p .sop

/-- R211. -/
def execChunkTimeout (p : Port) (s : State) : Host.Outcome State Fault Refusal :=
  event s ((s.facet p).pd.chunkTx.isSome || (s.facet p).pd.chunkRx.isSome) (s.chunkFailed p)

end Sys2Proof.Machine
end

