-- ==== Sys2Proof/Machine/PdTimers.lean ====
section
/-! DEFINITION. The timers of the PD sequences: Soft Reset and Hard Reset recovery (R221 to R227), offers and requests
(R237, R241, R243), voltage transitions (R244 to R246), PPS and EPR (R240, R248), swaps (R252 to R256) and cable discovery
(R258). A row acts where the sequence it times stands. -/
namespace Sys2Proof.Machine

/-! ### Soft Reset, collision avoidance, offers -/

/-- R221. -/
def State.softResetUnanswered (s : State) (p : Port) : State := (s.endSeq p).orderHardReset p 1

/-- R221 on SOP′ and SOP″. -/
def State.cableResetUnanswered (s : State) (p : Port) : State :=
  ((s.modPd p fun d => { d with srCable := none }).orReg (fx p 0x082) (flag 3 true)).idleTx p

/-- R221. -/
def execSoftResetAcceptTimeout (p : Port) (s : State) : Host.Outcome State Fault Refusal :=
  if (s.facet p).pd.seq = .softReset then event s true (s.softResetUnanswered p)
  else event s (s.facet p).pd.srCable.isSome (s.cableResetUnanswered p)

/-- R207. -/
def execSinkTxWaitExpiry (p : Port) (s : State) : Host.Outcome State Fault Refusal :=
  event s (s.facet p).pd.txWait ((s.modPd p fun d => { d with txWait := false }).idleTx p)

/-- R237: the facet sends or repeats its first offer: source at vSafe5V, no contract and no GoodCRC of an offer yet, nothing else
going on. -/
def State.capsDue (s : State) (p : Port) : Bool :=
  let f := s.facet p
  decide (f.fstate = .live) && f.cc.attached && f.ct.prole && f.pd.pdEn && !f.pd.mute && decide (f.pd.hrPhase = 0)
    && !f.ct.contract && f.pp.sw.conducts && decide (f.pd.capsSent < 50) && !f.pd.capsAck && f.noSeq && decide (f.pd.seq = .none)
    && f.pd.inFlight.isNone && f.pd.queue.isEmpty

/-- R237. -/
def execSourceCapRepeat (p : Port) (s : State) : Host.Outcome State Fault Refusal :=
  event s (s.capsDue p) (s.sendCaps p)

/-- The vSafe5V Request, unless R243 forbids it (log entry 24). -/
def State.safeReq (s : State) (p : Port) : Option Req :=
  if s.busAllows5 p then some (s.requestFor p 1 ((s.facet p).ct.srcCaps.getD 0 0) false) else none

/-- R241: the vSafe5V Request that follows where no `REQUEST` came. -/
def execSnkSelTimeout (p : Port) (s : State) : Host.Outcome State Fault Refusal :=
  match (s.facet p).pd.seq with
  | .snkSelect => event s true (s.sendChoice p (s.safeReq p))
  | _ => .next s

/-- The Request that follows a Wait: chosen afresh, or firmware's once more (R241, R243). -/
def State.retryReq (s : State) (p : Port) (r : Req) : Option Req :=
  if s.rf (fx p 0x100) 0 2 = 2 then some r else s.selectReq p (s.facet p).ct.srcCaps

/-- R243. -/
def execSinkRequestRetry (p : Port) (s : State) : Host.Outcome State Fault Refusal :=
  match (s.facet p).pd.seq with
  | .snkRetry r => event s true (s.sendChoice p (s.retryReq p r) true)
  | _ => .next s

/-- R243. -/
def execPsTransitionTimeout (p : Port) (s : State) : Host.Outcome State Fault Refusal :=
  match (s.facet p).pd.seq with
  | .snkAccepted _ => event s true (s.orderHardReset p 6)
  | _ => .next s

/-- R240. -/
def execPpsTimeout (p : Port) (s : State) : Host.Outcome State Fault Refusal :=
  event s ((s.facet p).ct.prole && (s.facet p).ct.contract && (s.facet p).ct.now.pps)
    ((s.orReg (fx p 0x107) (flag 3 true)).orderHardReset p 2)

/-- R248. -/
def execSourceEprKeepaliveTimeout (p : Port) (s : State) : Host.Outcome State Fault Refusal :=
  event s ((s.facet p).ct.prole && (s.facet p).ct.epr) ((s.orReg (fx p 0x107) (flag 4 true)).orderHardReset p 3)

/-- R248: Extended_Control with EPR_KeepAlive. -/
def execSinkEprKeepaliveSend (p : Port) (s : State) : Host.Outcome State Fault Refusal :=
  event s (!(s.facet p).ct.prole && (s.facet p).ct.epr) (s.send p (mkExt .sop 0x10 2 [3]).initiate)

/-- The next attempt at a SOP′ identity may come (R258): the last one has no answer yet, or its wait is over. -/
def State.cableOpen (s : State) (p : Port) : Bool :=
  let f := s.facet p
  f.cc.attached && f.ct.vconnSrc && s.bit (fx p 0x080) 1 && decide (s.rf (fx p 0x106) 0 2 = 0)
    && decide (f.pd.cable ≠ some .sopPP) && decide (f.fstate ≠ .held)

/-- R258: up to two attempts before the first offer, twenty in all, none once the cable has answered; then the limits of R259 stay. -/
def State.cableRetry (s : State) (p : Port) : State :=
  let f := s.facet p
  let n := if f.ct.hadContract then 20 else 2
  if s.rf (fx p 0x106) 7 5 < n ∧ f.pd.busyCount < 5 then s.cableIdentity p else (s.cableDone p).idleTx p

/-- R258. -/
def execDiscoverIdentityRetry (p : Port) (s : State) : Host.Outcome State Fault Refusal :=
  event s (s.cableOpen p) (s.cableRetry p)

/-! ### Hard Reset recovery -/

/-- R224 at 30 ms: the switch opens, VCONN goes off, the discharge runs. -/
def State.hrOff (s : State) (p : Port) : State :=
  ((s.openSwitch p).modPd p fun d => { d with hrPhase := 2 }).refreshVconn p

/-- R224. -/
def execHrSourceOff (p : Port) (s : State) : Host.Outcome State Fault Refusal :=
  event s (decide ((s.facet p).pd.hrPhase = 1)) (s.hrOff p)

/-- R224: VBUS has fallen below vSafe0V, and the recovery time starts. -/
def execHrVsafe0vReached (p : Port) (s : State) : Host.Outcome State Fault Refusal :=
  event s (decide ((s.facet p).pd.hrPhase = 2)) (s.modPp p fun x => { x with below := true })

/-- R224 at t₀ + 800 ms: VBUS is restored, or `SWITCH_ON` is awaited. -/
def State.hrRecovered (s : State) (p : Port) : State :=
  let s := s.modPd p fun d => { d with hrPhase := 3 }
  if s.bit (fx p 0x080) 2 then s.autoClose p else s

/-- R224. -/
def execHrRecoveryEnd (p : Port) (s : State) : Host.Outcome State Fault Refusal :=
  event s (decide ((s.facet p).pd.hrPhase = 2)) (s.hrRecovered p)

/-- R226: the grace interval ends, with the detach actions where VBUS is not valid. -/
def State.hrGraceEnd (s : State) (p : Port) : State :=
  let s := s.modPd p fun d => { d with hrSink := false }
  if s.vbusOk.get p then s else s.ccTimer p .vbusGone

/-- R226. -/
def execHrSinkGraceEnd (p : Port) (s : State) : Host.Outcome State Fault Refusal :=
  event s (s.facet p).pd.hrSink (s.hrGraceEnd p)

/-- R226, R230: no Source_Capabilities came. Hard Reset follows as USB PD gives (PRESUMED, log entry 13). -/
def execSinkWaitCapTimeout (p : Port) (s : State) : Host.Outcome State Fault Refusal :=
  event s ((s.facet p).cc.attached && !(s.facet p).ct.prole && decide ((s.facet p).ct.srcCaps = []))
    (s.orderHardReset p 6)

/-! ### Voltage transitions -/

/-- PS_RDY of a source's contract. -/
def State.srcPsRdy (s : State) (p : Port) (r : Req) : State := (s.setSeq p (.srcReady r)).send p (mkCtl .sop 0x06)

/-- R244, R246: the transition starts; a request at the present voltage has no ramp and leaves power-good as it is. -/
def State.transition (s : State) (p : Port) (r : Req) : State :=
  let f := s.facet p
  let own := s.owner p
  let s := if own then s.ppsLimit p r else s
  if r.mv = f.nowMv then s.srcPsRdy p r
  else
    let s := (s.pgDown p).modCt p fun c => { c with trans := true }
    let s := if own then s.hubVset (s.busOf p) r.mv else s
    s.setSeq p (.srcRamp r)

/-- R244. -/
def execSrcTransitionStart (p : Port) (s : State) : Host.Outcome State Fault Refusal :=
  match (s.facet p).pd.seq with
  | .srcWait r => event s true (s.transition p r)
  | _ => .next s

/-- R245: the ramp has ended and VBUS has stayed in the new window. -/
def State.hasSettled (s : State) (p : Port) (r : Req) (mv : Nat) : Bool :=
  r.window mv && !(s.owner p && match s.busConv (s.busOf p) with | some c => s.slews c | none => false)

/-- R245: power-good asserts as PS_RDY is sent. -/
def State.settled (s : State) (p : Port) (r : Req) : State :=
  let s := s.srcPsRdy p r
  if (s.facet p).pp.swObs then s.pgUp p else s

/-- R245: VBUS has stayed at `mv`, in the window, for 1 ms. -/
def execTransitionSettled (p : Port) (mv : Nat) (s : State) : Host.Outcome State Fault Refusal :=
  match (s.facet p).pd.seq with
  | .srcRamp r => event s (s.hasSettled p r mv) ((s.seeVbus p mv).settled p r)
  | _ => .next s

/-- R246. -/
def State.transitionLimit (s : State) (p : Port) : State :=
  let s := (s.postF p 0x23 1).orReg (fx p 0x107) (flag 2 true)
  let s := s.fault (portNo p) 0x08 (min 4095 (s.sense.vbus.get p / 20))
  (s.modCt p fun c => { c with trans := false }).orderHardReset p 4

/-- R246. -/
def execTransitionTimeLimit (p : Port) (s : State) : Host.Outcome State Fault Refusal :=
  match (s.facet p).pd.seq with
  | .srcRamp _ => event s true (s.transitionLimit p)
  | _ => .next s

/-! ### Swaps -/

/-- R252 at tSrcTransition. -/
def execPrSwapSourceOff (p : Port) (s : State) : Host.Outcome State Fault Refusal :=
  event s (decide ((s.facet p).pd.seq = .prs .srcWait)) (s.prsOff p)

/-- R252: VBUS is below vSafe0V; the old source becomes sink and says so. -/
def State.prsZero (s : State) (p : Port) : State :=
  (((s.endContract p).becomeSink p).setSeq p (.prs .srcPsRdy)).send p (mkCtl .sop 0x06)

/-- R252. -/
def execPrSwapVsafe0v (p : Port) (s : State) : Host.Outcome State Fault Refusal :=
  event s (decide ((s.facet p).pd.seq = .prs .srcOff)) (s.prsZero p)

/-- A swap that fails ends in ErrorRecovery, SWAP posted with bit 2 clear (R252, R256). -/
def State.swapFailed (s : State) (p : Port) (kind : Nat) : State := ((s.postSwap p kind false).endSeq p).errorRecovery p

/-- A PR_Swap waits for the partner's PS_RDY. -/
def Seq.prsWaits : Seq → Bool
  | .prs .snkWait => true
  | .prs .srcPsRdy => true
  | _ => false

/-- R252. -/
def execPrSwapTimeout (p : Port) (s : State) : Host.Outcome State Fault Refusal :=
  event s (s.facet p).pd.seq.prsWaits (s.swapFailed p (s.facet p).swapKind)

/-- R253. -/
def execVconnSwapTimeout (p : Port) (s : State) : Host.Outcome State Fault Refusal :=
  event s (decide ((s.facet p).pd.seq = .vcs .waitPsRdy)) (((s.postSwap p 3 false).endSeq p).orderHardReset p 5)

/-- An FR_Swap waits for its message or for PS_RDY (R256). -/
def Seq.frsWaits : Seq → Bool
  | .frs .recognised => true
  | .frs .waitPsRdy => true
  | _ => false

/-- R256: the converter keeps regulating the bus. -/
def execFrSwapTimeout (p : Port) (s : State) : Host.Outcome State Fault Refusal :=
  event s (s.facet p).pd.seq.frsWaits (s.swapFailed p 2)

end Sys2Proof.Machine
end

