-- ==== Sys2Proof/Machine/PowerFamily.lean ====
section
/-! DEFINITION. The events of the port power path (R268 to R293, R296): the close sequence, the current limit and its fault
timer, retries, damaged switches, discharge and power-good. -/
namespace Sys2Proof.Machine

/-! ### The close sequence -/

/-- R272, R274: the gate ramp begins; another sink that awaits its guard on that bus is now admitted (R299). -/
def State.guardPassed (s : State) (p : Port) : State :=
  let s := s.modPp p fun x => { x with sw := .ramping, guardOk := true, disch := .off }
  if (s.facet p).ct.prole then s else s.admitOthers p

/-- The guard is awaited, and the side to be energised is below vSafe0V: a sink's bus that no other feed supplies. -/
def State.guardReady (s : State) (p : Port) : Bool :=
  decide ((s.facet p).pp.sw = .guardWait) && s.energisedBelow p
    && ((s.facet p).ct.prole || !s.otherFeed (s.busOf p) (portNo p + 1))

/-- R272. -/
def execGuardMet (p : Port) (s : State) : Host.Outcome State Fault Refusal :=
  event s (s.guardReady p) (s.guardPassed p)

/-- Voltage of the side a close would bring up, 20 mV. -/
def State.energisedV (s : State) (p : Port) : Nat :=
  (if (s.facet p).ct.prole then s.sense.vbus.get p else s.nbus (s.busOf p)) / 20

/-- R273. -/
def State.guardAbandoned (s : State) (p : Port) : State :=
  let v := s.energisedV p
  (((s.openSwitch p).refreshDisch p).orReg (fx p 0x145) (flag 9 true)).fault (portNo p) 0x0E v

/-- R273. -/
def execGuardTimeout (p : Port) (s : State) : Host.Outcome State Fault Refusal :=
  event s (decide ((s.facet p).pp.sw = .guardWait)) (s.guardAbandoned p)

/-- R274: the ramp has ended and the stall timer starts. -/
def execGateRampEnd (p : Port) (s : State) : Host.Outcome State Fault Refusal :=
  event s (decide ((s.facet p).pp.sw = .ramping)) (s.modPp p fun x => { x with stallRun := true })

/-- The pair is closed: regulating while it holds its current at the limit. -/
def Pp.closed (x : Pp) : Pp :=
  { x with swObs := true, stallRun := false, sw := if x.ilimAct then .regulating else .closed }

/-- R274, R288. -/
def execSwObsRise (p : Port) (s : State) : Host.Outcome State Fault Refusal :=
  event s (decide ((s.facet p).pp.sw = .ramping)) (s.modPp p Pp.closed)

/-- R289: GATE STALL. The facet stays LIVE. -/
def State.gateStalled (s : State) (p : Port) : State :=
  let st := swCode (s.facet p).pp.sw
  let s := (s.openSwitch p).modPp p fun x => { x with stall := true }
  ((s.orReg (fx p 0x145) (flag 3 true)).postF p 0x19 2).fault (portNo p) 0x04 st

/-- R289. -/
def execStallTimeout (p : Port) (s : State) : Host.Outcome State Fault Refusal :=
  event s ((s.facet p).pp.stallRun && !(s.facet p).pp.swObs) (s.gateStalled p)

/-- R289: `SW_OBS` has fallen while the pair is commanded closed. -/
def execGateStall (p : Port) (s : State) : Host.Outcome State Fault Refusal :=
  event s ((s.facet p).pp.swCmd && (s.facet p).pp.swObs) (s.gateStalled p)

/-! ### Power-good -/

/-- Power-good follows VBUS: not in a hold, where it keeps its state (R125), nor in a transition, which ends it itself (R245). -/
def State.pgMay (s : State) (p : Port) : Bool := decide ((s.facet p).fstate ≠ .held) && !(s.facet p).ct.trans

/-- R225, R252, R292: power-good asserts; Hard Reset recovery ends with it, and the new source of a PR_Swap sends
PS_RDY. -/
def State.pgAsserted (s : State) (p : Port) : State :=
  let s := s.pgUp p
  let s := if (s.facet p).pd.hrPhase = 3 then (s.modPd p fun d => { d with hrPhase := 0 }).refreshVconn p else s
  match (s.facet p).pd.seq with
  | .prs .snkClosing => (s.setSeq p (.prs .snkPsRdy)).send p (mkCtl .sop 0x06)
  | _ => s

/-- R292. -/
def execPowerGoodAssert (p : Port) (mv : Nat) (s : State) : Host.Outcome State Fault Refusal :=
  event s (s.pgMay p && (s.facet p).pp.swObs && !(s.facet p).pp.pg && (s.facet p).window mv) ((s.seeVbus p mv).pgAsserted p)

/-- R292: VBUS leaves the window. -/
def execVbusWindowExit (p : Port) (mv : Nat) (s : State) : Host.Outcome State Fault Refusal :=
  event s (s.pgMay p && (s.facet p).pp.pg && !(s.facet p).window mv) ((s.seeVbus p mv).pgDown p)

/-! ### Current limit and fault timer -/

/-- Regulation at `ILIM` begins (R280, R281). -/
def State.ilimStart (s : State) (p : Port) : State :=
  let s := s.modPp p fun x =>
    { x with ilimAct := true, timing := true, ftSince := some s.cycles, sw := if x.sw = .closed then .regulating else x.sw }
  (s.orReg (fx p 0x145) (flag 10 true)).postF p 0x16 0

/-- R280; in a hold the limit aborts it first, and the fault timer runs on (R136). -/
def State.ilimEntered (s : State) (p : Port) : State :=
  if (s.facet p).fstate = .held then
    let s := s.abortHold p 3
    if (s.facet p).pp.sw.conducts then s.ilimStart p else s
  else s.ilimStart p

/-- R280. -/
def execIlimEnter (p : Port) (s : State) : Host.Outcome State Fault Refusal :=
  event s ((s.facet p).pp.sw.conducts && !(s.facet p).pp.ilimAct) (s.ilimEntered p)

/-- R280: the bus-side gate is fully enhanced again. -/
def State.ilimEnded (s : State) (p : Port) : State :=
  (s.modPp p fun x => { x with ilimAct := false, ftCount := x.ftNow s.cycles, ftSince := none, sw := if x.sw = .regulating then .closed else x.sw }).postF p 0x17 0

/-- R280. -/
def execIlimExit (p : Port) (s : State) : Host.Outcome State Fault Refusal :=
  event s (s.facet p).pp.ilimAct (s.ilimEnded p)

/-- R282, R283: the trip at a drop across the pair, in 20 mV: by the safe-operating-area time where that is the smaller. -/
def State.timerTrip (s : State) (p : Port) (drop : Nat) : State :=
  let code := s.rf (fx p 0x140) 0 7
  let soa := s.soaRules p (20 * drop)
  let t := s.faultTime p (20 * drop)
  let s := s.trip p (if soa then 2 else 1)
  let s := s.modPp p fun x => { x with ftLast := t, tripAt := s.cycles }
  if soa then s.fault (portNo p) 0x03 drop else s.fault (portNo p) 0x02 code

/-- The fault timer runs in a conducting pair, and reaches the effective fault time before the next tick boundary. -/
def State.faultMay (s : State) (p : Port) (drop : Nat) : Bool :=
  (s.facet p).pp.timing && (s.facet p).pp.sw.conducts
    && (match s.faultDue p (20 * drop) with | some t => s.inTick t | none => false)

/-- R281 to R283: TIME reaches the cycle of the trip, which stands though the port leaves regulation in that cycle. -/
def execFaultTimerExpiry (p : Port) (drop20mV : Nat) (s : State) : Host.Outcome State Fault Refusal :=
  event s (s.faultMay p drop20mV) ((s.reach ((s.faultDue p (20 * drop20mV)).getD 0)).timerTrip p drop20mV)

/-- R281: out of regulation for 1 ms. -/
def execFaultTimerClear (p : Port) (s : State) : Host.Outcome State Fault Refusal :=
  event s ((s.facet p).pp.timing && !(s.facet p).pp.ilimAct) (s.modPp p fun x => { x with timing := false, ftCount := 0 })

/-- R285: the off time has passed; the close sequence runs and the facet returns to LIVE. -/
def State.reclose (s : State) (p : Port) : State :=
  let s := s.modPp p fun x => { x with retryUsed := satInc 15 x.retryUsed }
  let s := (s.closeSwitch p).setFState p .live
  s.count (fx p 0x146) 16 16

/-- R285. -/
def execRetryOffTimeExpiry (p : Port) (s : State) : Host.Outcome State Fault Refusal :=
  event s (decide ((s.facet p).fstate = .tripped) && decide ((s.facet p).pp.sw = .retryWait) && s.inTick (s.retryAt p))
    ((s.reach (s.retryAt p)).reclose p)

/-- R286: closed and out of regulation for 1 s. -/
def execRetryCountReload (p : Port) (s : State) : Host.Outcome State Fault Refusal :=
  event s ((s.facet p).pp.swObs && !(s.facet p).pp.ilimAct) (s.modPp p fun x => { x with retryUsed := 0 })

/-! ### Damaged switches and discharge -/

/-- R290: a LEAK may be raised: the pair is commanded open, and for the VBUS kind the discharge runs. -/
def State.mayLeak (s : State) (p : Port) : LeakKind → Bool
  | .gate => !(s.facet p).pp.swCmd
  | .vbus => !(s.facet p).pp.swCmd && !(s.facet p).partnerSourcing && decide ((s.facet p).pp.disch ≠ .off)

/-- R291: the selector disconnects the port. -/
def State.leaked (s : State) (p : Port) (k : LeakKind) : State :=
  let v := s.sense.vbus.get p / 20
  let s := s.modPp p fun x => { x with leak := true, leakNow := some k, selOpen := true }
  ((s.orReg (fx p 0x145) (flag 2 true)).postF p 0x19 1).fault (portNo p) 0x05 v

/-- R290, R291. -/
def execLeak (p : Port) (k : LeakKind) (s : State) : Host.Outcome State Fault Refusal :=
  event s (s.mayLeak p k) (s.leaked p k)

/-- R277: the strong discharge gives way to the bleeder. -/
def execDischargeEnd (p : Port) (s : State) : Host.Outcome State Fault Refusal :=
  event s (decide ((s.facet p).pp.disch = .strong) && decide ((s.facet p).fstate ≠ .held)) (s.modPp p fun x => { x with disch := .bleeder })

/-- R269: `BUS` is written with the register's other fields as they stand. -/
def execPpBusWrite (_ : Master) (p : Port) (bus : Bus) (s : State) : Host.Outcome State Fault Refusal :=
  powered s (s.regWrite (fx p 0x142) (withFld (s.reg (fx p 0x142)) 21 1 (busNo bus)))

/-! ### Reverse blocking -/

/-- R296. -/
def State.reverseBlocked (s : State) (p : Port) : State :=
  (s.modPp p fun x => { x with revblk := true }).orReg (fx p 0x145) (flag 7 true)

/-- R296: a sink feed sees reverse current. -/
def execReverseBlock (p : Port) (s : State) : Host.Outcome State Fault Refusal :=
  event s ((s.facet p).sinking && (s.facet p).pp.sw.conducts) (s.reverseBlocked p)

/-- R296: forward conduction resumes. -/
def execReverseBlockRelease (p : Port) (s : State) : Host.Outcome State Fault Refusal :=
  event s (s.facet p).pp.revblk (s.modPp p fun x => { x with revblk := false })

end Sys2Proof.Machine
end

