-- ==== Sys2Proof/Machine/BatFamily.lean ====
section
/-! DEFINITION. The events of the battery (R336 to R360): charge phases, removal, battery states, temperature, the gauge and
the lockout. -/
namespace Sys2Proof.Machine

/-! ### Charging -/

/-- The converter a charge may start on now (R346 to R349): from IDLE and DONE with the state-of-charge condition, from
SUSPENDED without it. -/
def State.chargeReady (s : State) : Option Conv :=
  let b := s.hub.bat
  let phase := ((decide (b.phase = .idle) || decide (b.phase = .done)) && s.socWants) || decide (b.phase = .suspended)
  if phase && s.chargeAllowed then s.chargeConv.filter s.remainderOk else none

/-- R346. -/
def execChargeStart (s : State) : Host.Outcome State Fault Refusal :=
  match s.chargeReady with
  | some c => powered s (s.startCharge c)
  | none => .next s

/-- The pack is seen at a voltage. -/
def State.seeBat (s : State) (mv : Nat) : State := { s with sense := { s.sense with bat := mv } }

/-- R349: the pack at or above the precharge threshold. -/
def execPrechargeComplete (mv : Nat) (s : State) : Host.Outcome State Fault Refusal :=
  event s (decide (s.hub.bat.phase = .precharge) && decide (s.cells * s.preMv ≤ mv)) ((s.seeBat mv).setPhase .cc)

/-- R349: the pack at the effective charge voltage. -/
def execChargeCvEntry (mv : Nat) (s : State) : Host.Outcome State Fault Refusal :=
  event s (decide (s.hub.bat.phase = .cc) && decide (s.packVchg ≤ mv)) ((s.seeBat mv).setPhase .cv)

/-- R349. -/
def execStoreSocReached (s : State) : Host.Outcome State Fault Refusal :=
  event s s.storeReached s.chargeDone

/-- R349, R354: the gauge is set full and `CHG_FULL` cleared. -/
def State.cvTerminated (s : State) : State :=
  let s := if s.gaugeOn then s.gaugeFrom (s.tableSoc s.packVchg) s.hub.bat.gaugeValid else s
  (s.modBat fun b => { b with full := false }).chargeDone

/-- R349, R354: the current has been below the end current for 60 s. -/
def execCvTermination (s : State) : Host.Outcome State Fault Refusal :=
  dueEvent s (lasts s.hub.bat.cvLow 5760000000) (decide (s.hub.bat.phase = .cv)) State.cvTerminated

/-- A charge times out (R349). -/
def State.chargeTimedOut (s : State) : State :=
  let ph := chgCode s.hub.bat.phase
  ((s.stopCharge .timeout).orReg 0x08CF (flag 3 true)).fault 4 0x15 ph

/-- The cycle in which PRECHARGE has lasted `PRE_TO` minutes (R349). -/
def State.preLimit (s : State) : Nat := s.hub.bat.chgSince + (5760000000 * max 1 (s.rf 0x08C7 24 8) - s.hub.bat.preFor)

/-- The cycle in which the charge has lasted `CHG_TO` hours (R349). -/
def State.chgLimit (s : State) : Nat := s.hub.bat.chgSince + (345600000000 * max 1 (s.rf 0x08C7 16 8) - s.hub.bat.chgFor)

/-- R349. -/
def execPrechargeTimeout (s : State) : Host.Outcome State Fault Refusal :=
  dueEvent s (some s.preLimit) (decide (s.hub.bat.phase = .precharge)) State.chargeTimedOut

/-- R349. -/
def execChargeTimeout (s : State) : Host.Outcome State Fault Refusal :=
  dueEvent s (some s.chgLimit) s.hub.bat.phase.main State.chargeTimedOut

/-! ### Removal and battery states -/

/-- A charging converter's battery-side legs are held off and its charge ends (R357). -/
def Cv.cutLegs (v : Cv) : Cv := if v.charge then { v with legsOff := true }.endCharge else v

/-- R357: charging resumes only after a new qualification (R358). -/
def State.removalEdge (s : State) : State :=
  let s := (s.modCv .cv1 Cv.cutLegs).modCv .cv2 Cv.cutLegs
  (s.modBat fun b => { b with requalify := true, okSince := none, goneT := 0 }).setPhase .suspended

/-- R357. -/
def execBatteryRemovalEdge (s : State) : Host.Outcome State Fault Refusal := event s s.charging s.removalEdge

/-- R345, R358: absent, or below 2.0 V, at 3 consecutive ticks. -/
def execBatteryRemovalConfirm (s : State) : Host.Outcome State Fault Refusal :=
  event s (decide (s.hub.bat.st ≠ .absent) && decide (s.hub.bat.st ≠ .unconfigured) && decide (3 ≤ s.hub.bat.goneT)) s.removeBat

/-- R345: `BAT+` at 2.0 V or above with no absence reading. -/
def execBatteryInserted (mv : Nat) (s : State) : Host.Outcome State Fault Refusal :=
  event s (decide (s.hub.bat.st = .absent) && !s.absentReading && decide (2000 ≤ mv))
    (((s.seeBat mv).orReg 0x08CF (flag 1 true)).setBat .qualifying)

/-- The battery becomes FAULT by over-voltage, which sets `BAT_OV`, or by band 6 (R345). -/
def State.batFault (s : State) (ov : Bool) : State :=
  let s := if ov then s.orReg 0x08CF (flag 5 true) else s
  (s.setBat .fault).fault 4 0x13 s.sense.bat

/-- R345: damaged by deep discharge. -/
def State.batDeep (s : State) : State :=
  ((s.modBat fun b => { b with deep := true }).setBat .fault).fault 4 0x14 s.sense.bat

/-- The battery becomes DEPLETED (R345). -/
def State.batDepleted (s : State) : State := (s.orReg 0x08CF (flag 6 true)).setBat .depleted

/-- The pack is above 107 % of its charge voltage (R345). -/
def State.batOver (s : State) : Bool := decide (107 * s.packVchg < 100 * s.sense.bat)

/-- The state a qualified pack takes by its voltage (R345). -/
def State.qualifiedState (s : State) : State :=
  if s.sense.bat < s.cells * s.damageMv then s.batDeep
  else if s.batOver then s.batFault true
  else if s.hub.bat.band = 6 then s.batFault false
  else if s.sense.bat < s.cells * 10 * s.vcut then s.batDepleted
  else s.setBat .present

/-- The battery-side legs may switch again, but under the floor's clamp (R22, R358). -/
def State.legsBack (s : State) : State :=
  let held := s.hub.bat.clampLatch
  s.modHub fun h => { h with cv1 := { h.cv1 with legsOff := held }, cv2 := { h.cv2 with legsOff := held }
                             bat := { h.bat with requalify := false } }

/-- R345, R353, R358: a pack has been valid for 2 s. -/
def State.batQualified (s : State) : State :=
  let s := s.legsBack
  if s.hub.bat.st = .qualifying then
    let s := if s.gaugeOn && !s.hub.bat.gaugeValid then s.gaugeFrom (s.tableSoc s.sense.bat) false else s
    s.qualifiedState
  else s

/-- R345, R358: valid for 2 s. -/
def execBatteryQualified (s : State) : Host.Outcome State Fault Refusal :=
  dueEvent s (lasts s.hub.bat.okSince 192000000) (decide (s.hub.bat.st = .qualifying) || s.hub.bat.requalify)
    State.batQualified

/-- R345: below the cut-off at 16 consecutive ticks. -/
def execBatteryDepleted (s : State) : Host.Outcome State Fault Refusal :=
  event s (decide (s.hub.bat.st = .present) && decide (16 ≤ s.hub.bat.lowT)) s.batDepleted

/-- R345: above the cut-off and 0.10 V a cell at 16 consecutive ticks. -/
def execBatteryRecovered (s : State) : Host.Outcome State Fault Refusal :=
  event s (decide (s.hub.bat.st = .depleted) && decide (16 ≤ s.hub.bat.highT)) (s.setBat .present)

/-- R345: above 107 % of the charge voltage at 3 ticks. -/
def execBatteryOvervoltageFault (s : State) : Host.Outcome State Fault Refusal :=
  event s (s.batLive && decide (3 ≤ s.hub.bat.ovT)) (s.batFault true)

/-- R345: the pack below the damage voltage. -/
def execBatteryDeepDischarge (mv : Nat) (s : State) : Host.Outcome State Fault Refusal :=
  event s ((s.batLive || decide (s.hub.bat.st = .qualifying)) && decide (mv < s.cells * s.damageMv)) (s.seeBat mv).batDeep

/-! ### Temperature -/

/-- R340: the envelopes narrow at once. -/
def State.ntcFailed (s : State) (tC : Int) : State :=
  let s := (s.modBat fun b => { b with ntcOk := false }).orReg 0x08CF (flag 4 true)
  (s.judgeCharge.refreshBat).fault 4 0x12 (sfld 16 tC)

/-- R340: out of range at 3 consecutive ticks. -/
def execNtcFault (tC : Int) (s : State) : Host.Outcome State Fault Refusal :=
  event s ((decide (tC < -40) || decide (100 < tC)) && decide (3 ≤ s.hub.bat.ntcT)) (s.ntcFailed tC)

/-- R341, R345. -/
def State.bandTo (s : State) (band : BitVec 3) : State :=
  let s := s.modBat fun b => { b with band := band }
  let s := if band = 6 ∧ s.batLive = true then s.batFault false else s
  s.judgeCharge.refreshBat

/-- R341: the reading has lain in the new band at 16 consecutive ticks. -/
def execBandChange (band : BitVec 3) (s : State) : Host.Outcome State Fault Refusal :=
  event s (decide (band = s.hub.bat.bandSeen) && decide (16 ≤ s.hub.bat.bandT) && decide (band ≠ s.hub.bat.band))
    (s.bandTo band)

/-! ### Gauge -/

/-- 1 mA for 100 µs in the gauge's unit (R350). -/
def sampleUnit : Int := 96000000

/-- The current sense reaches the ends of its scale at 4095 × 4 mA: such a sample carries VALID = 0 (R365, R386). -/
def sampleValid (mA : Int) : Bool := decide (mA.natAbs < 16380)

/-- R350: a sample marked invalid is replaced by the last valid one. Its two conversions delay the main path (R386, R387), and the
next follows 100 µs later. -/
def State.gaugeSampled (s : State) (mA : Int) : State :=
  let i := if sampleValid mA then mA else s.hub.bat.lastMa
  let still := decide (-10 ≤ i) && decide (i ≤ 10)
  let s := s.modBat fun b => { b with lastMa := i, restSince := since still s.cycles b.restSince, sampleAt := s.cycles + 9600 }
  (s.gaugeFlow (i * sampleUnit)).gaugeConverts 2

/-- R350, R386; in SENTINEL the estimate of R351 takes its place. -/
def execGaugeSample (mA : Int) (s : State) : Host.Outcome State Fault Refusal :=
  dueEvent s (some s.hub.bat.sampleAt) s.gaugePath (State.gaugeSampled · mA)

/-- R355: the capacity a span of `d` per mille of the table bounds, in mAh; `q` is the charge counted across it. -/
def spanMah (q d : Int) : Int := if d = 0 then 0 else q * 1000 / (d * 1000 * uAh)

/-- R355: a capacity within ±20 % of `FCC` is learnt. -/
def State.learn (s : State) (cap : Int) : State :=
  let f : Int := s.hub.bat.fcc
  if 80 * f ≤ 100 * cap ∧ 100 * cap ≤ 120 * f then
    ((s.modBat fun b => { b with fcc := Int.toNat ((3 * f + cap) / 4) }).orReg 0x08CF (flag 8 true)).judgeEol
  else s

/-- A rest correction at a pack voltage (R353, R355): the span runs from the last correction that closed one (log entry
32). -/
def State.restCorrected (s : State) (packMv : Nat) : State :=
  let soc : Int := s.tableSoc packMv
  let b := s.hub.bat
  let d := soc - b.lastRest.getD soc
  let wide := decide (400 ≤ d.natAbs)
  let s := if wide then s.learn (spanMah b.counted d) else s
  let s := s.gaugeFrom soc.toNat true
  if wide || b.lastRest.isNone then s.modBat fun b => { b with lastRest := some soc, counted := 0 } else s

/-- R353: within ±10 mA for 2 h, the time in SENTINEL counted; the next one needs another 2 h (log entry 79). -/
def execRestCorrection (packMv : Nat) (s : State) : Host.Outcome State Fault Refusal :=
  dueEvent s (lasts s.hub.bat.restSince 691200000000) (s.gaugeOn && decide (s.mode ≠ .sentinel)) fun s =>
    (s.restCorrected packMv).modBat fun b => { b with restSince := some s.cycles }

/-! ### Lockout -/

/-- No VBUS and no `AUXIN` is valid. -/
def State.noFeedInput (s : State) : Bool := !(s.vbusOk.a || s.vbusOk.b || s.vbusOk.c || s.vbusOk.d || s.auxOk)

/-- R359: the record, the latch, `BAT+` invalid, and the brown-out sequence. -/
def State.lockedOut (s : State) : State :=
  let s := s.jrn 0x07 (leBytes 2 s.sense.bat)
  let s := (s.modBat fun b => { b with lockoutLatch := true }).setSupply .bat false
  s.brownOut

/-- R359. -/
def execLockout (s : State) : Host.Outcome State Fault Refusal :=
  event s (decide (s.hub.bat.st = .depleted) && s.noFeedInput && s.bit 0x08C0 12 && !s.bow) s.lockedOut

/-- R360: the latch releases, with the device in COLD too. -/
def execLockoutRelease (s : State) : Host.Outcome State Fault Refusal :=
  if s.hub.bat.lockoutLatch && !s.noFeedInput then
    .next { s with hub := { s.hub with bat := { s.hub.bat with lockoutLatch := false } } }
  else .next s

end Sys2Proof.Machine
end

