-- ==== Sys2Proof/Machine/FacetFamily.lean ====
section
/-! DEFINITION. The meanings of the facet commands (R44, R229, R266), of the end of an authentication exchange (R264) and
of the reconfiguration commands and events (R119 to R140). -/
namespace Sys2Proof.Machine

/-- `GO_LIVE` (R39). -/
def execGoLive (p : Port) (epoch : Byte) (arg : Half) (src : Src) (s : State) : Host.Outcome State Fault Refusal :=
  powered s (s.unitRow (some p) 0x01 epoch arg.toNat src)

/-- `GO_OFF` (R39). -/
def execGoOff (p : Port) (epoch : Byte) (arg : Half) (src : Src) (s : State) : Host.Outcome State Fault Refusal :=
  powered s (s.unitRow (some p) 0x02 epoch arg.toNat src)

/-- `SWITCH_ON` (R271, R274). -/
def execSwitchOn (p : Port) (epoch : Byte) (arg : Half) (src : Src) (s : State) : Host.Outcome State Fault Refusal :=
  powered s (s.unitRow (some p) 0x03 epoch arg.toNat src)

/-- `SWITCH_OFF` (R276, R284). -/
def execSwitchOff (p : Port) (epoch : Byte) (arg : Half) (src : Src) (s : State) : Host.Outcome State Fault Refusal :=
  powered s (s.unitRow (some p) 0x04 epoch arg.toNat src)

/-- `HARD_RESET` (R222, R229). -/
def execHardReset (p : Port) (epoch : Byte) (arg : Half) (src : Src) (s : State) : Host.Outcome State Fault Refusal :=
  powered s (s.unitRow (some p) 0x05 epoch arg.toNat src)

/-- `QUARANTINE` (R39). -/
def execQuarantine (p : Port) (epoch : Byte) (arg : Half) (src : Src) (s : State) : Host.Outcome State Fault Refusal :=
  powered s (s.unitRow (some p) 0x06 epoch arg.toNat src)

/-- `REPAIR` (R40, R442). -/
def execRepair (p : Port) (epoch : Byte) (arg : Half) (src : Src) (s : State) : Host.Outcome State Fault Refusal :=
  powered s (s.unitRow (some p) 0x40 epoch arg.toNat src)

/-- `SOFT_RESET` (R221, R229). -/
def execSoftReset (p : Port) (epoch : Byte) (arg : Half) (src : Src) (s : State) : Host.Outcome State Fault Refusal :=
  powered s (s.unitRow (some p) 0x07 epoch arg.toNat src)

/-- `CABLE_RESET` (R203, R229). -/
def execCableReset (p : Port) (epoch : Byte) (arg : Half) (src : Src) (s : State) : Host.Outcome State Fault Refusal :=
  powered s (s.unitRow (some p) 0x08 epoch arg.toNat src)

/-- `SEND_CAPS` (R234, R266). -/
def execSendCaps (p : Port) (epoch : Byte) (arg : Half) (src : Src) (s : State) : Host.Outcome State Fault Refusal :=
  powered s (s.unitRow (some p) 0x10 epoch arg.toNat src)

/-- `REQUEST` (R241, R266). -/
def execRequest (p : Port) (epoch : Byte) (arg : Half) (src : Src) (s : State) : Host.Outcome State Fault Refusal :=
  powered s (s.unitRow (some p) 0x11 epoch arg.toNat src)

/-- `PR_SWAP` (R250). -/
def execPrSwap (p : Port) (epoch : Byte) (arg : Half) (src : Src) (s : State) : Host.Outcome State Fault Refusal :=
  powered s (s.unitRow (some p) 0x12 epoch arg.toNat src)

/-- `DR_SWAP` (R250). -/
def execDrSwap (p : Port) (epoch : Byte) (arg : Half) (src : Src) (s : State) : Host.Outcome State Fault Refusal :=
  powered s (s.unitRow (some p) 0x13 epoch arg.toNat src)

/-- `VCONN_SWAP` (R250). -/
def execVconnSwap (p : Port) (epoch : Byte) (arg : Half) (src : Src) (s : State) : Host.Outcome State Fault Refusal :=
  powered s (s.unitRow (some p) 0x14 epoch arg.toNat src)

/-- `EPR_ENTER` (R249, R266). -/
def execEprEnter (p : Port) (epoch : Byte) (arg : Half) (src : Src) (s : State) : Host.Outcome State Fault Refusal :=
  powered s (s.unitRow (some p) 0x15 epoch arg.toNat src)

/-- `EPR_EXIT` (R249, R266). -/
def execEprExit (p : Port) (epoch : Byte) (arg : Half) (src : Src) (s : State) : Host.Outcome State Fault Refusal :=
  powered s (s.unitRow (some p) 0x16 epoch arg.toNat src)

/-- `DISCOVER` (R258, R260). -/
def execDiscover (p : Port) (epoch : Byte) (arg : Half) (src : Src) (s : State) : Host.Outcome State Fault Refusal :=
  powered s (s.unitRow (some p) 0x17 epoch arg.toNat src)

/-- `ENTER_MODE` (R262). -/
def execEnterMode (p : Port) (epoch : Byte) (arg : Half) (src : Src) (s : State) : Host.Outcome State Fault Refusal :=
  powered s (s.unitRow (some p) 0x18 epoch arg.toNat src)

/-- `EXIT_MODE` (R263). -/
def execExitMode (p : Port) (epoch : Byte) (arg : Half) (src : Src) (s : State) : Host.Outcome State Fault Refusal :=
  powered s (s.unitRow (some p) 0x19 epoch arg.toNat src)

/-- `AUTH_START` (R264). -/
def execAuthStart (p : Port) (epoch : Byte) (arg : Half) (src : Src) (s : State) : Host.Outcome State Fault Refusal :=
  powered s (s.unitRow (some p) 0x1A epoch arg.toNat src)

/-- The result of the exchange, or none yet: then it ends by the partner's silence (R264). -/
def Facet.authIs (f : Facet) (r : AuthResult) : Bool := f.ct.authRun && decide (f.ct.authX.result.getD .unsupported = r)

/-- A Type-C Authentication exchange ends (R264). -/
def execAuthComplete (p : Port) (r : AuthResult) (s : State) : Host.Outcome State Fault Refusal :=
  event s ((s.facet p).authIs r) ((s.authEnd p r).idleTx p)

/-! ### Reconfiguration -/

/-- `RCFG_PREPARE` (R119, R121). -/
def execRcfgPrepare (u : Option Port) (epoch : Byte) (arg : Half) (src : Src) (s : State) :
    Host.Outcome State Fault Refusal :=
  powered s (s.unitRow u 0x30 epoch arg.toNat src)

/-- `RCFG_REVERT` (R119, R121). -/
def execRcfgRevert (u : Option Port) (epoch : Byte) (arg : Half) (src : Src) (s : State) :
    Host.Outcome State Fault Refusal :=
  powered s (s.unitRow u 0x33 epoch arg.toNat src)

/-- `RCFG_APPLY` (R124, R125, R137, R139). -/
def execRcfgApply (u : Option Port) (epoch : Byte) (arg : Half) (src : Src) (s : State) :
    Host.Outcome State Fault Refusal :=
  powered s (s.unitRow u 0x31 epoch arg.toNat src)

/-- `RCFG_CANCEL` (R123). -/
def execRcfgCancel (u : Option Port) (epoch : Byte) (arg : Half) (src : Src) (s : State) :
    Host.Outcome State Fault Refusal :=
  powered s (s.unitRow u 0x32 epoch arg.toNat src)

/-- The phase of a unit's reconfiguration block. -/
def State.rcPhase (s : State) : Option Port → Phase
  | some p => (s.facet p).rc.phase
  | none => s.hub.rc.phase

/-- The checks of a prepare end (R121, R144); a loader command that waited is judged (R142). -/
def State.prepareEnd (s : State) : Option Port → State
  | some p => (s.prepareDoneF p).cfgWaiting
  | none => s.prepareDoneH.cfgWaiting

/-- A prepare ends READY or FAILED (R121). -/
def execRcfgPrepareDone (u : Option Port) (s : State) : Host.Outcome State Fault Refusal :=
  event s (decide (s.rcPhase u = .preparing)) (s.prepareEnd u)

/-- A hold's verification ends (R129, R130, R132). -/
def State.releaseUnit (s : State) (v : Verify) : Option Port → State
  | some p => s.verifyF p v
  | none => s.verifyH v

/-- A hold is released (R132, R140). -/
def execRcfgRelease (u : Option Port) (v : Verify) (s : State) : Host.Outcome State Fault Refusal :=
  event s (decide (s.rcPhase u = .holding)) (s.releaseUnit v u)

/-- A hold reaches its limit and rolls back with `ERR` 0x22 (R130). -/
def execRcfgHoldLimit (u : Option Port) (s : State) : Host.Outcome State Fault Refusal :=
  event s (decide (s.rcPhase u = .holding)) (s.releaseUnit .timeout u)

/-- The verification of an apply on an OFF facet ends (R137). -/
def execOffApplyVerifyEnd (u : Port) (v : Verify) (s : State) : Host.Outcome State Fault Refusal :=
  event s (s.facet u).rc.offApply (s.offApplyDone u v)

end Sys2Proof.Machine
end

