-- ==== Sys2Proof/Machine/HubFamily.lean ====
section
/-! DEFINITION. The meanings of the hub's converter and battery commands (R319, R361). -/
namespace Sys2Proof.Machine

/-- `CV_RUN` (R316, R319). -/
def execCvRun (epoch : Byte) (arg : Half) (src : Src) (s : State) : Host.Outcome State Fault Refusal :=
  powered s (s.unitRow none 0x50 epoch arg.toNat src)

/-- `CV_STANDBY` (R316, R319). -/
def execCvStandby (epoch : Byte) (arg : Half) (src : Src) (s : State) : Host.Outcome State Fault Refusal :=
  powered s (s.unitRow none 0x51 epoch arg.toNat src)

/-- `CV_STOP` (R316, R319). -/
def execCvStop (epoch : Byte) (arg : Half) (src : Src) (s : State) : Host.Outcome State Fault Refusal :=
  powered s (s.unitRow none 0x52 epoch arg.toNat src)

/-- `CV_CLEAR` (R316, R319). -/
def execCvClear (epoch : Byte) (arg : Half) (src : Src) (s : State) : Host.Outcome State Fault Refusal :=
  powered s (s.unitRow none 0x53 epoch arg.toNat src)

/-- `CHG_FULL` (R361). -/
def execChgFull (epoch : Byte) (arg : Half) (src : Src) (s : State) : Host.Outcome State Fault Refusal :=
  powered s (s.unitRow none 0x60 epoch arg.toNat src)

/-- `CHG_STORE` (R361). -/
def execChgStore (epoch : Byte) (arg : Half) (src : Src) (s : State) : Host.Outcome State Fault Refusal :=
  powered s (s.unitRow none 0x61 epoch arg.toNat src)

/-- `BAT_CLEAR` (R345, R349, R361). -/
def execBatClear (epoch : Byte) (arg : Half) (src : Src) (s : State) : Host.Outcome State Fault Refusal :=
  powered s (s.unitRow none 0x62 epoch arg.toNat src)

/-- `GAUGE_SET` (R361). -/
def execGaugeSet (epoch : Byte) (arg : Half) (src : Src) (s : State) : Host.Outcome State Fault Refusal :=
  powered s (s.unitRow none 0x63 epoch arg.toNat src)

end Sys2Proof.Machine
end

