-- ==== Sys2Proof/Machine/MonFamily.lean ====
section
/-! DEFINITION. The events of the window monitors (R366 to R384) and the fault units' commands (R407, R413 to R416). -/
namespace Sys2Proof.Machine

/-! ### Window monitors -/

/-- `GRADE` of monitor `k`. -/
def State.wmGrade (s : State) (k : Nat) : Nat := s.rf (0x0400 + 4 * k) 11 3

/-- A comparator is powered: an image has control (R20), it is routed, enabled, and in SENTINEL of the SAMPLED grade (R65,
R366). -/
def State.wmOn (s : State) (k : Nat) (high : Bool) : Bool :=
  s.imgAuth && decide (s.wmGrade k ≠ 0) && s.bit (0x0400 + 4 * k) (if high then 17 else 16)
    && (decide (s.mode ≠ .sentinel) || decide (s.wmGrade k = 5))

/-- A comparator's output. -/
def State.wmOut (s : State) (k : Nat) (high : Bool) : Bool := (if high then s.wmHi else s.wmLo).getLsbD k

/-- A comparator settles after its power-up (R375). -/
def State.wmSettling (s : State) (k : Nat) (high : Bool) : Bool := (if high then s.wmSetHi else s.wmSetLo).getLsbD k

/-- `ARG` of WM_EDGE. -/
def wmArg (k : Nat) (high rising : Bool) : Half :=
  BitVec.ofNat 16 (k + (if high then 32 else 0) + if rising then 64 else 0)

/-- Flag bit of a transition in `WMk_STAT`. -/
def wmFlag (high rising : Bool) : Nat := 4 + (if high then 2 else 0) + if rising then 0 else 1

/-- Post to the queue of a monitor's owner; a global owner has none (R369). -/
def State.wmPost (s : State) (k : Nat) (arg : Half) : State :=
  let o := s.rf (0x0400 + 4 * k) 8 3
  if o < 4 then s.postF (portOf o) 0x30 arg else if o = 4 then s.postH 0x30 arg else s

/-- A rising edge is one event of its comparator's source (R370); edges that share a `CLK` cycle are one row (log entry 81). -/
def State.wmCount (s : State) (k : Nat) (high : Bool) : State :=
  let th := s.rf (0x0401 + 4 * k) (if high then 8 else 0) 8
  s.fault (min 5 (s.rf (0x0400 + 4 * k) 8 3)) (0x80 + 2 * k + if high then 1 else 0) th

/-- One output transition (R368 to R371); a rising edge enabled for it wakes, or cancels an entry to SENTINEL (R64, R380). -/
def State.wmEdge (s : State) (k : Nat) (high rising : Bool) : State :=
  let s := if high then { s with wmHi := putBit s.wmHi k rising } else { s with wmLo := putBit s.wmLo k rising }
  let was := s.bit (0x0402 + 4 * k) (wmFlag high rising)
  let s := s.orReg (0x0402 + 4 * k) (flag (wmFlag high rising) true)
  let s := if was then s else s.wmPost k (wmArg k high rising)
  if !rising then s
  else
    let s := (s.setReg (0x0403 + 4 * k) s.stamp).wmCount k high
    if s.bit (0x0400 + 4 * k) 18 then s.wakeEvent 4 else s

/-- An edge of a comparator that is powered and settled, at a level of its net that can cause it; the SAMPLED grade has its own
row. -/
def State.edgeMay (s : State) (k : Nat) (high rising : Bool) (level : Int) : Bool :=
  s.wmOn k high && !s.wmSettling k high && decide (s.wmGrade k ≠ 5) && decide (s.wmOut k high ≠ rising)
    && s.wmMay k high rising level

/-- R368. -/
def execWmComparatorEdge (k : Fin 32) (high rising : Bool) (level : Int) (s : State) : Host.Outcome State Fault Refusal :=
  event s (s.edgeMay k high rising level) (s.wmEdge k high rising)

/-- A comparator shows `v` from now on: the difference is an edge (R374, R375). -/
def State.wmShow (s : State) (k : Nat) (high v : Bool) : State :=
  if !s.wmOn k high then s
  else
    let s := if high then { s with wmSetHi := putBit s.wmSetHi k false } else { s with wmSetLo := putBit s.wmSetLo k false }
    if s.wmOut k high = v then s else s.wmEdge k high v

/-- A comparator can read `v` of a level of its net; one that is off reads nothing. -/
def State.wmShows (s : State) (k : Nat) (high v : Bool) (level : Int) : Bool := !s.wmOn k high || s.wmMay k high v level

/-- The sample window latches monitor `k` (R374): the burst's in SENTINEL, else the one that the tick boundary opened. -/
def State.latching (s : State) (k : Nat) : Bool :=
  match s.burst with
  | some b => b.wms.getLsbD k
  | none => s.mon.latches.getLsbD k && s.inTick s.mon.latchAt

/-- TIME reaches the latch, 5.0 µs after the boundary or the wake (R374). -/
def State.toLatch (s : State) : State :=
  match s.burst with
  | some b =>
    let n := min b.left (s.lastWake + 480 - s.cycles)
    { s.passAdvances (s.cycles + n) with cycles := s.cycles + n, burst := some { b with left := b.left - n } }
  | none => s.reach s.mon.latchAt

/-- The comparators of monitor `k` are latched; the high one's events come first. In SENTINEL the burst ends with the last monitor
latched (R67). -/
def State.sampled (s : State) (k : Nat) (hi lo : Bool) : State :=
  let s := s.toLatch
  let s := { s with mon := { s.mon with latches := putBit s.mon.latches k false } }
  ((s.wmShow k true hi).wmShow k false lo).wmLatched k

/-- R374. -/
def execSampledMonitorSample (k : Fin 32) (hi lo : Bool) (level : Int) (s : State) : Host.Outcome State Fault Refusal :=
  event s (decide (s.wmGrade k = 5) && s.latching k && s.wmShows k true hi level && s.wmShows k false lo level) (s.sampled k hi lo)

/-- The comparators of a monitor that settle follow the net from now on (R375). -/
def State.wmSettled (s : State) (k : Nat) (hi lo : Bool) : State :=
  let low := s.wmSettling k false
  let s := if s.wmSettling k true then s.wmShow k true hi else s
  if low then s.wmShow k false lo else s

/-- R375. -/
def execWmSettleEnd (k : Fin 32) (hi lo : Bool) (level : Int) (s : State) : Host.Outcome State Fault Refusal :=
  event s (decide (s.wmGrade k ≠ 5) && (s.wmSettling k true || s.wmSettling k false) && s.wmShows k true hi level
      && s.wmShows k false lo level) (s.wmSettled k hi lo)

/-- R372. -/
def execWmThresholdWrite (_ : Master) (k : Fin 32) (v : Word) (s : State) : Host.Outcome State Fault Refusal :=
  powered s (s.regWrite (0x0401 + 4 * k) v)

/-- R375, R379. -/
def execWmCfgWrite (_ : Master) (k : Fin 32) (v : Word) (s : State) : Host.Outcome State Fault Refusal :=
  powered s (s.regWrite (0x0400 + 4 * k) v)

/-! ### Fault units -/

/-- A source's window is open with no tick left (R407). -/
def State.windowOver (s : State) (u : Nat) (src : Byte) : Bool :=
  match findWindow src (s.flt u).windows with
  | some w => decide (w.left = 0)
  | none => false

/-- R407: the window closes at the W-th tick boundary. -/
def execFaultWindowClose (u : Fin 6) (src : Byte) (s : State) : Host.Outcome State Fault Refusal :=
  event s (s.windowOver u src)
    (s.setFlt u { s.flt u with windows := dropWindow src (s.flt u).windows })

/-- The two-bit fields of `x_FLT_LVL` of the classes in a mask, of the first `n`. -/
def lvlMask (classes : Word) : Nat → Word
  | 0 => 0
  | n + 1 => lvlMask classes n ||| (if classes.getLsbD n then fw (2 * n) 3 else 0)

/-- `x_FLT_ACK` (R416). -/
def State.fltAck (s : State) (u : Nat) (v : Word) : State :=
  let f := s.flt u
  if v.getLsbD 31 ∨ fld v 16 8 = f.seq.toNat then
    s.setFlt u { f with pend := f.pend &&& ~~~ v.setWidth 16, lvl := f.lvl &&& ~~~ lvlMask v 16 }
  else s.orReg (unitBase u) (flag 19 true)

/-- R416. -/
def execFltAck (_ : Master) (u : Fin 6) (v : Word) (s : State) : Host.Outcome State Fault Refusal :=
  powered s (s.fltAck u v)

/-- A read of `x_FLT_HIST_W0` removes the oldest entry and latches its timestamp (R421). -/
def State.histPop (s : State) (u : Nat) : State :=
  match (s.flt u).hist with
  | [] => s
  | e :: l => (s.setFlt u { s.flt u with hist := l }).setReg (unitBase u + 7) e.ts

/-- R421. -/
def execFltHistRead (_ : Master) (u : Fin 6) (s : State) : Host.Outcome State Fault Refusal := powered s (s.histPop u)

/-- R405, R426. -/
def execFltSenWrite (_ : Master) (u : Fin 6) (n : Fin 3) (v : Word) (s : State) : Host.Outcome State Fault Refusal :=
  powered s (s.regWrite (unitBase u + 0xA + n) v)

/-- Release capture `j`: `VALID` and `MORE` clear (R415). -/
def State.capRelease (s : State) (v : Word) (j : Nat) : State :=
  if v.getLsbD j then s.clrReg (0x0651 + 4 * j) 0xFF010000 else s

/-- `BUS_CAP_ACK` (R415). -/
def State.capAck (s : State) (v : Word) : State := ((s.capRelease v 0).capRelease v 1).capRelease v 2

/-- R415. -/
def execBusCapAck (_ : Master) (v : Word) (s : State) : Host.Outcome State Fault Refusal := powered s (s.capAck v)

end Sys2Proof.Machine
end

