-- ==== Sys2Proof/Machine/OnyxFamily.lean ====
section
/-! DEFINITION. Onyx: ownership (R458), the commands' judgement (R435 to R437, R457, R556) and their effects as they complete,
tokens and grants (R438 to R442), the journal's check (R453), the entropy source and the alarms (R428, R456). -/
namespace Sys2Proof.Machine

/-! ### Ownership, data, alarms, results -/

/-- The master may write `ONX_DATA` and `ONX_CMD`: it owns them or finds them free (R458). -/
def State.onxMine (s : State) (m : Master) : Bool :=
  match s.onx.owner with
  | none => true
  | some o => decide (o = m)

/-- A write of `ONX_DATA` or `ONX_CMD` by a master: `g` from its owner, discarded from any other (R458). -/
def State.onxAccess (s : State) (m : Master) (g : State → State) : State :=
  if s.onxMine m then g (s.modOnx fun o => { o with owner := some m, ownerAt := s.cycles }) else s.orReg 0x0300 (flag 10 true)

/-- A read of `ONX_DATA` by its owner is an access too (R458). -/
def State.onxSeen (s : State) (m : Master) (i : Nat) : State :=
  if decide (0x0340 ≤ i ∧ i ≤ 0x037F ∨ i = 0x0301) && decide (s.onx.owner = some m) then
    s.modOnx fun o => { o with ownerAt := s.cycles }
  else s

/-- `n` words of `ONX_DATA` from number `k`. -/
def State.onxWords (s : State) (k : Nat) : Nat → List Word
  | 0 => []
  | n + 1 => s.reg (0x0340 + k) :: s.onxWords (k + 1) n

/-- The bytes of `ONX_DATA0` to `n` − 1, the lowest-addressed in bits 7:0 (R438). -/
def State.onxBytes (s : State) (n : Nat) : List Byte := wordBytes (s.onxWords 0 n)

/-- Put words into `ONX_DATA` from number `k`. -/
def State.onxPut (s : State) (k : Nat) : List Word → State
  | [] => s
  | w :: ws => (s.setReg (0x0340 + k) w).onxPut (k + 1) ws

/-- An alarm: its code and source 0x050A (R456). -/
def State.onxAlarm (s : State) (code : Nat) : State :=
  (s.modOnx fun o => { o with alarm := BitVec.ofNat 8 code }).fault 5 0x0A code

/-- Report in `ONX_CMD_STAT`; `CMD_DONE` for a command of Lapidary (R457, R461). -/
def State.onxResult (s : State) (m : Master) (r : Res) (why : Reason) : State :=
  let s := s.setReg 0x0302 (statWord (resCode r) why 0 m)
  if m = .lapidary then s.orReg 0x0300 (flag 11 true) else s

/-! ### Keys -/

/-- A key slot by its code (R440). -/
def Keys.get (k : Keys) : Nat → KeySlot
  | 0 => k.img0 | 1 => k.img1 | 2 => k.img2 | 3 => k.img3 | 4 => k.svc0 | 5 => k.svc1
  | 6 => k.anc0 | 7 => k.anc1 | 8 => k.anc2 | _ => k.anc3

def Keys.set (k : Keys) (c : Nat) (x : KeySlot) : Keys :=
  match c with
  | 0 => { k with img0 := x } | 1 => { k with img1 := x } | 2 => { k with img2 := x } | 3 => { k with img3 := x }
  | 4 => { k with svc0 := x } | 5 => { k with svc1 := x } | 6 => { k with anc0 := x } | 7 => { k with anc1 := x }
  | 8 => { k with anc2 := x } | _ => { k with anc3 := x }

def KeySlot.on : KeySlot → Bool
  | .enabled _ => true
  | .empty => false | .revoked => false

/-- Some image key, and some service key, is ENABLED. -/
def Keys.anyImg (k : Keys) : Bool := k.img0.on || k.img1.on || k.img2.on || k.img3.on
def Keys.anySvc (k : Keys) : Bool := k.svc0.on || k.svc1.on

/-- `KEY_INDEX` of the booted image area. -/
def State.bootKey (s : State) : Option Nat :=
  if s.bootSlot = 3 then none else some (hKey (s.nvmBytes (areaBase s.bootSlot.toNat 0) 256))

/-- R431, R432: a slot may be revoked. -/
def State.mayRevoke (s : State) (c : Nat) : Bool :=
  let k := s.onx.keys.set c .revoked
  decide (s.onx.keys.get c ≠ .revoked) && decide (s.bootKey ≠ some c)
    && (decide (4 ≤ c) || k.anyImg) && (decide (c < 4 ∨ 6 ≤ c) || k.anySvc)

/-- The 16 key digest bytes of a KEY record; an empty slot gives none (log entry 33). -/
def keyDigest (c : Nat) : KeySlot → List Byte
  | .enabled k => if 6 ≤ c then k.take 16 else leBytes 16 (Config.sha256 k).toNat
  | .empty => List.replicate 16 0
  | .revoked => List.replicate 16 0

/-- A KEY record: operation (the command's opcode), slot code, digest. -/
def State.jrnKey (s : State) (op c : Nat) (k : KeySlot) : State :=
  s.jrn 0x0B ([BitVec.ofNat 8 op, BitVec.ofNat 8 c] ++ keyDigest c k)

/-! ### Judgement -/

def onxOpOf : Nat → Option OnxOp
  | 1 => some .challenge | 2 => some .tokenSubmit | 3 => some .lcAdvance | 4 => some .keyEnrol | 5 => some .keyRevoke
  | 6 => some .debugUnlock | 7 => some .ctrInc | 8 => some .ctrRaise | 9 => some .jrnWrite | 10 => some .jrnAttest
  | 11 => some .jrnVerify | 12 => some .idkGenerate | 13 => some .chainWrite | 14 => some .provision | 15 => some .release
  | _ => none

/-- `ARG` is valid (R457, R556): a target code, a slot code, a counter number, a length up to 4096. -/
def onxArgOk : OnxOp → Nat → Bool
  | .lcAdvance, a => decide (a < 4)
  | .keyEnrol, a => decide (a < 10)
  | .keyRevoke, a => decide (a < 10)
  | .ctrInc, a => decide (a < 64)
  | .ctrRaise, a => decide (a < 64)
  | .chainWrite, a => decide (1 ≤ a) && decide (a ≤ 4096)
  | _, a => decide (a = 0)

/-- The first row of R435: what the advance to PROVISIONED-OPEN needs; its keys need the entropy source (R428). -/
def State.mayProvision (s : State) : Bool :=
  decide (s.lc = 0) && s.onx.idk.isSome && s.onx.chainDone && s.onx.keys.anyImg && s.onx.keys.anySvc
    && decide ((s.area 0 0).st = .valid) && s.onx.rngOk

/-- R435: the lifecycle may advance to a target. -/
def State.mayAdvance (s : State) (target : Nat) : Bool :=
  if target = 1 then s.mayProvision
  else if target = 2 then decide (s.lc = 1)
  else decide (target = 3) && decide (s.lc = 1 ∨ s.lc = 2)

/-- A counter may take a value (R433, R434). -/
def State.mayCount (s : State) (n v : Nat) : Bool := decide (16 ≤ n) && decide (s.ctr n ≤ v) && decide (v < 2 ^ 32)

/-- Preconditions of an Onyx command (R428, R431 to R437, R442, R454, R457); alarms 2 and 3 refuse all that needs
authority (R456). -/
def State.onxPre (s : State) (op : OnxOp) (a : Nat) : Bool :=
  let o := s.onx
  match op with
  | .challenge => o.rngOk && !o.lockout && !o.alarmLock
  | .tokenSubmit => !o.alarmLock
  | .lcAdvance => s.mayAdvance a && (decide (a = 1) || !o.alarmLock)
  | .keyEnrol => (decide (s.lc = 0) || (decide (s.lc = 1) && !o.alarmLock)) && decide (o.keys.get a = .empty)
  | .keyRevoke => (decide (s.lc = 0) || (decide (s.lc < 3) && !o.alarmLock)) && s.mayRevoke a
  | .debugUnlock => decide (s.lc = 1) && !o.alarmLock
  | .ctrInc => s.mayCount a (s.ctr a + 1)
  | .ctrRaise => s.mayCount a (s.reg 0x0340).toNat
  | .jrnWrite => o.jrnOpen && (match o.lastJrnWrite with | some t => decide (t + 4800000 ≤ s.cycles) | none => true)
  | .jrnAttest => o.idk.isSome && o.jrnOpen && o.rngOk
  | .jrnVerify => true
  | .idkGenerate => decide (s.lc = 0) && o.rngOk && o.idk.isNone
  | .chainWrite => decide (s.lc = 0) && o.idk.isSome && !o.chainDone
  | .provision => s.mayProvision
  | .release => true

/-- The grant a command needs: its `OP` and `ARG` (R437, R440). -/
def State.onxNeeds (s : State) (op : OnxOp) (a : Nat) : Option (Nat × Nat) :=
  match op with
  | .debugUnlock => some (3, 0)
  | .lcAdvance => if a = 1 then none else some (4, a)
  | .keyEnrol => if s.lc = 0 then none else some (5, a)
  | .keyRevoke => if s.lc = 0 then none else some (6, a)
  | _ => none

/-- A command's grant is held by its master, where it needs one. -/
def State.onxAuth (s : State) (op : OnxOp) (a : Nat) (m : Master) : Bool :=
  match s.onxNeeds op a with
  | some (o, x) => s.granted o x m
  | none => true

/-- `RELEASE` gives the registers back at once; every other accepted command runs (R457, R458, R554). -/
def State.onxStart (s : State) (op : OnxOp) (a : Half) (m : Master) : State :=
  if op = .release then (s.modOnx fun o => { o with owner := none }).onxResult m .accepted .none
  else (s.modOnx fun o => { o with cmd := some ⟨op, a, m⟩ }).setReg 0x0302 (pendingWord 0 m)

/-- An Onyx command judged in the order of R556. -/
def State.onxJudge (s : State) (m : Master) (op : Nat) (a : Half) : State :=
  match onxOpOf op with
  | none => s.onxResult m .refused .badCmd
  | some o =>
    if !onxArgOk o a.toNat then s.onxResult m .refused .badCmd
    else if s.mode ≠ .standby ∧ s.mode ≠ .run ∧ s.mode ≠ .safe then s.onxResult m .refused .deviceMode
    else if !s.onxPre o a.toNat then s.onxResult m .refused .precondition
    else if !s.onxAuth o a.toNat m then s.onxResult m .refused .notAuthenticated
    else s.onxStart o a m

/-- A write of `ONX_CMD` by its owner: commands are taken one at a time, in order (corner case of R457). -/
def State.onxCmd (s : State) (m : Master) (op : Nat) (a : Half) : State :=
  s.onxAccess m fun s =>
    if s.onx.cmd.isSome then s.modOnx fun o => { o with waiting := o.waiting ++ [(m, op, a)] }
    else s.onxJudge m op a

/-- The commands that waited, judged until one runs. -/
def State.onxNext (s : State) : List (Master × Nat × Half) → State
  | [] => s.modOnx fun o => { o with waiting := [] }
  | (m, op, a) :: l =>
    if s.onx.cmd.isSome then s.modOnx fun o => { o with waiting := (m, op, a) :: l }
    else (s.onxJudge m op a).onxNext l

/-! ### Effects -/

/-- `CHALLENGE`: a fresh nonce (R439). -/
def State.newNonce (s : State) : State :=
  let (bs, s) := s.randBytes 4
  (s.modOnx fun o => { o with nonce := some bs, nonceAt := s.cycles }).onxPut 0 (byteWords 4 bs)

/-- `OP` and `ARG` of a token are in the table of R440. -/
def tokenOpOk (op a : Nat) : Bool :=
  if op = 1 ∨ op = 3 then decide (a = 0)
  else if op = 2 ∨ op = 4 then decide (a < 4)
  else decide (op = 5 ∨ op = 6) && decide (a < 10)

/-- The service key a token names verifies its signature (R78, R438). -/
def State.tokenSigned (s : State) (t : List Byte) : Bool :=
  match s.onx.keys.get (4 + le t 5 1) with
  | .enabled k =>
    Config.ecdsaVerify k (Config.sha256 (t.take 64)) (BitVec.ofNat 256 (beNat (slice t 0x40 32)))
      (BitVec.ofNat 256 (beNat (slice t 0x60 32)))
  | .empty => false
  | .revoked => false

/-- R438, R440: every field of a token holds its stated value, and its signature verifies. -/
def State.tokenOk (s : State) (t : List Byte) : Bool :=
  decide (slice t 0 4 = [0x4B, 0x52, 0x4C, 0x41]) && decide (le t 5 1 ≤ 1) && decide (le t 6 2 = 0)
    && decide (le t 0x0C 4 = 0x4680) && decide (slice t 0x10 16 = s.devId) && decide (s.onx.nonce = some (slice t 0x20 16))
    && decide (le t 0x30 16 = 0) && tokenOpOk (le t 4 1) (le t 8 4) && s.tokenSigned t

/-- A rejected token counts, and from the fifth in a row on raises alarm 5 and refuses `CHALLENGE` (R442). -/
def State.tokenRejected (s : State) (m : Master) : State :=
  let n := satInc 7 s.onx.rejects
  let s := s.modOnx fun o =>
    { o with rejects := n, nonce := none, lockout := o.lockout || decide (5 ≤ n), lockAt := if 5 ≤ n then s.cycles else o.lockAt }
  let s := if 5 ≤ n then s.onxAlarm 5 else s
  s.onxResult m .refused .notAuthenticated

/-- An accepted token: the grant, counter 7, an AUTHORISED record (R440). -/
def State.tokenAccepted (s : State) (t : List Byte) (m : Master) : State :=
  let g : Grant := { op := BitVec.ofNat 8 (le t 4 1), arg := BitVec.ofNat 8 (le t 8 4), master := m }
  let s := s.modOnx fun o => { o with rejects := 0, nonce := none, grant := some g, grantAt := s.cycles }
  let s := s.setCtr 7 (s.ctr 7 + 1)
  let s := s.jrn 0x0A ([g.op] ++ slice t 8 4 ++ [BitVec.ofNat 8 (le t 5 1), BitVec.ofNat 8 (masterId m)]
    ++ leBytes 4 (s.ctr 7))
  s.onxResult m .accepted .none

/-- `TOKEN_SUBMIT` completes; a counter that cannot be programmed leaves no grant (R561). -/
def State.tokenDone (s : State) (m : Master) (r : ArrayResult) : State :=
  let t := s.onxBytes 32
  if !s.tokenOk t then s.tokenRejected m
  else if r ≠ .done then
    ((s.modOnx fun o => { o with nonce := none }).onyxFailed r 1).onxResult m .refused .hardware
  else s.tokenAccepted t m

/-- Any debug session ends: a halted core runs on and the PWM freeze with it (R435, R444). -/
def State.debugEnd (s : State) : State :=
  let s := s.modOnx fun o => { o with dbgEn := false }
  if s.lap.run = .halted then (s.modLap fun l => { l with run := .running }).unfreeze else s

/-- What an advance to a lifecycle does, counter 8 programmed (R435); the one to 2 locks `SEAL_N` at the value it has (R18, R459). -/
def State.advanced (s : State) (target : Nat) : State :=
  let old := s.lc
  let s := s.setCtr 8 target
  let rec9 : List Byte := [BitVec.ofNat 8 old, BitVec.ofNat 8 target]
  if target = 1 then
    let (k, s) := s.randBytes 4
    let s := s.modOnx fun o =>
      { o with jk := some (BitVec.ofNat 128 (leNat k)), jrnOpen := true, jrnCount := 0, sinceSeal := 0
               jrnTag := List.replicate 16 0 }
    s.jrn 0x09 rec9
  else if target = 2 then (s.modOnx fun o => { o with sealLock := some (s.rf 0x0313 0 9) }).debugEnd
  else
    let s := ((s.jrn 0x09 rec9).jrnClose 0).debugEnd
    (s.modOnx fun o => o.lifecycle 3).enterSafe 5 0 0

/-- The NVM records a change of the key store or a counter: done, or refused with `HARDWARE` (R561). -/
def State.programmed (s : State) (m : Master) (r : ArrayResult) (g : State) : State :=
  if r = .done then g.onxResult m .accepted .none else (s.onyxFailed r 1).onxResult m .refused .hardware

/-- `KEY_ENROL`: 64 bytes of a public key, or a 32-byte digest. -/
def State.enrolled (s : State) (c : Nat) : State :=
  let k := KeySlot.enabled (s.onxBytes (if 6 ≤ c then 8 else 16))
  let s := s.modOnx fun o => { o with keys := o.keys.set c k }
  (if s.lc = 0 then s else s.useGrant).jrnKey 4 c k

/-- `KEY_REVOKE`. -/
def State.revoked (s : State) (c : Nat) : State :=
  let k := s.onx.keys.get c
  let s := s.modOnx fun o => { o with keys := o.keys.set c .revoked }
  (if s.lc = 0 then s else s.useGrant).jrnKey 5 c k

/-- `JRN_ATTEST`: a SEAL record, and the signed proof of the head (R450). -/
def State.attested (s : State) : State :=
  match s.onx.idk with
  | none => s
  | some k =>
    let nonce := s.onxBytes 4
    let s := s.jrnSeal
    let recno := leBytes 4 (s.onx.jrnCount - 1)
    let tag := s.onx.jrnTag
    let (w, s) := s.rand
    let sig := Config.ecdsaSign k (Config.sha256 (s.devId ++ recno ++ tag ++ nonce)) w
    s.onxPut 0 (byteWords 21 (recno ++ tag ++ leBytes 64 sig.toNat))

/-- Journal record `n` as written: one whose programming is still queued reads as it will stand. -/
def State.jrnView (s : State) (n : Nat) : List Byte :=
  match s.nvm.ops.find? fun o => match o with | .journal _ a => decide (a = jrnAddr n) | _ => false with
  | some (.journal r _) => r
  | _ => s.jrnRec n

/-- A record chains to its predecessor (R449). -/
def State.chains (s : State) (n : Nat) : Bool :=
  let r := s.jrnView n
  let prev := if n = 0 then List.replicate 16 0 else (s.jrnView (n - 1)).drop 48
  decide (r.drop 48 = leBytes 16 (Config.sha256 (prev ++ r.take 48)).toNat) && decide (le r 4 4 = n % 2 ^ 32)

/-- A SEAL record holds its CMAC (R450); any other record, and every seal once `JK` is gone, passes. -/
def State.sealHolds (s : State) (n : Nat) : Bool :=
  let r := s.jrnView n
  match s.onx.jk with
  | none => true
  | some k =>
    decide (le r 0 1 ≠ 0x0C)
      || decide (slice r 0x14 16 =
          leBytes 16 (Config.cmac k (s.devId ++ leBytes 4 (n - 1) ++ (s.jrnView (n - 1)).drop 48)).toNat)

/-- The records from `n` of the next `k` that are bad: a break of the chain away from the oldest and the head, or a
failed seal (R453). -/
def State.badRecords (s : State) (n : Nat) : Nat → List Nat
  | 0 => []
  | k + 1 =>
    let inner := decide (n ≠ s.onx.oldest ∨ n = 0) && decide (k ≠ 0)
    if (inner && !s.chains n) || (decide (n ≠ s.onx.oldest) && !s.sealHolds n) then n :: s.badRecords (n + 1) k
    else s.badRecords (n + 1) k

/-- Each break raises alarm 6 and writes a CHAIN_BREAK record (R453). -/
def State.breakFound (s : State) (n : Nat) : State := (s.onxAlarm 6).jrn 0x0D (leBytes 4 n)

/-- `JRN_VERIFY` (R453). -/
def State.jrnVerified (s : State) : State :=
  let bad := s.badRecords s.onx.oldest (s.onx.jrnCount - s.onx.oldest)
  let s := s.modOnx fun o => { o with vfyDone := true, vfyOk := bad.isEmpty, breaks := bad.length }
  bad.foldl State.breakFound s

/-- `IDK_GENERATE` (R430). -/
def State.idkMade (s : State) : State :=
  let (bs, s) := s.randBytes 8
  s.modOnx fun o => { o with idk := some (BitVec.ofNat 256 (leNat bs)) }

/-- `CHAIN_WRITE`: a piece of up to 256 bytes, done at the stated length. -/
def State.chainPiece (s : State) (len : Nat) : State :=
  let c := s.onx.chain ++ (s.onxBytes 64).take (len - s.onx.chain.length)
  s.modOnx fun o => { o with chain := c, chainDone := decide (len ≤ c.length) }

/-- A running command's effect as it completes with array result `r`, and its report (R457). -/
def State.onxEffect (s : State) (c : OnxCmd) (r : ArrayResult) : State :=
  let a := c.arg.toNat
  let ok := fun (t : State) => t.onxResult c.m .accepted .none
  match c.op with
  | .challenge => ok s.newNonce
  | .tokenSubmit => s.tokenDone c.m r
  | .lcAdvance => s.programmed c.m r ((if a = 1 then s else s.useGrant).advanced a)
  | .keyEnrol => s.programmed c.m r (s.enrolled a)
  | .keyRevoke => s.programmed c.m r (s.revoked a)
  | .debugUnlock => ok (s.useGrant.modOnx fun o => { o with dbgEn := true })
  | .ctrInc => s.programmed c.m r (s.setCtr a (s.ctr a + 1))
  | .ctrRaise => s.programmed c.m r (s.setCtr a (s.reg 0x0340).toNat)
  | .jrnWrite =>
    ok ((s.jrn 0x80 ((s.onxBytes 7).take 28) true).modOnx fun o => { o with lastJrnWrite := some s.cycles })
  | .jrnAttest => ok s.attested
  | .jrnVerify => ok s.jrnVerified
  | .idkGenerate => s.programmed c.m r s.idkMade
  | .chainWrite => s.programmed c.m r (s.chainPiece a)
  | .provision => s.programmed c.m r (s.advanced 1)
  | .release => ok s

/-- The running command completes, and the next that waits is judged. -/
def State.onxDone (s : State) (r : ArrayResult) : State :=
  match s.onx.cmd with
  | none => s
  | some c =>
    let w := s.onx.waiting
    ((s.modOnx fun o => { o with cmd := none, waiting := [] }).onxEffect c r).onxNext w

/-! ### The commands -/

/-- R439. -/
def execChallenge (m : Master) (arg : Half) (s : State) : Host.Outcome State Fault Refusal := powered s (s.onxCmd m 1 arg)
/-- R440. -/
def execTokenSubmit (m : Master) (arg : Half) (s : State) : Host.Outcome State Fault Refusal := powered s (s.onxCmd m 2 arg)
/-- R435. -/
def execLcAdvance (m : Master) (arg : Half) (s : State) : Host.Outcome State Fault Refusal := powered s (s.onxCmd m 3 arg)
/-- R431. -/
def execKeyEnrol (m : Master) (arg : Half) (s : State) : Host.Outcome State Fault Refusal := powered s (s.onxCmd m 4 arg)
/-- R432. -/
def execKeyRevoke (m : Master) (arg : Half) (s : State) : Host.Outcome State Fault Refusal := powered s (s.onxCmd m 5 arg)
/-- R444. -/
def execDebugUnlock (m : Master) (arg : Half) (s : State) : Host.Outcome State Fault Refusal := powered s (s.onxCmd m 6 arg)
/-- R433, R434. -/
def execCtrInc (m : Master) (arg : Half) (s : State) : Host.Outcome State Fault Refusal := powered s (s.onxCmd m 7 arg)
/-- R433, R434. -/
def execCtrRaise (m : Master) (arg : Half) (s : State) : Host.Outcome State Fault Refusal := powered s (s.onxCmd m 8 arg)
/-- R454. -/
def execJrnWrite (m : Master) (arg : Half) (s : State) : Host.Outcome State Fault Refusal := powered s (s.onxCmd m 9 arg)
/-- R450. -/
def execJrnAttest (m : Master) (arg : Half) (s : State) : Host.Outcome State Fault Refusal := powered s (s.onxCmd m 10 arg)
/-- R453. -/
def execJrnVerify (m : Master) (arg : Half) (s : State) : Host.Outcome State Fault Refusal := powered s (s.onxCmd m 11 arg)
/-- R430. -/
def execIdkGenerate (m : Master) (arg : Half) (s : State) : Host.Outcome State Fault Refusal := powered s (s.onxCmd m 12 arg)
/-- R430, R457. -/
def execChainWrite (m : Master) (arg : Half) (s : State) : Host.Outcome State Fault Refusal := powered s (s.onxCmd m 13 arg)
/-- R435, R457. -/
def execProvision (m : Master) (arg : Half) (s : State) : Host.Outcome State Fault Refusal := powered s (s.onxCmd m 14 arg)
/-- R458. -/
def execOnxRelease (m : Master) (arg : Half) (s : State) : Host.Outcome State Fault Refusal := powered s (s.onxCmd m 15 arg)

/-- R457, R554. -/
def execOnyxCommandDone (r : ArrayResult) (s : State) : Host.Outcome State Fault Refusal :=
  event s s.onx.cmd.isSome (s.onxDone r)

/-- `ONX_DATA` n is written by its owner (R458). -/
def State.onxData (s : State) (m : Master) (n : Nat) (v : Word) : State := s.onxAccess m fun s => s.setReg (0x0340 + n) v

/-- R458. -/
def execOnxDataWrite (m : Master) (n : Fin 64) (v : Word) (s : State) : Host.Outcome State Fault Refusal :=
  powered s (s.onxData m n v)

/-- What `ONX_RNG` returns: the next conditioned word, 0 while a health test fails (R428). -/
def State.rngWord (s : State) : Word := if s.onx.rngOk then Config.rng s.draws else 0

/-- A read of `ONX_RNG` uses up the word it returns. -/
def State.rngRead (s : State) : State := if s.onx.rngOk then { s with draws := s.draws + 1 } else s

/-- R428. -/
def execOnxRngRead (_ : Master) (s : State) : Host.Outcome State Fault Refusal := powered s s.rngRead

/-- A span of Onyx's ends at its cycle: `on` says that it runs. -/
def onxSpan (on : Bool) (end_ : Nat) : Option Nat := if on then some end_ else none

/-- R439: 60 s after the nonce was issued. -/
def execNonceExpiry (s : State) : Host.Outcome State Fault Refusal :=
  dueEvent s (onxSpan s.onx.nonce.isSome (s.onx.nonceAt + 5760000000)) true fun s => (s.modOnx fun o => { o with nonce := none })

/-- R441: 10 s after the grant was created. -/
def execGrantLapse (s : State) : Host.Outcome State Fault Refusal :=
  dueEvent s (onxSpan s.onx.grant.isSome (s.onx.grantAt + 960000000)) true fun s => (s.modOnx fun o => { o with grant := none })

/-- R442: 60 s after the rejection that raised alarm 5. -/
def execChallengeLockoutEnd (s : State) : Host.Outcome State Fault Refusal :=
  dueEvent s (onxSpan s.onx.lockout (s.onx.lockAt + 5760000000)) true fun s => (s.modOnx fun o => { o with lockout := false })

/-- R458: 100 ms after the owner's last access. -/
def execOnyxOwnerTimeout (s : State) : Host.Outcome State Fault Refusal :=
  dueEvent s (onxSpan s.onx.owner.isSome (s.onx.ownerAt + 9600000)) true fun s => (s.modOnx fun o => { o with owner := none })

/-- R428, R456. -/
def execEntropyHealthFail (s : State) : Host.Outcome State Fault Refusal :=
  event s s.onx.rngOk ((s.modOnx fun o => { o with rngOk := false }).onxAlarm 1)

/-- R428. -/
def execEntropyHealthRecover (s : State) : Host.Outcome State Fault Refusal :=
  event s (s.onx.selfTest && !s.onx.rngOk) (s.modOnx fun o => { o with rngOk := true })

/-- Alarm 4: the operation in progress is abandoned and refused (R456). -/
def State.glitched (s : State) : State :=
  let s := s.onxAlarm 4
  match s.onx.cmd with
  | none => s
  | some c =>
    let w := s.onx.waiting
    ((s.modOnx fun o => { o with cmd := none, waiting := [] }).onxResult c.m .refused .hardware).onxNext w

/-- R456. -/
def execOnyxGlitchAlarm (s : State) : Host.Outcome State Fault Refusal := event s true s.glitched

end Sys2Proof.Machine
end

