-- ==== Sys2Proof/Machine/NvmFamily.lean ====
section
/-! DEFINITION. The loader's rows (R103 to R117), the NVM controller (R77, R509 to R516), scrubbing (R540 to R543) and the
ageing ledger (R544 to R549). -/
namespace Sys2Proof.Machine

/-! ### Loader -/

/-- R107. -/
def execErase (m : Master) (arg : Half) (s : State) : Host.Outcome State Fault Refusal := powered s (s.cfgCmd m 1 arg.toNat)
/-- R107. -/
def execOpenWrite (m : Master) (arg : Half) (s : State) : Host.Outcome State Fault Refusal :=
  powered s (s.cfgCmd m 2 arg.toNat)
/-- R110. -/
def execCloseWrite (m : Master) (arg : Half) (s : State) : Host.Outcome State Fault Refusal :=
  powered s (s.cfgCmd m 3 arg.toNat)
/-- R107. -/
def execVerify (m : Master) (arg : Half) (s : State) : Host.Outcome State Fault Refusal := powered s (s.cfgCmd m 4 arg.toNat)
/-- R103. -/
def execCommit (m : Master) (arg : Half) (s : State) : Host.Outcome State Fault Refusal := powered s (s.cfgCmd m 5 arg.toNat)

/-- R115. -/
def execLoaderCommandDone (r : ArrayResult) (s : State) : Host.Outcome State Fault Refusal :=
  event s s.ldr.cmd.isSome (s.cfgDone r)

/-- R109. -/
def execCfgDataWrite (m : Master) (v : Word) (s : State) : Host.Outcome State Fault Refusal := powered s (s.cfgData m v)

/-- A write of `CFG_SEL` (R117). -/
def State.cfgSel (s : State) (v : Word) : State := (s.regWrite 0x0205 v).fillSel

/-- R117. -/
def execCfgSelWrite (_ : Master) (v : Word) (s : State) : Host.Outcome State Fault Refusal := powered s (s.cfgSel v)

/-! ### NVM commands and the window -/

/-- First byte of the user area. -/
def userBase : Nat := 0xE10000

/-- An NVM command judged in the order of R556 (R513). -/
def State.nvmCmd (s : State) (m : Master) (op arg : Nat) : State :=
  let known := decide (op = 3) || (decide (op = 1 ∨ op = 2) && decide (arg = 0))
  let busy := s.nvm.flushing
  if !known then s.nvmResult m .refused .badCmd
  else if s.mode ≠ .standby ∧ s.mode ≠ .run ∧ s.mode ≠ .safe then s.nvmResult m .refused .deviceMode
  else if busy || (decide (op = 1) && s.nvm.buf.isNone) || (decide (op = 3) && decide (arg < 0xE100)) then
    s.nvmResult m .refused .precondition
  else if op = 1 then (s.nvmQueue (.flush (some m))).setReg 0x0603 (pendingWord 0 m)
  else if op = 2 then (s.modNvm fun v => { v with buf := none }).nvmResult m .accepted .none
  else
    let s := s.modNvm fun v => { v with buf := v.buf.filter fun b => decide (b.1 ≠ arg) }
    (s.nvmQueue (.eraseUser arg m)).setReg 0x0603 (pendingWord 0 m)

/-- R513. -/
def execFlush (m : Master) (arg : Half) (s : State) : Host.Outcome State Fault Refusal := powered s (s.nvmCmd m 1 arg.toNat)
/-- R513. -/
def execDiscard (m : Master) (arg : Half) (s : State) : Host.Outcome State Fault Refusal :=
  powered s (s.nvmCmd m 2 arg.toNat)
/-- R513. -/
def execNvmErase (m : Master) (arg : Half) (s : State) : Host.Outcome State Fault Refusal :=
  powered s (s.nvmCmd m 3 arg.toNat)

/-- NVM byte address of window word `w` (R509). -/
def State.winAddr (s : State) (w : Nat) : Nat := s.rf 0x0600 0 7 * 0x20000 + 4 * w

/-- The bytes of a page with one word replaced. -/
def setWordAt (d : List Byte) (o : Nat) (v : Word) : List Byte := d.take o ++ leBytes 4 v.toNat ++ d.drop (o + 4)

/-- A window write into the buffer (R511). -/
def State.bufWrite (s : State) (a : Nat) (v : Word) : State :=
  let k := a / 256
  if s.nvm.flushing then s.orReg 0x0604 (flag 0 true)
  else match s.nvm.buf with
    | none => s.modNvm fun n => { n with buf := some (k, setWordAt (s.nvmBytes (256 * k) 256) (a % 256) v) }
    | some (j, d) =>
      if j = k then s.modNvm fun n => { n with buf := some (k, setWordAt d (a % 256) v) }
      else s.orReg 0x0604 (flag 0 true)

/-- A window write (R77, R447, R511). -/
def State.winWrite (s : State) (m : Master) (w : Nat) (v : Word) : State :=
  let a := s.winAddr w
  if userBase ≤ a then s.bufWrite a v else s.busError (0x8000 + w) (masterId m) true 2 3

/-- R511. -/
def execNvmWindowWrite (m : Master) (w : BitVec 15) (v : Word) (s : State) : Host.Outcome State Fault Refusal :=
  powered s (s.winWrite m w.toNat v)

/-- The Onyx region (R77). -/
def onyxRegion (a : Nat) : Bool := decide (0x600000 ≤ a) && decide (a < 0x610000)

/-- The page in the write buffer. -/
def State.buffered (s : State) (a : Nat) : Bool := match s.nvm.buf with | some (k, _) => decide (k = a / 256) | none => false

/-- The word a window read finds (R77, R510, R512). -/
def State.winWord (s : State) (w : Nat) (uncorrectable : Bool) : Word :=
  let a := s.winAddr w
  if onyxRegion a then 0
  else match s.nvm.buf with
    | some (k, d) => if k = a / 256 then BitVec.ofNat 32 (le d (a % 256) 4)
                     else if uncorrectable then 0 else BitVec.ofNat 32 (leNat (s.nvmBytes a 4))
    | none => if uncorrectable then 0 else BitVec.ofNat 32 (leNat (s.nvmBytes a 4))

/-- What a window read sets (R77, R510): the error counters of a corrected word, the capture of an uncorrectable one, whose
page no engine can read from then on (log entry 14). -/
def State.winRead (s : State) (m : Nat) (w : Nat) (corrected uncorrectable : Bool) : State :=
  let a := s.winAddr w
  if onyxRegion a then s.busError (0x8000 + w) m false 2 4
  else if s.buffered a then s
  else if uncorrectable then
    (s.modNvm fun v => { v with bad := if v.bad.contains (a / 256) then v.bad else v.bad ++ [a / 256] }).capture 1 a m 0 2 1
  else if corrected then (s.orReg 0x0604 (flag 1 true)).count 0x0605 0 16
  else s

/-- R510. -/
def execNvmWindowRead (m : Master) (w : BitVec 15) (corrected uncorrectable : Bool) (s : State) :
    Host.Outcome State Fault Refusal :=
  powered s (s.winRead (masterId m) w.toNat corrected uncorrectable)

/-- The running operation ends and the next starts (R515). -/
def State.arrayDone (s : State) (r : ArrayResult) : State :=
  match s.nvm.ops with
  | [] => s
  | o :: l => (s.modNvm fun v => { v with ops := l }).opDone r o

/-- R515. -/
def execNvmOperationDone (r : ArrayResult) (s : State) : Host.Outcome State Fault Refusal :=
  event s (!s.nvm.ops.isEmpty) (s.arrayDone r)

/-! ### Retention and scrubbing -/

/-- Per cent that `num` ÷ `den` leaves of 100, limited to 0 to 100. -/
def marginOf (num den : Nat) : Nat := (den - num) * 100 / den

/-- Retention margin of a block (R540); ages are in millionths of an hour. -/
def State.blockMargin (s : State) (b : Nat) : Nat := marginOf (spGet (fun _ => 0) s.nvm.age b) 350640000000

/-- A scrub step of a programmed page is due (R541). -/
def State.scrubDue (s : State) (b p : Nat) : Bool :=
  decide (s.blockMargin b < 50) && decide (s.mode = .standby ∨ s.mode = .run ∨ s.mode = .safe)
    && (s.nvm.blockPages b).contains (256 * b + p) && !s.nvm.ops.contains (.scrub b (256 * b + p))
    && !s.nvm.renewed.contains (256 * b + p)

/-- R541: the step waits for the array at its lowest priority (R515). -/
def execScrubStep (block : Byte) (page : Byte) (s : State) : Host.Outcome State Fault Refusal :=
  event s (s.scrubDue block.toNat page.toNat) (s.nvmQueue (.scrub block.toNat (256 * block.toNat + page.toNat)))

/-! ### The ageing ledger -/

/-- Sum of `n` terms of the exponential series of `x` ÷ 10¹², from term `t` of index `k` on, in units of 10⁻¹². -/
def expSum (x t k : Nat) : Nat → Nat
  | 0 => 0
  | n + 1 => t + expSum x (t * x / (1000000000000 * (k + 1))) (k + 1) n

/-- exp(`num` ÷ `den`) in millionths, by 96 terms of its series in fixed point (log entry 34). -/
def expMicro (num : Int) (den : Nat) : Nat :=
  let e := expSum (num.natAbs * 1000000000000 / max 1 den) 1000000000000 0 96
  if 0 ≤ num then e / 1000000 else 1000000000000000000 / max 1 e

/-- Absolute temperature of `tj` °C in 0.01 K. -/
def kelvin100 (tj : Int) : Nat := Int.toNat (100 * tj + 27315)

/-- exp(k × (1 ÷ T0 − 1 ÷ T)), temperatures in 0.01 K, in millionths (R540, R544). -/
def ageing (k t0 t : Nat) : Nat := expMicro ((100 * k : Int) * ((t : Int) - t0)) (t0 * t)

/-- Every block ages by one hour (R540). -/
def ageBlocks (l : List (Nat × Nat)) (af : Nat) : Nat → List (Nat × Nat)
  | 0 => l
  | n + 1 => spPut (fun _ => 0) (ageBlocks l af n) n (spGet (fun _ => 0) (ageBlocks l af n) n + af)

/-- The bin of an hourly average (R547). -/
def histBin (tj : Int) : Nat := if tj < 0 then 0 else if 140 ≤ tj then 15 else Int.toNat tj / 10 + 1

/-- Margin of items 1 to 4 from `RON` and `BASE` (R544): 100 × (1 − (RON − BASE) ÷ (0.5 × BASE)). -/
def ronMargin (ron base : Nat) : Nat := if base = 0 then 0 else min 100 ((300 * base - 200 * ron) / base)

/-- An on-resistance normalised to 25 °C: R ÷ (1 + 0.0051 × (Tj − 25)) (R544). -/
def ronNorm (r : Nat) (tj : Int) : Nat := Int.toNat ((r : Int) * 10000 / (10000 + 51 * (tj - 25)))

/-- Items 1 to 4: a port's hourly mean of drop ÷ current in 10 µΩ, where samples were taken, normalised at the hour's mean junction
temperature (R544; log entry 94). -/
def State.ledgerRon (s : State) (n : Fin 4) (ron : Option Nat) (tj : Int) : State :=
  match ron with
  | none => s
  | some x =>
    let r := min 4095 (ronNorm x tj)
    s.setReg (0x0024 + n) (fw 0 r ||| fw 24 (ronMargin r (Config.ronBase n).toNat))

/-- Item 5: the offset over 2 or more peers. -/
def State.ledgerOsc (s : State) (osc : Option (Int × Nat)) : State :=
  match osc with
  | some (o, peers) =>
    if 2 ≤ peers then
      s.setReg 0x0028 (fw 0 (sfld 12 o) ||| fw 12 (min 15 peers) ||| fw 16 (marginOf o.natAbs 800))
    else s
  | none => s

/-- Highest erase count among pages `a` to below `b`. -/
def maxErase (l : List (Nat × Nat)) (a b : Nat) : Nat :=
  l.foldl (fun m e => if a ≤ e.1 ∧ e.1 < b then max m e.2 else m) 0

/-- One item of NVM wear. -/
def State.ledgerWear (s : State) (j n : Nat) : State :=
  s.setReg (0x0029 + j) (fw 0 (min 0xFFFFF n) ||| fw 20 (marginOf n 1000000))

/-- Items 6 to 9; the Onyx region's pages are Onyx's own, and their count is a free value (log entry 15). -/
def State.ledgerWears (s : State) : State :=
  let l := s.nvm.erases
  let s := ((s.ledgerWear 0 (maxErase l 0 0x6000)).ledgerWear 1 (maxErase l 0x6100 0xE100)).ledgerWear 2 (maxErase l 0xE100 0x10000)
  { s with draws := s.draws + 1 }.ledgerWear 3 (Config.onyxWear s.draws).toNat

/-- The block of lowest margin among the first `n`, the lowest-numbered of those. -/
def State.worstBlock (s : State) : Nat → Nat
  | 0 => 0
  | n + 1 =>
    let b := s.worstBlock n
    if s.blockMargin n < s.blockMargin b then n else b

/-- Item 11 and `GLB_LDG_RET`. -/
def State.ledgerRet (s : State) : State :=
  let b := s.worstBlock 256
  s.setReg 0x002D (fw 0 (s.blockMargin b) ||| fw 8 b ||| (s.reg 0x002D &&& 0xFFFF0000))

/-- Margin of item 1 to 10. -/
def State.itemMargin (s : State) (item : Nat) : Nat :=
  if item ≤ 4 then s.rf (0x0023 + item) 24 7
  else if item = 5 then s.rf 0x0028 16 7
  else if item ≤ 9 then s.rf (0x0023 + item) 20 7
  else s.rf 0x002E 0 7

/-- R545: an item warns once in the device's life; a port never measured stands at 100 %. -/
def State.warnItem (s : State) (item : Nat) : State :=
  if s.itemMargin item < 20 ∧ s.bit 0x0022 (item - 1) = false then
    let m := s.itemMargin item
    let s := s.orReg 0x0022 (flag (item - 1) true)
    (s.fault 5 0x09 item).jrn 0x0F [BitVec.ofNat 8 item, BitVec.ofNat 8 m]
  else s

/-- R543: a block below 20 % warns once until it is scrubbed. -/
def State.warnBlock (s : State) (b : Nat) : State :=
  if s.blockMargin b < 20 ∧ s.nvm.warned.contains b = false then
    let m := s.blockMargin b
    let s := s.modNvm fun v => { v with warned := v.warned ++ [b] }
    (s.fault 5 0x08 m).jrn 0x0F [11, BitVec.ofNat 8 m]
  else s

/-- Every item of the ledger and every block's age at the end of a powered hour (R540, R543 to R545). -/
def State.ledgerHour (s : State) (ron : Four (Option Nat)) (osc : Option (Int × Nat)) (tj : Int) : State :=
  let t := kelvin100 tj
  let s := s.setReg 0x0020 (s.reg 0x0020 + 1)
  let s := s.setFld 0x0023 0 8 (Int.toNat (tj + 64))
  let s := s.setReg (0x0030 + histBin tj) (s.reg (0x0030 + histBin tj) + 1)
  let s := s.modNvm fun v => { v with eqh := v.eqh + ageing 8123 39815 t, age := ageBlocks v.age (ageing 12765 37815 t) 256 }
  let s := (s.setReg 0x0021 (BitVec.ofNat 32 (s.nvm.eqh / 1000000))).setReg 0x002E (fw 0 (marginOf s.nvm.eqh 350640000000))
  let s := (((s.ledgerRon 0 ron.a tj).ledgerRon 1 ron.b tj).ledgerRon 2 ron.c tj).ledgerRon 3 ron.d tj
  let s := ((s.ledgerOsc osc).ledgerWears).ledgerRet
  let s := [1, 2, 3, 4, 5, 6, 7, 8, 9, 10].foldl State.warnItem s
  (List.range 256).foldl State.warnBlock s

/-- R544. -/
def execLedgerHour (ron : Four (Option Nat)) (osc : Option (Int × Nat)) (tjMean : Int) (s : State) :
    Host.Outcome State Fault Refusal :=
  event s true (s.ledgerHour ron osc tjMean)

/-- Order a write of the ledger record; two that wait are one (R546, R549). -/
def State.ledgerSave (s : State) : State := if s.nvm.ops.contains .ledger then s else s.nvmQueue .ledger

/-- `SAVE` is ignored in SENTINEL and in BOOT (R547, R549). -/
def State.saveCmd (s : State) : State := if s.mode = .sentinel ∨ s.mode = .boot then s else s.ledgerSave

/-- R546. -/
def execSave (_ : Master) (s : State) : Host.Outcome State Fault Refusal := powered s s.saveCmd

/-- R546: the write due after every 8 powered hours, outside SENTINEL. -/
def execLedgerPeriodicSave (s : State) : Host.Outcome State Fault Refusal :=
  event s (decide (s.mode ≠ .sentinel) && decide (s.mode ≠ .boot) && decide ((s.reg 0x0020).toNat % 8 = 0)) s.ledgerSave

/-- R356. -/
def execGaugeRecordHour (s : State) : Host.Outcome State Fault Refusal :=
  event s (decide (s.mode = .run) && decide (s.hub.bat.st ≠ .unconfigured)) s.gaugeRecord

end Sys2Proof.Machine
end

