-- ==== Sys2Proof/Machine/Rv.lean ====
section
/-! DEFINITION. The instructions of RV32IMC with Zicsr and machine mode as Lapidary decodes them (The core), and the
results of its arithmetic. Encodings and results are those of the RISC-V unprivileged and privileged ISA, which the manual
names and does not print (PRESUMED, log entry 35). -/
namespace Sys2Proof.Machine

/-- Register and immediate operations of the base ISA. -/
inductive AluOp where
  | add | sub | sll | slt | sltu | xor | srl | sra | or | and
deriving DecidableEq, Repr

/-- Operations of the M extension. -/
inductive MulOp where
  | mul | mulh | mulhsu | mulhu | div | divu | rem | remu
deriving DecidableEq, Repr

inductive BrOp where
  | eq | ne | lt | ge | ltu | geu
deriving DecidableEq, Repr

/-- Width of a load or store. -/
inductive Wd where
  | byte | half | word
deriving DecidableEq, Repr

/-- What a Zicsr instruction does to the CSR. -/
inductive CsrOp where
  | write | set | clear
deriving DecidableEq, Repr

/-- A decoded instruction; registers are numbers 0 to 31, offsets are sign-extended words. -/
inductive Rv where
  | lui (rd : Nat) (imm : Word)
  | auipc (rd : Nat) (imm : Word)
  | jal (rd : Nat) (off : Word)
  | jalr (rd rs1 : Nat) (off : Word)
  | branch (op : BrOp) (rs1 rs2 : Nat) (off : Word)
  | load (w : Wd) (signed : Bool) (rd rs1 : Nat) (off : Word)
  | store (w : Wd) (rs1 rs2 : Nat) (off : Word)
  | aluImm (op : AluOp) (rd rs1 : Nat) (imm : Word)
  | alu (op : AluOp) (rd rs1 rs2 : Nat)
  | mul (op : MulOp) (rd rs1 rs2 : Nat)
  | csr (op : CsrOp) (rd src : Nat) (useImm : Bool) (no : Nat)
  | fence
  | ecall
  | ebreak
  | mret
  | wfi
  | illegal
deriving DecidableEq, Repr

/-- An `n`-bit number as a sign-extended word. -/
def sx (n v : Nat) : Word := if v < 2 ^ (n - 1) then BitVec.ofNat 32 v else BitVec.ofNat 32 (v + (2 ^ 32 - 2 ^ n))

/-! ### 32-bit encodings -/

def immI (w : Word) : Word := sx 12 (fld w 20 12)
def immS (w : Word) : Word := sx 12 (fld w 25 7 * 32 + fld w 7 5)
def immB (w : Word) : Word :=
  sx 13 (fld w 31 1 * 4096 + fld w 7 1 * 2048 + fld w 25 6 * 32 + fld w 8 4 * 2)
def immU (w : Word) : Word := w &&& 0xFFFFF000
def immJ (w : Word) : Word :=
  sx 21 (fld w 31 1 * 1048576 + fld w 12 8 * 4096 + fld w 20 1 * 2048 + fld w 21 10 * 2)

def rvLoad (w : Word) : Rv :=
  let rd := fld w 7 5
  let rs1 := fld w 15 5
  match fld w 12 3 with
  | 0 => .load .byte true rd rs1 (immI w)
  | 1 => .load .half true rd rs1 (immI w)
  | 2 => .load .word true rd rs1 (immI w)
  | 4 => .load .byte false rd rs1 (immI w)
  | 5 => .load .half false rd rs1 (immI w)
  | _ => .illegal

def rvStore (w : Word) : Rv :=
  match fld w 12 3 with
  | 0 => .store .byte (fld w 15 5) (fld w 20 5) (immS w)
  | 1 => .store .half (fld w 15 5) (fld w 20 5) (immS w)
  | 2 => .store .word (fld w 15 5) (fld w 20 5) (immS w)
  | _ => .illegal

def rvBranch (w : Word) : Rv :=
  let b := fun op => Rv.branch op (fld w 15 5) (fld w 20 5) (immB w)
  match fld w 12 3 with
  | 0 => b .eq | 1 => b .ne | 4 => b .lt | 5 => b .ge | 6 => b .ltu | 7 => b .geu
  | _ => .illegal

def rvOpImm (w : Word) : Rv :=
  let rd := fld w 7 5
  let rs1 := fld w 15 5
  let sh := BitVec.ofNat 32 (fld w 20 5)
  match fld w 12 3 with
  | 0 => .aluImm .add rd rs1 (immI w)
  | 1 => if fld w 25 7 = 0 then .aluImm .sll rd rs1 sh else .illegal
  | 2 => .aluImm .slt rd rs1 (immI w)
  | 3 => .aluImm .sltu rd rs1 (immI w)
  | 4 => .aluImm .xor rd rs1 (immI w)
  | 5 =>
    if fld w 25 7 = 0 then .aluImm .srl rd rs1 sh else if fld w 25 7 = 32 then .aluImm .sra rd rs1 sh else .illegal
  | 6 => .aluImm .or rd rs1 (immI w)
  | _ => .aluImm .and rd rs1 (immI w)

def rvMul (f3 : Nat) : MulOp :=
  match f3 with
  | 0 => .mul | 1 => .mulh | 2 => .mulhsu | 3 => .mulhu | 4 => .div | 5 => .divu | 6 => .rem | _ => .remu

def rvOp (w : Word) : Rv :=
  let a := fun op => Rv.alu op (fld w 7 5) (fld w 15 5) (fld w 20 5)
  match fld w 25 7 with
  | 0 =>
    (match fld w 12 3 with
    | 0 => a .add | 1 => a .sll | 2 => a .slt | 3 => a .sltu | 4 => a .xor | 5 => a .srl | 6 => a .or | _ => a .and)
  | 32 => (match fld w 12 3 with | 0 => a .sub | 5 => a .sra | _ => .illegal)
  | 1 => .mul (rvMul (fld w 12 3)) (fld w 7 5) (fld w 15 5) (fld w 20 5)
  | _ => .illegal

def rvSystem (w : Word) : Rv :=
  let rd := fld w 7 5
  let src := fld w 15 5
  let no := fld w 20 12
  match fld w 12 3 with
  | 0 =>
    if w = 0x00000073 then .ecall else if w = 0x00100073 then .ebreak else if w = 0x30200073 then .mret
    else if w = 0x10500073 then .wfi else .illegal
  | 1 => .csr .write rd src false no
  | 2 => .csr .set rd src false no
  | 3 => .csr .clear rd src false no
  | 5 => .csr .write rd src true no
  | 6 => .csr .set rd src true no
  | 7 => .csr .clear rd src true no
  | _ => .illegal

/-- A 32-bit instruction word. -/
def rvDecode (w : Word) : Rv :=
  match fld w 0 7 with
  | 0x37 => .lui (fld w 7 5) (immU w)
  | 0x17 => .auipc (fld w 7 5) (immU w)
  | 0x6F => .jal (fld w 7 5) (immJ w)
  | 0x67 => if fld w 12 3 = 0 then .jalr (fld w 7 5) (fld w 15 5) (immI w) else .illegal
  | 0x63 => rvBranch w
  | 0x03 => rvLoad w
  | 0x23 => rvStore w
  | 0x13 => rvOpImm w
  | 0x33 => rvOp w
  | 0x0F => if fld w 12 3 = 0 then .fence else .illegal
  | 0x73 => rvSystem w
  | _ => .illegal

/-! ### 16-bit encodings -/

/-- Register of a 3-bit field: x8 to x15. -/
def rc3 (w : Word) (lo : Nat) : Nat := 8 + fld w lo 3

def cImm6 (w : Word) : Nat := fld w 12 1 * 32 + fld w 2 5

def cOff8 (w : Word) : Word :=
  sx 9 (fld w 12 1 * 256 + fld w 5 2 * 64 + fld w 2 1 * 32 + fld w 10 2 * 8 + fld w 3 2 * 2)

def cOff11 (w : Word) : Word :=
  sx 12 (fld w 12 1 * 2048 + fld w 8 1 * 1024 + fld w 9 2 * 256 + fld w 6 1 * 128 + fld w 7 1 * 64 + fld w 2 1 * 32
    + fld w 11 1 * 16 + fld w 3 3 * 2)

/-- Offset of `C.LW` and `C.SW`. -/
def cOffW (w : Word) : Word := BitVec.ofNat 32 (fld w 5 1 * 64 + fld w 10 3 * 8 + fld w 6 1 * 4)

def rvcQ0 (w : Word) : Rv :=
  match fld w 13 3 with
  | 0 =>
    let n := fld w 7 4 * 64 + fld w 11 2 * 16 + fld w 5 1 * 8 + fld w 6 1 * 4
    if n = 0 then .illegal else .aluImm .add (rc3 w 2) 2 (BitVec.ofNat 32 n)
  | 2 => .load .word true (rc3 w 2) (rc3 w 7) (cOffW w)
  | 6 => .store .word (rc3 w 7) (rc3 w 2) (cOffW w)
  | _ => .illegal

/-- `C.LUI` and `C.ADDI16SP`; a zero immediate is reserved. -/
def rvcLui (w : Word) : Rv :=
  let rd := fld w 7 5
  if rd = 2 then
    let n := fld w 12 1 * 512 + fld w 3 2 * 128 + fld w 5 1 * 64 + fld w 2 1 * 32 + fld w 6 1 * 16
    if n = 0 then .illegal else .aluImm .add 2 2 (sx 10 n)
  else if cImm6 w = 0 then .illegal
  else .lui rd (sx 18 (cImm6 w * 4096))

/-- Shifts, `C.ANDI` and the register operations. -/
def rvcArith (w : Word) : Rv :=
  let rd := rc3 w 7
  let a := fun op => if fld w 12 1 = 1 then Rv.illegal else Rv.alu op rd rd (rc3 w 2)
  let sh := fun op => if fld w 12 1 = 1 then Rv.illegal else Rv.aluImm op rd rd (BitVec.ofNat 32 (fld w 2 5))
  match fld w 10 2 with
  | 0 => sh .srl
  | 1 => sh .sra
  | 2 => .aluImm .and rd rd (sx 6 (cImm6 w))
  | _ => match fld w 5 2 with
    | 0 => a .sub | 1 => a .xor | 2 => a .or | _ => a .and

def rvcQ1 (w : Word) : Rv :=
  let rd := fld w 7 5
  match fld w 13 3 with
  | 0 => .aluImm .add rd rd (sx 6 (cImm6 w))
  | 1 => .jal 1 (cOff11 w)
  | 2 => .aluImm .add rd 0 (sx 6 (cImm6 w))
  | 3 => rvcLui w
  | 4 => rvcArith w
  | 5 => .jal 0 (cOff11 w)
  | 6 => .branch .eq (rc3 w 7) 0 (cOff8 w)
  | _ => .branch .ne (rc3 w 7) 0 (cOff8 w)

def rvcQ2 (w : Word) : Rv :=
  let rd := fld w 7 5
  let rs2 := fld w 2 5
  match fld w 13 3 with
  | 0 => if fld w 12 1 = 1 then .illegal else .aluImm .sll rd rd (BitVec.ofNat 32 rs2)
  | 2 =>
    if rd = 0 then .illegal
    else .load .word true rd 2 (BitVec.ofNat 32 (fld w 2 2 * 64 + fld w 12 1 * 32 + fld w 4 3 * 4))
  | 4 =>
    if fld w 12 1 = 0 then
      (if rs2 ≠ 0 then .alu .add rd 0 rs2 else if rd = 0 then .illegal else .jalr 0 rd 0)
    else if rs2 ≠ 0 then .alu .add rd rd rs2
    else if rd = 0 then .ebreak else .jalr 1 rd 0
  | 6 => .store .word 2 rs2 (BitVec.ofNat 32 (fld w 7 2 * 64 + fld w 9 4 * 4))
  | _ => .illegal

/-- A 16-bit instruction, in bits 15:0. -/
def rvcDecode (w : Word) : Rv :=
  match fld w 0 2 with
  | 0 => rvcQ0 w | 1 => rvcQ1 w | _ => rvcQ2 w

/-! ### Results -/

def aluRes (op : AluOp) (a b : Word) : Word :=
  match op with
  | .add => a + b
  | .sub => a - b
  | .sll => a <<< (b.toNat % 32)
  | .slt => if a.slt b then 1 else 0
  | .sltu => if a.ult b then 1 else 0
  | .xor => a ^^^ b
  | .srl => a >>> (b.toNat % 32)
  | .sra => a.sshiftRight (b.toNat % 32)
  | .or => a ||| b
  | .and => a &&& b

/-- Results of the M extension: a division by 0 gives all ones or the dividend, the overflowing one its wrapped result. -/
def mulRes (op : MulOp) (a b : Word) : Word :=
  match op with
  | .mul => a * b
  | .mulh => BitVec.ofInt 32 (a.toInt * b.toInt / 2 ^ 32)
  | .mulhsu => BitVec.ofInt 32 (a.toInt * b.toNat / 2 ^ 32)
  | .mulhu => BitVec.ofNat 32 (a.toNat * b.toNat / 2 ^ 32)
  | .div => if b = 0 then 0xFFFFFFFF else BitVec.ofInt 32 (a.toInt.tdiv b.toInt)
  | .divu => if b = 0 then 0xFFFFFFFF else BitVec.ofNat 32 (a.toNat / b.toNat)
  | .rem => if b = 0 then a else BitVec.ofInt 32 (a.toInt.tmod b.toInt)
  | .remu => if b = 0 then a else BitVec.ofNat 32 (a.toNat % b.toNat)

def brTaken (op : BrOp) (a b : Word) : Bool :=
  match op with
  | .eq => decide (a = b) | .ne => decide (a ≠ b) | .lt => a.slt b | .ge => !a.slt b
  | .ltu => a.ult b | .geu => !a.ult b

def wdBytes : Wd → Nat
  | .byte => 1 | .half => 2 | .word => 4

/-- Size code of a first-error capture (R422). -/
def wdCode : Wd → Nat
  | .byte => 0 | .half => 1 | .word => 2

/-- A loaded number of the access width, extended. -/
def extend (w : Wd) (signed : Bool) (v : Nat) : Word :=
  match w with
  | .byte => if signed then sx 8 (v % 256) else BitVec.ofNat 32 (v % 256)
  | .half => if signed then sx 16 (v % 65536) else BitVec.ofNat 32 (v % 65536)
  | .word => BitVec.ofNat 32 v

end Sys2Proof.Machine
end

