-- ==== Sys2Proof/Machine/Fabric.lean ====
section
/-! DEFINITION. The fabric bus: what a word write and a word read of any index do, whichever master makes them (R5 to R7,
R17, R150, R463), command registers and mailboxes among them (R44, R52, R158); and the registers of Lapidary and of the
debug logic (R151, R470). Arbitration (R32 to R35) orders the commands of the queue and is not modelled (log entry 37). -/
namespace Sys2Proof.Machine

/-! ### Lapidary's registers -/

/-- General register `n` of Lapidary; x0 reads 0. -/
def Lap.x (l : Lap) (n : Nat) : Word := if n = 0 then 0 else l.xs.getD (n - 1) 0

/-- Write general register `n`; x0 discards. -/
def Lap.setX (l : Lap) (n : Nat) (v : Word) : Lap := if n = 0 then l else { l with xs := l.xs.set (n - 1) v }

/-- The `n` bytes of SRAM from offset `o`, as a number. -/
def Lap.sramNum (l : Lap) (o n : Nat) : Nat := leNat (spRun (fun _ => (0 : Byte)) l.sram o n)

/-- Store `n` bytes of SRAM at offset `o`. -/
def Lap.sramPut (l : Lap) (o n v : Nat) : Lap := { l with sram := spPutAll (fun _ => (0 : Byte)) l.sram o (leBytes n v) }

/-- A ring of the doorbell: a non-zero code replaces the last (R151). -/
def State.doorbell (s : State) (code : Nat) : State := if code = 0 then s else s.setReg 0x0704 (fw 0 code)

/-- The watchdog's key (R164). -/
def State.wdKick (s : State) (key : Nat) : State := if key = 0x6B then s.modLap fun l => { l with wdCount := 0 } else s

/-- A read of `LAP_EVQq_W0` removes the oldest entry and latches its word 1 (R153). -/
def State.evqPop (s : State) (q : Nat) : State :=
  match (s.evq q).ents with
  | [] => s
  | e :: l => s.setEvq q { ents := l, w1 := e.2 }

/-! ### The debug logic -/

/-- The debug logic answers (R444, R470). -/
def State.dbgOn (s : State) : Bool := s.onx.dbgEn

/-- Lapidary halts at this instruction boundary, the PWM generator freezes, and `DBG_PC` shows where (R170, R171, R470). -/
def State.lapHalt (s : State) (cause : BitVec 4) : State :=
  let s := s.setReg 0x2102 s.lap.pc
  let s := s.modLap fun l => { l with run := .halted, dbgCause := cause }
  s.freeze

/-- Execution goes on from `DBG_PC` and the PWM generator runs again (R332, R470). -/
def State.lapResume (s : State) : State :=
  let pc := s.reg 0x2102
  (s.modLap fun l => { l with run := .running, pc := pc }).unfreeze

/-- A halt request acts on a core that runs while the debug logic answers (R445, R470). -/
def State.mayHalt (s : State) : Bool := s.dbgOn && decide (s.lap.run = .running)

/-- Lapidary is halted and the debug logic answers. -/
def State.halted (s : State) : Bool := s.dbgOn && decide (s.lap.run = .halted)

/-- `DBG_MEM_ADDR` moves on by a word. -/
def State.memNext (s : State) : State := s.setFld 0x2105 2 17 (s.rf 0x2105 2 17 + 1)

/-- A write in the debug range with the debug logic on, but for `STEP` (R470). -/
def State.dbgWrite (s : State) (m i : Nat) (v : Word) : State :=
  match i with
  | 0x2100 =>
    if v.getLsbD 0 && s.mayHalt then s.lapHalt 1
    else if v.getLsbD 1 && !v.getLsbD 0 && s.halted then s.lapResume
    else s
  | 0x2101 => s
  | 0x2102 => if s.halted then s.setReg 0x2102 v else s
  | 0x2103 => s.setReg 0x2103 (v &&& 0x1F)
  | 0x2104 => if s.halted then s.modLap fun l => l.setX (s.rf 0x2103 0 5) v else s
  | 0x2105 => s.setReg 0x2105 (v &&& 0x7FFFC)
  | 0x2106 => if s.halted then (s.modLap fun l => l.sramPut (4 * s.rf 0x2105 2 17) 4 v.toNat).memNext else s
  | _ => s.busError i m true 2 1

/-- A read in the debug range with the debug logic on. -/
def State.dbgRead (s : State) (m i : Nat) : Word × State :=
  match i with
  | 0x2100 => (0, s)
  | 0x2104 => (s.lap.x (s.rf 0x2103 0 5), s)
  | 0x2106 => (BitVec.ofNat 32 (s.lap.sramNum (4 * s.rf 0x2105 2 17) 4), s.memNext)
  | _ => if 0x2107 ≤ i then (0, s.busError i m false 2 1) else (s.regView i, s)

/-! ### Command words -/

/-- Opcode and `ARG` of a command word. -/
def cmdOp (v : Word) : Nat := fld v 8 8
def cmdArg (v : Word) : Nat := fld v 16 16

/-- A command word written for a unit by a master, to its register or its mailbox (R44, R158): it awaits its evaluation. -/
def State.unitWord (s : State) (m : Master) (u : Option Port) (v : Word) (src : Src) : State :=
  s.unitWrite m u (cmdOp v) (BitVec.ofNat 8 (fld v 0 8)) (cmdArg v) src false

/-! ### The controller engine's command -/

/-- `GO` (R471): the engine is busy, the address is the device's own, or SENTINEL or SAFE has no engine. -/
def State.goRefused (s : State) (v : Word) : Bool :=
  decide (s.svc.ctl ≠ .idle) || decide (fld v 0 7 = s.svc.addr.toNat) || decide (s.mode = .sentinel)
    || decide (s.mode = .safe)

/-- A write of `SVC_C_CMD` (R471). -/
def State.ctlGo (s : State) (v : Word) : State :=
  if !v.getLsbD 24 then s
  else if s.goRefused v then s.orReg 0x2001 (flag 7 true)
  else s.modSvc fun c => { c with ctl := if c.busBusy then .waitBus else .running, ctlCmd := v, attempts := 0 }

/-! ### Writes -/

/-- A write to a facet's register that is a command. -/
def State.facetWrite (s : State) (m : Master) (p : Port) (o : Nat) (v : Word) : State :=
  match o with
  | 0x001 => s.unitWord m (some p) v (.direct m)
  | 0x084 => s.txctl p v
  | 0x086 => if v.getLsbD 3 then s.rxRelease p else s
  | _ => s.regWrite (fx p o) v

/-- A write below the window, outside the facets and the fault units, of a register that exists. -/
def State.lowWrite (s : State) (m : Master) (i : Nat) (v : Word) : State :=
  if 0x0340 ≤ i ∧ i ≤ 0x037F then s.onxData m (i - 0x0340) v
  else if 0x0740 ≤ i ∧ i ≤ 0x0749 ∧ i % 2 = 0 then
    s.unitWord m (if i = 0x0748 then none else some (portOf ((i - 0x0740) / 2))) v .mailbox
  else match i with
  | 0x002F => if v.getLsbD 0 then s.saveCmd else s
  | 0x0101 => s.await (.mode m) (cmdOp v) 0 (cmdArg v) false
  | 0x0201 => s.cfgCmd m (cmdOp v) (cmdArg v)
  | 0x0203 => s.cfgData m v
  | 0x0205 => s.cfgSel v
  | 0x0301 => s.onxCmd m (cmdOp v) (BitVec.ofNat 16 (cmdArg v))
  | 0x0506 => s.adcCmd v
  | 0x0602 => s.nvmCmd m (cmdOp v) (cmdArg v)
  | 0x065C => s.capAck v
  | 0x0703 => s.doorbell (fld v 0 16)
  | 0x0706 => s.wdKick (fld v 0 8)
  | 0x0801 => s.unitWord m none v (.direct m)
  | 0x2003 => s.ctlGo v
  | _ => s.regWrite i v

/-- A word written to index `i` by a master (R6, R17); `STEP` of `DBG_CTL` is taken by `fabricWrite`. -/
def State.busWrite (s : State) (m : Master) (i : Nat) (v : Word) : State :=
  if 0x8000 ≤ i then s.winWrite m (i - 0x8000) v
  else if 0x2100 ≤ i ∧ i ≤ 0x21FF then
    (if s.dbgOn then s.dbgWrite (masterId m) i v else s.busError i (masterId m) true 2 1)
  else match regRow i with
    | none => s.busError i (masterId m) true 2 1
    | some _ =>
      match unitOf i with
      | some (u, o) => if o = 1 then s.fltAck u v else s.regWrite i v
      | none =>
        match facetOf i with
        | some (p, o) => s.facetWrite m p o v
        | none => s.lowWrite m i v

/-! ### Reads -/

/-- A command register reads 0 (WO, R6). -/
def writeOnly (i : Nat) : Bool :=
  (match unitOf i with | some (_, o) => decide (o = 1) | none => false)
    || (match facetOf i with | some (_, o) => decide (o = 0x001 ∨ o = 0x084) | none => false)
    || decide (0x0740 ≤ i ∧ i ≤ 0x0749 ∧ i % 2 = 0)
    || decide (i ∈ [0x002F, 0x0101, 0x0201, 0x0203, 0x0301, 0x0506, 0x0602, 0x065C, 0x0703, 0x0706, 0x0801, 0x2003])

/-- What a read of an existing register changes: RC fields clear, queues and FIFOs pop, TIME is caught (R6, R16, R27,
R153, R397, R421). -/
def State.readEffect (s : State) (i : Nat) (rc : Word) : State :=
  if 0x0720 ≤ i ∧ i ≤ 0x0733 ∧ i % 4 = 0 then s.evqPop ((i - 0x0720) / 4)
  else match unitOf i with
    | some (u, 6) => s.histPop u
    | _ => match i with
      | 0x0011 => s.timeSnap
      | 0x0304 => s.rngRead
      | 0x0504 => s.adcPop
      | _ => if rc = 0 then s else s.clrReg i rc

/-- A word read at index `i` by a master, and what the read changes. `corrected` and `uncorrectable` say what the NVM's
error correction found, where the index lies in the window (R510). -/
def State.busRead (s : State) (m : Master) (i : Nat) (corrected uncorrectable : Bool) : Word × State :=
  if 0x8000 ≤ i then
    (s.winWord (i - 0x8000) uncorrectable, s.winRead (masterId m) (i - 0x8000) corrected uncorrectable)
  else if 0x2100 ≤ i ∧ i ≤ 0x21FF then
    (if s.dbgOn then s.dbgRead (masterId m) i else (0, s.busError i (masterId m) false 2 1))
  else match regRow i with
    | none => (0, s.busError i (masterId m) false 2 1)
    | some r =>
      if writeOnly i then (0, s.onxSeen m i)
      else (if i = 0x0304 then s.rngWord else s.regView i, (s.readEffect i r.rc).onxSeen m i)

end Sys2Proof.Machine
end

