-- ==== Sys2Proof/Machine/LapCore.lean ====
section
/-! DEFINITION. One instruction of Lapidary (R146 to R150, R160): traps and CSRs, the fetch, loads and stores over the
memory map of R148, and every instruction's effect. What R148 to R150 leave to the RISC-V ISA is that ISA's (PRESUMED, log
entry 35). -/
namespace Sys2Proof.Machine

/-! ### Traps and CSRs -/

/-- `mstatus` as a trap is taken: `MPIE` takes `MIE`, and `MIE` clears. -/
def trapStatus (w : Word) : Word := withFld (withFld w 7 1 (fld w 3 1)) 3 1 0

/-- A trap with `mcause`, `mtval` and the address `mtvec` gives it: interrupts are vectored in mode 1. -/
def Lap.trap (l : Lap) (cause tval : Word) : Lap :=
  let base := l.csr.mtvec &&& 0xFFFFFFFC
  let pc := if cause.getLsbD 31 && l.csr.mtvec.getLsbD 0 then base + (cause <<< 2) else base
  { l with pc := pc, csr := { l.csr with mepc := l.pc, mcause := cause, mtval := tval, mstatus := trapStatus l.csr.mstatus } }

/-- An exception: its number and the address or instruction it concerns. -/
def State.lapTrap (s : State) (cause : Nat) (info : Word) : State :=
  s.modLap fun l => l.trap (BitVec.ofNat 32 cause) (Config.lapMtval cause info)

/-- The machine external interrupt is taken where it is pending and enabled (R160). -/
def State.lapIrq (s : State) : Bool := s.lap.csr.mstatus.getLsbD 3 && s.lap.csr.mie.getLsbD 11 && s.meip

def State.lapInterrupt (s : State) : State := if s.lapIrq then s.modLap fun l => l.trap 0x8000000B 0 else s

/-- An environment call; `mtval` is 0. -/
def State.lapEcall (s : State) : State := s.modLap fun l => l.trap 11 0

/-- Return from a trap. -/
def Lap.mret (l : Lap) : Lap :=
  let w := l.csr.mstatus
  { l with pc := l.csr.mepc, csr := { l.csr with mstatus := withFld (withFld w 3 1 (fld w 7 1)) 7 1 1 } }

/-- The CSRs that exist (The core, R146), and what each reads. -/
def State.csrRead (s : State) (no : Nat) : Option Word :=
  let c := s.lap.csr
  match no with
  | 0x300 => some c.mstatus
  | 0x301 => some c.misa
  | 0x304 => some c.mie
  | 0x305 => some c.mtvec
  | 0x340 => some c.mscratch
  | 0x341 => some c.mepc
  | 0x342 => some c.mcause
  | 0x343 => some c.mtval
  | 0x344 => some (flag 11 s.meip)
  | 0xB00 => some (c.mcycle.setWidth 32)
  | 0xB02 => some (c.minstret.setWidth 32)
  | 0xB80 => some ((c.mcycle >>> 32).setWidth 32)
  | 0xB82 => some ((c.minstret >>> 32).setWidth 32)
  | 0xC00 => some (c.mcycle.setWidth 32)
  | 0xC01 => some (fw 0 (s.time % 2 ^ 32))
  | 0xC02 => some (c.minstret.setWidth 32)
  | 0xC80 => some ((c.mcycle >>> 32).setWidth 32)
  | 0xC81 => some (fw 0 (s.time / 2 ^ 32))
  | 0xC82 => some ((c.minstret >>> 32).setWidth 32)
  | 0xF14 => some 0
  | _ => none

/-- A counter with its low or high word replaced. -/
def setLo (c : BitVec 64) (v : Word) : BitVec 64 := (c >>> 32 <<< 32) ||| v.setWidth 64
def setHi (c : BitVec 64) (v : Word) : BitVec 64 := (c <<< 32 >>> 32) ||| (v.setWidth 64 <<< 32)

/-- A CSR takes a written word: the fields the core has; `MPP` stays machine mode, `misa` and `mip` do not change. -/
def Csrs.put (c : Csrs) (no : Nat) (v : Word) : Csrs :=
  match no with
  | 0x300 => { c with mstatus := (v &&& 0x88) ||| 0x1800 }
  | 0x304 => { c with mie := v &&& 0x800 }
  | 0x305 => { c with mtvec := v &&& 0xFFFFFFFD }
  | 0x340 => { c with mscratch := v }
  | 0x341 => { c with mepc := v &&& 0xFFFFFFFE }
  | 0x342 => { c with mcause := v }
  | 0x343 => { c with mtval := v }
  | 0xB00 => { c with mcycle := setLo c.mcycle v }
  | 0xB02 => { c with minstret := setLo c.minstret v }
  | 0xB80 => { c with mcycle := setHi c.mcycle v }
  | 0xB82 => { c with minstret := setHi c.minstret v }
  | _ => c

/-- The instruction retires (R146) and the pc moves to `next`. -/
def State.retire (s : State) (next : Word) : State :=
  s.modLap fun l => { l with pc := next, csr := { l.csr with minstret := l.csr.minstret + 1 } }

/-- Retire with a result in `rd`. -/
def State.retireX (s : State) (next : Word) (rd : Nat) (v : Word) : State := (s.retire next).modLap fun l => l.setX rd v

/-- What a Zicsr instruction writes. -/
def csrNew (op : CsrOp) (old v : Word) : Word :=
  match op with | .write => v | .set => old ||| v | .clear => old &&& ~~~ v

/-- A Zicsr instruction; a CSR that does not exist and a write of a read-only one are illegal. -/
def State.csrExec (s : State) (next bits : Word) (op : CsrOp) (rd src : Nat) (useImm : Bool) (no : Nat) : State :=
  let writes := decide (op = .write) || decide (src ≠ 0)
  match s.csrRead no with
  | none => s.lapTrap 2 bits
  | some old =>
    if writes && decide (0xC00 ≤ no) then s.lapTrap 2 bits
    else
      let v := if useImm then BitVec.ofNat 32 src else s.lap.x src
      let s := s.retireX next rd old
      if writes then s.modLap fun l => { l with csr := l.csr.put no (csrNew op old v) } else s

/-! ### Memory -/

/-- The `n` bytes at an address lie in SRAM (R148). -/
def inSram (a n : Nat) : Bool := decide (0x10000000 ≤ a) && decide (a + n ≤ 0x10080000)

/-- An address of the register space or the NVM window (R148). -/
def inFabric (a : Nat) : Bool := decide (0x40000000 ≤ a) && decide (a < 0x40040000)

/-- The instruction at the pc with its length and bits, or the address that no fetch reaches (R148). -/
inductive Fetched where
  | got (i : Rv) (len : Nat) (bits : Word)
  | fault (a : Word)
deriving DecidableEq, Repr

def Lap.fetch (l : Lap) : Fetched :=
  let a := l.pc.toNat
  if !inSram a 2 then .fault l.pc
  else
    let h := BitVec.ofNat 32 (l.sramNum (a - 0x10000000) 2)
    if fld h 0 2 ≠ 3 then .got (rvcDecode h) 2 h
    else if !inSram a 4 then .fault (l.pc + 2)
    else
      let w := BitVec.ofNat 32 (l.sramNum (a - 0x10000000) 4)
      .got (rvDecode w) 4 w

/-- A load (R148, R149). -/
def State.lapLoad (s : State) (next : Word) (w : Wd) (signed : Bool) (rd : Nat) (addr : Word) (cor unc : Bool) : State :=
  let a := addr.toNat
  if a % wdBytes w ≠ 0 then s.lapTrap 4 addr
  else if inSram a (wdBytes w) then
    s.retireX next rd (extend w signed (s.lap.sramNum (a - 0x10000000) (wdBytes w)))
  else if inFabric a then
    let r := (s.retire next).busRead .lapidary ((a - 0x40000000) / 4) cor unc
    r.2.modLap fun l => l.setX rd (extend w signed (r.1.toNat >>> (8 * (a % 4))))
  else s.lapTrap 5 addr

/-- A store (R148, R149): a byte or halfword store to the register space or the window is discarded and recorded. -/
def State.lapStore (s : State) (next : Word) (w : Wd) (addr v : Word) : State :=
  let a := addr.toNat
  if a % wdBytes w ≠ 0 then s.lapTrap 6 addr
  else if inSram a (wdBytes w) then (s.retire next).modLap fun l => l.sramPut (a - 0x10000000) (wdBytes w) v.toNat
  else if inFabric a then
    (match w with
    | .word => (s.retire next).busWrite .lapidary ((a - 0x40000000) / 4) v
    | _ => (s.retire next).capture 0 a 2 1 (wdCode w) 2)
  else s.lapTrap 7 addr

/-! ### Instructions -/

/-- `ebreak` (R470): a halt with `CAUSE` 3 while the debug logic is on, else the breakpoint exception. -/
def State.lapEbreak (s : State) : State := if s.dbgOn then s.lapHalt 3 else s.lapTrap 3 s.lap.pc

/-- The effect of an instruction of `len` bytes. -/
def State.lapExec (s : State) (i : Rv) (len : Nat) (bits : Word) (cor unc : Bool) : State :=
  let pc := s.lap.pc
  let next := pc + BitVec.ofNat 32 len
  let x := s.lap.x
  match i with
  | .lui rd imm => s.retireX next rd imm
  | .auipc rd imm => s.retireX next rd (pc + imm)
  | .jal rd off => s.retireX (pc + off) rd next
  | .jalr rd rs1 off => s.retireX ((x rs1 + off) &&& 0xFFFFFFFE) rd next
  | .branch op a b off => s.retire (if brTaken op (x a) (x b) then pc + off else next)
  | .load w sg rd rs1 off => s.lapLoad next w sg rd (x rs1 + off) cor unc
  | .store w rs1 rs2 off => s.lapStore next w (x rs1 + off) (x rs2)
  | .aluImm op rd rs1 imm => s.retireX next rd (aluRes op (x rs1) imm)
  | .alu op rd a b => s.retireX next rd (aluRes op (x a) (x b))
  | .mul op rd a b => s.retireX next rd (mulRes op (x a) (x b))
  | .csr op rd src useImm no => s.csrExec next bits op rd src useImm no
  | .fence => s.retire next
  | .wfi => s.retire next
  | .ecall => s.lapEcall
  | .ebreak => s.lapEbreak
  | .mret => (s.retire next).modLap Lap.mret
  | .illegal => s.lapTrap 2 bits

/-- The instruction at the pc. -/
def State.lapRun (s : State) (cor unc : Bool) : State :=
  if s.lap.pc.getLsbD 0 then s.lapTrap 0 s.lap.pc
  else match s.lap.fetch with
  | .got i len bits => s.lapExec i len bits cor unc
  | .fault a => s.lapTrap 1 a

/-- One instruction, after the interrupt that is pending and enabled has been taken. -/
def State.lapStep (s : State) (cor unc : Bool) : State := s.lapInterrupt.lapRun cor unc

end Sys2Proof.Machine
end

