-- ==== Sys2Proof/Machine/LapFamily.lean ====
section
/-! DEFINITION. Lapidary's rows: execution and debug (R148, R170, R470), queues, doorbell and watchdog (R151 to R153, R164,
R165), policy timers (R162, R163) and request registers (R166 to R168). -/
namespace Sys2Proof.Machine

/-! ### Execution and debug -/

/-- R148. `corrected` and `uncorrectable` say what the NVM's error correction finds where the instruction loads through
the window (R510). -/
def execLapidaryInstruction (corrected uncorrectable : Bool) (s : State) : Host.Outcome State Fault Refusal :=
  event s s.lapClocked (s.lapStep corrected uncorrectable)

/-- Lapidary stands at an `ebreak`. -/
def State.atEbreak (s : State) : Bool :=
  !s.lap.pc.getLsbD 0 && (match s.lap.fetch with | .got .ebreak _ _ => true | _ => false)

/-- R470. -/
def execEbreak (s : State) : Host.Outcome State Fault Refusal :=
  event s (s.lapClocked && s.lapInterrupt.atEbreak) s.lapInterrupt.lapEbreak

/-- R170, R445. -/
def execHalt (s : State) : Host.Outcome State Fault Refusal := event s s.mayHalt (s.lapHalt 1)

/-- R470. -/
def execResume (s : State) : Host.Outcome State Fault Refusal := event s s.halted s.lapResume

/-- `STEP` (R470): one instruction, then a halt with `CAUSE` 2 unless it halted by itself or left the core in reset. -/
def State.dbgStep (s : State) (corrected uncorrectable : Bool) : State :=
  let s := s.lapResume.lapStep corrected uncorrectable
  if s.lap.run = .running then s.lapHalt 2 else s

/-- R470. -/
def execDbgStep (corrected uncorrectable : Bool) (s : State) : Host.Outcome State Fault Refusal :=
  event s s.halted (s.dbgStep corrected uncorrectable)

/-- A word write by any master, `STEP` of `DBG_CTL` among them. -/
def State.fabricWrite (s : State) (m : Master) (i : Nat) (v : Word) : State :=
  if decide (i = 0x2100) && decide (fld v 0 3 = 4) && s.halted then s.dbgStep false false else s.busWrite m i v

/-! ### Queues, doorbell, watchdog -/

/-- R153. -/
def execLapEvqRead (_ : Master) (q : Fin 5) (s : State) : Host.Outcome State Fault Refusal := powered s (s.evqPop q)

/-- R151. -/
def execDoorbellRing (_ : Master) (code : Half) (s : State) : Host.Outcome State Fault Refusal :=
  powered s (s.doorbell code.toNat)

/-- R151. -/
def execLapDbCodeRead (_ : Master) (s : State) : Host.Outcome State Fault Refusal := powered s (s.clrReg 0x0704 0xFFFF)

/-- R164. -/
def execLapWdKick (_ : Master) (key : Byte) (s : State) : Host.Outcome State Fault Refusal := powered s (s.wdKick key.toNat)

/-- The watchdog has counted `TIMEOUT` ticks (R164). -/
def State.wdDue (s : State) : Bool :=
  decide (s.lap.run = .running) && decide (s.rf 0x0705 0 16 ≠ 0) && decide (s.rf 0x0705 0 16 ≤ s.lap.wdCount)

/-- R164, R165: Lapidary is held in reset, the restart is counted and reported, and the loader reloads the code. -/
def State.wdExpire (s : State) : State :=
  let s := s.lapReset
  let s := (s.orReg 0x0700 (flag 2 true)).count 0x0700 8 8
  let s := s.modLdr fun l => { l with reload := true }
  s.fault 5 0x03 (s.rf 0x0700 8 8)

/-- R164. -/
def execWatchdogExpiry (s : State) : Host.Outcome State Fault Refusal := event s s.wdDue s.wdExpire

/-- A POLICY_CODE section. -/
def isPolicy (c : Sec) : Bool := decide (c.typ = 7)

/-- How the booted slot's POLICY_CODE is judged at a reload (R98, R99, R164): 0 where it has its digest and contents. -/
def State.policyCode (s : State) : Nat :=
  let slot := s.bootSlot.toNat
  let g := s.imageAt slot 0
  if s.badPage (areaBase slot 0) then 0x0E
  else if s.judgeDlist slot 0 ≠ 0 then s.judgeDlist slot 0
  else match s.judgeSecs (s.nvmBytes (areaBase slot 0 + 256) (256 * digestPages (hCount g.hdr))) isPolicy 0 g.secs with
    | some (code, _) => code
    | none => 0

/-- The booted slot's POLICY_CODE, where it passes. -/
def State.policySec (s : State) : Option Sec :=
  if s.policyCode = 0 then (s.imageAt s.bootSlot.toNat 0).sec 7 0 else none

/-- R147, R165: what was in SRAM is discarded, the code copied, and Lapidary leaves reset at its entry. -/
def State.lapRelease (s : State) (c : Sec) : State :=
  let s := (s.modLap fun l => { Lap.reset with tmr0 := l.tmr0, tmr1 := l.tmr1, tmr2 := l.tmr2, tmr3 := l.tmr3
                                               tmr4 := l.tmr4, tmr5 := l.tmr5, tmr6 := l.tmr6, tmr7 := l.tmr7 }).commitPolicy c
  s.modLap fun l => { l with run := .running, pc := l.entry }

/-- R164: the reload ends; a digest that fails leaves Lapidary in reset and raises the watchdog source at L3. In SAFE the
core stays in reset (R70). -/
def State.reloadEnd (s : State) : State :=
  let s := s.modLdr fun l => { l with reload := false }
  match s.policySec with
  | some c => if s.mode = .safe then s else s.lapRelease c
  | none => (s.fault 5 0x03 (s.rf 0x0700 8 8) true).nvmUnread s.bootSlot.toNat 0 isPolicy s.policyCode

/-- R164. -/
def execPolicyReloadDone (s : State) : Host.Outcome State Fault Refusal := event s s.ldr.reload s.reloadEnd

/-! ### Policy timers -/

/-- R163. -/
def execLapTmrCfgWrite (_ : Master) (n : Fin 8) (v : Word) (s : State) : Host.Outcome State Fault Refusal :=
  powered s (s.regWrite (0x0710 + 2 * n) v)

/-- R163: `EXPIRED` sets; a periodic timer reloads, another stops at 0 and clears `EN`. -/
def State.timerExpire (s : State) (n : Nat) : State :=
  let i := 0x0710 + 2 * n
  let s := s.orReg i (flag 27 true)
  if s.bit i 25 then s.setTmr n (Tmr.load (s.reg i)) else s.setFld i 26 1 0

/-- R163. -/
def execLapTimerExpiry (n : Fin 8) (s : State) : Host.Outcome State Fault Refusal :=
  event s (s.timerDue n) (s.timerExpire n)

/-! ### Requests -/

/-- The `_REQ` registers of the paired fields (table of R168). -/
def isReq (i : Nat) : Bool :=
  decide (i ∈ [0x0811, 0x0813, 0x0821, 0x0823, 0x08C1, 0x08C3, 0x08C5, 0x1141, 0x1541, 0x1941, 0x1D41])

/-- R166, R167: the effective value follows with the register's own rules. -/
def execReqWrite (_ : Master) (i : Half) (v : Word) (s : State) : Host.Outcome State Fault Refusal :=
  if isReq i.toNat then powered s (s.regWrite i.toNat v) else .next s

end Sys2Proof.Machine
end

