-- ==== Sys2Proof/Machine/SvcFamily.lean ====
section
/-! DEFINITION. The service port: the target side (R69, R462 to R470) and the controller engine with its arbitration
(R471 to R477). Words and index bytes arrive whole; bit timing is not modelled. -/
namespace Sys2Proof.Machine

/-- Set a flag of `SVC_FLAGS`. -/
def State.svcFlag (s : State) (k : Nat) : State := s.orReg 0x2001 (flag k true)

/-- The target acknowledges its address (R462). -/
def State.svcAnswers (s : State) : Bool := decide (s.mode = .standby) || decide (s.mode = .run) || decide (s.mode = .safe)

/-! ### Target -/

/-- A START: the target listens for its address where it answers, and is deaf elsewhere. -/
def State.svcListen (s : State) : State :=
  s.modSvc fun v => { v with tx := if s.svcAnswers then .started else .dead, fetched := none, busBusy := true }

/-- R69, R462: a START that wakes the device has its address NACKed. R64: an enabled one during SENTINEL entry cancels it, and its
address is acknowledged. -/
def State.svcStarted (s : State) : State :=
  let t := s.svcListen
  if s.mode = .sentinel ∧ s.bit 0x0103 9 = true then (t.svcFlag 8).wakeEvent 9 else t.wakeEvent 9

/-- R69. -/
def execSvcStart (s : State) : Host.Outcome State Fault Refusal := event s true s.svcStarted

/-- An index of the debug range (R469). -/
def dbgIndex (i : Nat) : Bool := decide (0x2100 ≤ i) && decide (i ≤ 0x21FF)

/-- The two index bytes (R464, R469). -/
def State.svcIndex (s : State) (i : Half) : State :=
  if dbgIndex i.toNat && !s.dbgOn then (s.modSvc fun v => { v with tx := .dead }).svcFlag 2
  else s.modSvc fun v => { v with ptr := i, tx := .index }

/-- R464, R469. -/
def execSvcIndexBytes (i : Half) (s : State) : Host.Outcome State Fault Refusal :=
  event s (s.svcAnswers && decide (s.svc.tx = .started)) (s.svcIndex i)

/-- The transaction moves words in one direction: writing after the index bytes, reading after A+R. -/
def Svc.writing (v : Svc) : Bool := decide (v.tx = .index) || (decide (v.tx = .data) && v.fetched.isNone)
def Svc.reading (v : Svc) : Bool := decide (v.tx = .started) || (decide (v.tx = .data) && v.fetched.isSome)

/-- A whole word written (R463, R465): the pointer moves on, wrapping, and the word goes to the fabric bus as master 3. -/
def State.svcWrite (s : State) (v : Word) : State :=
  (s.modSvc fun x => { x with ptr := x.ptr + 1, tx := .data }).fabricWrite .service s.svc.ptr.toNat v

/-- R465. -/
def execSvcWordWrite (v : Word) (s : State) : Host.Outcome State Fault Refusal :=
  event s (s.svcAnswers && s.svc.writing) (s.svcWrite v)

/-- A word fetched, which counts as read whatever follows (R466). -/
def State.svcRead (s : State) (corrected uncorrectable : Bool) : State :=
  let r := (s.modSvc fun x => { x with ptr := x.ptr + 1, tx := .data }).busRead .service s.svc.ptr.toNat corrected uncorrectable
  r.2.modSvc fun x => { x with fetched := some r.1 }

/-- R466; `corrected` and `uncorrectable` say what the NVM's error correction found where the pointer lies in the window
(R510). -/
def execSvcWordRead (corrected uncorrectable : Bool) (s : State) : Host.Outcome State Fault Refusal :=
  event s (s.svcAnswers && s.svc.reading) (s.svcRead corrected uncorrectable)

/-- A STOP, or a repeated START where `again`, after `bytes` bytes of a word not yet whole (R465). -/
def State.svcEnd (s : State) (bytes : Nat) (again : Bool) : State :=
  let s := if s.svc.writing && decide (bytes ≠ 0) then s.svcFlag 0 else s
  if again then s.svcListen else s.modSvc fun v => { v with tx := .idle, fetched := none }

/-- R465. -/
def execSvcStop (bytes : Fin 4) (again : Bool) (s : State) : Host.Outcome State Fault Refusal :=
  event s s.svc.busBusy (s.svcEnd bytes again)

/-- R468: any transaction on the bus is abandoned, a partial word without `SHORT`; the port waits for the next START. -/
def State.svcTimeout (s : State) : State :=
  (s.modSvc fun v =>
    let busy := v.busBusy || decide (v.ctl = .running)
    { v with tx := if busy then .dead else .idle, fetched := none, busBusy := busy
             ctl := if v.ctl = .running then .idle else v.ctl }).svcFlag 1

/-- R468: the 25 ms are counted by `CLK`, which SENTINEL stops. -/
def execSvcBusTimeout (s : State) : Host.Outcome State Fault Refusal := event s (decide (s.mode ≠ .sentinel)) s.svcTimeout

/-! ### Controller engine -/

/-- R471. -/
def execCtlGo (_ : Master) (v : Word) (s : State) : Host.Outcome State Fault Refusal := powered s (s.ctlGo v)

/-- `WLEN` and `RLEN`: above 16 acts as 16. -/
def rLen (w : Word) : Nat := min 16 (fld w 16 5)

/-- Bytes read go into `SVC_C_BUF0` upward, from byte `k` on (R472). -/
def State.bufBytes (s : State) (k : Nat) : List Byte → State
  | [] => s
  | b :: bs => (s.setFld (0x2008 + k / 4) (8 * (k % 4)) 8 b.toNat).bufBytes (k + 1) bs

/-- The bytes an attempt read, no more than `RLEN`. -/
def State.ctlRead (s : State) (rd : List Byte) : State := s.bufBytes 0 (rd.take (rLen s.svc.ctlCmd))

/-- R474 to R476: the loss is recorded; with retries left the engine waits for the bus, else the transaction has failed.
Where the winner addresses this device, its target listens. -/
def State.ctlLost (s : State) (byte bit : Nat) (own : Bool) (rd : List Byte) : State :=
  let s := (s.ctlRead rd).svcFlag 5
  let s := ((s.setFld 0x2004 16 5 byte).setFld 0x2004 21 4 bit).setFld 0x2004 4 5 byte
  let ovr := decide (s.rf 0x2002 2 3 ≤ s.svc.attempts.toNat)
  let s := s.modSvc fun v =>
    { v with ctl := if ovr then .idle else .lost, busBusy := true, fetched := none
             tx := if own && s.svcAnswers then .started else .dead }
  if ovr then (s.svcFlag 6).svcFlag 3 else s

/-- R474. -/
def execSvcCArbitrationLost (byte : BitVec 5) (bit : BitVec 4) (ownAddress : Bool) (rd : List Byte) (s : State) :
    Host.Outcome State Fault Refusal :=
  event s (decide (s.svc.ctl = .running)) (s.ctlLost byte.toNat bit.toNat ownAddress rd)

/-- The engine may take the bus: not in SENTINEL or SAFE. -/
def State.ctlRuns (s : State) : Bool := decide (s.mode ≠ .sentinel) && decide (s.mode ≠ .safe)

/-- R475: the bus-free time after the winner's STOP has passed, and the whole transaction is repeated. -/
def execSvcCRetry (s : State) : Host.Outcome State Fault Refusal :=
  event s (decide (s.svc.ctl = .lost) && decide (s.svc.tx = .idle) && s.ctlRuns)
    (s.modSvc fun v => { v with ctl := .running, attempts := v.attempts + 1, busBusy := false })

/-- R472, R473, R477: the transaction ends with STOP, after which the bus-free time runs. -/
def State.ctlDone (s : State) (r : CtlEnd) (bytes : Nat) (rd : List Byte) : State :=
  let s := ((s.ctlRead rd).setFld 0x2004 4 5 bytes).svcFlag 3
  let s := s.modSvc fun v => { v with ctl := .idle, busBusy := true, tx := .idle }
  match r with
  | .done => s
  | .nack => s.svcFlag 4

/-- R472. -/
def execSvcCDone (r : CtlEnd) (bytes : BitVec 5) (rd : List Byte) (s : State) : Host.Outcome State Fault Refusal :=
  event s (decide (s.svc.ctl = .running)) (s.ctlDone r bytes.toNat rd)

/-- R471: the bus is free, and an engine that waits for it starts. -/
def execSvcCBusFree (s : State) : Host.Outcome State Fault Refusal :=
  event s (s.svc.busBusy && decide (s.svc.tx = .idle))
    (s.modSvc fun v => { v with busBusy := false, ctl := if v.ctl = .waitBus ∧ s.ctlRuns = true then .running else v.ctl })

end Sys2Proof.Machine
end

