-- ==== Sys2Proof/Machine/LinkFamily.lean ====
section
/-! DEFINITION. The chain link (R479 to R497), the GPIO pins (R499, R500, R564), `VIO_OUT` (R508), and the write of any
register that has no row of its own (R6, R17). -/
namespace Sys2Proof.Machine

/-! ### Rings and flags -/

/-- A ring: byte offset, entries, write and read pointers (R496). -/
structure Ring where
  base : Nat
  size : Nat
  wr   : Nat
  rd   : Nat
deriving DecidableEq, Repr

/-- The receive ring of a facet. -/
def State.rxRing (s : State) (p : Port) : Ring :=
  ⟨2 * s.rf (fx p 0x203) 1 18, s.rf (fx p 0x203) 20 12, s.rf (fx p 0x204) 0 12, s.rf (fx p 0x204) 16 12⟩

/-- The transmit ring of a facet. -/
def State.txRing (s : State) (p : Port) : Ring :=
  ⟨2 * s.rf (fx p 0x205) 1 18, s.rf (fx p 0x205) 20 12, s.rf (fx p 0x206) 16 12, s.rf (fx p 0x206) 0 12⟩

/-- A `SIZE` below 16 disables the ring. -/
def Ring.enabled (r : Ring) : Bool := decide (16 ≤ r.size)

/-- (WR − RD) mod `SIZE`. -/
def Ring.fill (r : Ring) : Nat := if r.size = 0 then 0 else (r.wr + 4096 * r.size - r.rd) % r.size

/-- The transceiver is connected to its pins (R263, R481). -/
def Facet.linked (f : Facet) : Bool := f.ct.linkOn && !f.lk.isolated

/-- Set flags of `Fx_LINK_FLAGS` (R494): those set from 0 post LINK_ERR, and every flag but NOISE and FALSE_START is an
event of the chain-link error source. -/
def State.linkFlags (s : State) (p : Port) (fl : Nat) : State :=
  let new := (BitVec.ofNat 32 fl &&& ~~~ s.reg (fx p 0x202)).toNat
  let s := s.orReg (fx p 0x202) (BitVec.ofNat 32 fl)
  let s := if new = 0 then s else s.postF p 0x42 (BitVec.ofNat 16 new)
  if fl % 32 = 0 then s else s.fault (portNo p) 0x10 fl

/-! ### Connection -/

/-- The SBU pin that a DFP's transceiver takes as its positive leg while connected, true for `SBU2`: it follows `ORIENT`, and the idle
line is biased to mark (R479). A UFP applies no bias and finds the polarity from the idle line; a pin of no connected transceiver is
Hi-Z (R61). -/
def Facet.sbuPositive (f : Facet) : Option Bool := if f.linked && f.ct.drole then some f.cc.orient else none

/-- R479: 250 µs after connection; the UFP inverts where its idle sample did not read mark. -/
def State.linkIsUp (s : State) (p : Port) (idleMark : Bool) : State :=
  s.modF p fun f => { f with lk := { f.lk with linkUp := true, polInv := !f.ct.drole && !idleMark } }

/-- R479: 250 µs after connection. -/
def execLinkUpTimer (p : Port) (idleMark : Bool) (s : State) : Host.Outcome State Fault Refusal :=
  dueEvent s (some ((s.facet p).lk.connAt + 24000)) ((s.facet p).linked && !(s.facet p).lk.linkUp) fun s => s.linkIsUp p idleMark

/-- R481: both pins are isolated and the characters in progress abandoned (R495). -/
def State.sbuIsolate (s : State) (p : Port) : State :=
  (s.modLk p fun l => { l.cut with isolated := true }).linkFlags p 0x10

/-- R481. -/
def execSbuOvervoltage (p : Port) (s : State) : Host.Outcome State Fault Refusal :=
  event s (s.facet p).linked (s.sbuIsolate p)

/-- R481: both pins below the threshold for 10 ms. -/
def execSbuReconnect (p : Port) (s : State) : Host.Outcome State Fault Refusal :=
  event s ((s.facet p).ct.linkOn && (s.facet p).lk.isolated) (s.modLk p fun l => { l with isolated := false, connAt := s.cycles })

/-! ### Receiving -/

/-- The receive entry of a character; a BREAK is delivered as 0x00 with mark 0 and `FRAMING` (R487). -/
def rxEntry (data : Byte) (mark framing noise brk : Bool) : Nat :=
  (if brk then flag 9 true ||| flag 10 noise ||| flag 11 true
   else fw 0 data.toNat ||| flag 8 mark ||| flag 9 framing ||| flag 10 noise).toNat

/-- The flags a character sets: FRAMING 0, BREAK 1, OVERRUN 2, NOISE 5. -/
def rxFlags (framing noise brk ovr : Bool) : Nat :=
  (flag 0 (framing || brk) ||| flag 1 brk ||| flag 2 ovr ||| flag 5 noise).toNat

/-- `RX_THRESH` as it acts. -/
def State.rxThresh (s : State) (p : Port) : Nat := max 1 (s.rf (fx p 0x200) 2 6)

/-- LINK_RX with the receive fill (R493). -/
def State.postLinkRx (s : State) (p : Port) : State :=
  (s.modLk p fun l => { l with posted := true }).postF p 0x40 (BitVec.ofNat 16 (s.rxRing p).fill)

/-- The bridge stores a character at `RXWR` and advances it (R491, R493). -/
def State.ringStore (s : State) (p : Port) (entry : Nat) : State :=
  let r := s.rxRing p
  let s := s.modLap fun l => l.sramPut (r.base + 2 * r.wr) 2 entry
  let s := s.setFld (fx p 0x204) 0 12 ((r.wr + 1) % r.size)
  if (s.rxRing p).fill = s.rxThresh p then s.postLinkRx p else s

/-- A character received (R483 to R487, R491, R494); with `RX_EN` 0 or the ring disabled the bridge discards it. -/
def State.linkRx (s : State) (p : Port) (data : Byte) (mark framing noise brk : Bool) : State :=
  let r := s.rxRing p
  let takes := s.bit (fx p 0x200) 0 && r.enabled
  let ovr := takes && decide (r.size ≤ r.fill + 1)
  let s := s.modLk p fun l => { l with rxActive := false, brkWait := brk }
  let s := s.count (fx p 0x207) 0 16
  let s := if framing || brk then s.count (fx p 0x207) 16 8 else s
  let s := if ovr then s.count (fx p 0x207) 24 8 else s
  let s := if takes && !ovr then s.ringStore p (rxEntry data mark framing noise brk) else s
  let fl := rxFlags framing noise brk ovr
  if fl = 0 then s else s.linkFlags p fl

/-- The receiver may take a start edge: connected, armed (R487), and not sending. -/
def Facet.rxArmed (f : Facet) : Bool := f.linked && !f.lk.brkWait && !f.lk.txActive

/-- R483. -/
def execLinkCharacterRx (p : Port) (data : Byte) (mark framing noise brk : Bool) (s : State) :
    Host.Outcome State Fault Refusal :=
  event s (s.facet p).rxArmed (s.linkRx p data mark framing noise brk)

/-- R484. -/
def execLinkFalseStart (p : Port) (s : State) : Host.Outcome State Fault Refusal :=
  event s (s.facet p).rxArmed (s.linkFlags p 0x40)

/-- R487. -/
def execLinkBreakRearm (p : Port) (s : State) : Host.Outcome State Fault Refusal :=
  event s ((s.facet p).linked && (s.facet p).lk.brkWait) (s.modLk p fun l => { l with brkWait := false })

/-- R493: the line was idle for `IDLE` bit times. -/
def execLinkIdleTimeout (p : Port) (s : State) : Host.Outcome State Fault Refusal :=
  event s ((s.facet p).linked && decide ((s.rxRing p).fill ≠ 0) && !(s.facet p).lk.posted) (s.postLinkRx p)

/-! ### Sending -/

/-- The transmit ring holds a character. -/
def State.txWaits (s : State) (p : Port) : Bool := (s.txRing p).enabled && decide ((s.txRing p).fill ≠ 0)

/-- A burst may start (R479, R489, R490). -/
def State.txMayStart (s : State) (p : Port) : Bool :=
  let f := s.facet p
  f.linked && f.lk.linkUp && !f.lk.txHalt && !f.lk.txActive && s.txWaits p

/-- The bridge reads the next transmit entry: data and mark of the character that is sent (R492). -/
def State.txFetch (s : State) (p : Port) : State :=
  let r := s.txRing p
  let e := s.lap.sramNum (r.base + 2 * r.rd) 2
  s.modLk p fun l => { l with txActive := true, txChar := BitVec.ofNat 16 (e % 512) }

/-- R489. -/
def execLinkTxStart (p : Port) (s : State) : Host.Outcome State Fault Refusal :=
  event s (s.txMayStart p) (s.txFetch p)

/-- A character's stop bit has been sent (R492): `TXRD` advances, and the burst ends when the ring is empty (R493). -/
def State.linkSent (s : State) (p : Port) : State :=
  let r := s.txRing p
  let s := s.setFld (fx p 0x206) 0 12 ((r.rd + 1) % r.size)
  if s.txWaits p then s.txFetch p else (s.modLk p fun l => { l with txActive := false }).postF p 0x41 0

/-- R492. -/
def execLinkCharacterTx (p : Port) (s : State) : Host.Outcome State Fault Refusal :=
  event s (s.facet p).lk.txActive (s.linkSent p)

/-- R490: the line is released, the character stays in the ring, and sending stops until `COLLISION` is cleared. -/
def State.linkCollide (s : State) (p : Port) : State :=
  (s.modLk p fun l => { l with txActive := false, txHalt := true }).linkFlags p 0x08

/-- R490. -/
def execLinkCollision (p : Port) (s : State) : Host.Outcome State Fault Refusal :=
  event s (s.facet p).lk.txActive (s.linkCollide p)

/-- R497. -/
def execLinkRingWrite (_ : Master) (p : Port) (tx : Bool) (v : Word) (s : State) : Host.Outcome State Fault Refusal :=
  powered s (s.regWrite (fx p (if tx then 0x205 else 0x203)) v)

/-! ### GPIO and `VIO_OUT` -/

/-- `EDGE` selects this polarity (R500). -/
def State.edgeSelected (s : State) (n : Nat) (level : Bool) : Bool := s.bit (0x2040 + n) (if level then 3 else 4)

/-- A pin's level changes (R499): an edge of the selected polarity sets `EVT` and is the pin's wake event. -/
def State.gpioChange (s : State) (n : Nat) (level : Bool) : State :=
  let s := s.modGpio fun g =>
    { g with level := if level then g.level ||| BitVec.ofNat 4 (2 ^ n) else g.level &&& ~~~ BitVec.ofNat 4 (2 ^ n) }
  if s.edgeSelected n level then (s.orReg 0x2045 (flag n true)).wakeEvent (5 + n) else s

/-- The pin can change to the level: a pin set ANALOG shows no edge, and a driven pin goes where it is driven. -/
def State.gpioMoves (s : State) (n : Nat) (level : Bool) : Bool :=
  !s.gpioAnalog n && decide (s.gpio.level.getLsbD n ≠ level)
    && (match s.gpioOut n with | some b => decide (b = level) | none => true)

/-- R499. -/
def execGpioEdge (n : Fin 4) (level : Bool) (s : State) : Host.Outcome State Fault Refusal :=
  event s (s.gpioMoves n level) (s.gpioChange n level)

/-- R500, R564. -/
def execGpioCfgWrite (_ : Master) (n : Fin 4) (v : Word) (s : State) : Host.Outcome State Fault Refusal :=
  powered s (s.regWrite (0x2040 + n) v)

/-- R508. -/
def execVioOvercurrent (s : State) : Host.Outcome State Fault Refusal := event s s.vioOn (s.orReg 0x0109 (flag 2 true))

/-- R506, R508. -/
def execVioCfgWrite (_ : Master) (v : Word) (s : State) : Host.Outcome State Fault Refusal := powered s (s.regWrite 0x0109 v)

/-! ### Any other register -/

/-- R6, R17. -/
def execRegisterWrite (m : Master) (i : Half) (v : Word) (s : State) : Host.Outcome State Fault Refusal :=
  powered s (s.fabricWrite m i.toNat v)

end Sys2Proof.Machine
end

