-- ==== Sys2Proof/Machine/Dispatch.lean ====
section
/-! DEFINITION. Which meaning each command has: one arm per constructor of `Instr`. -/
namespace Sys2Proof.Machine

def exec (i : Instr) (s : State) : Host.Outcome State Fault Refusal :=
  match i with
  | .supplyValid sup valid => Sys2Proof.Machine.execSupplyValid sup valid s
  | .powerOnResetRelease tmode => Sys2Proof.Machine.execPowerOnResetRelease tmode s
  | .bootImageLoaded ctr => Sys2Proof.Machine.execBootImageLoaded ctr s
  | .noValidImage ctr => Sys2Proof.Machine.execNoValidImage ctr s
  | .onyxSelfTestFail ctr => Sys2Proof.Machine.execOnyxSelfTestFail ctr s
  | .brownOutWarning => Sys2Proof.Machine.execBrownOutWarning s
  | .brownOutPor => Sys2Proof.Machine.execBrownOutPor s
  | .enterStandby m arg => Sys2Proof.Machine.execEnterStandby m arg s
  | .enterSentinel m arg => Sys2Proof.Machine.execEnterSentinel m arg s
  | .softReboot m arg => Sys2Proof.Machine.execSoftReboot m arg s
  | .enterSafe m arg => Sys2Proof.Machine.execEnterSafe m arg s
  | .safeExit m arg => Sys2Proof.Machine.execSafeExit m arg s
  | .sentinelEntryComplete estCycles => Sys2Proof.Machine.execSentinelEntryComplete estCycles s
  | .wakeTimerExpiry early late => Sys2Proof.Machine.execWakeTimerExpiry early late s
  | .sentinelCalibration estCycles => Sys2Proof.Machine.execSentinelCalibration estCycles s
  | .portHardOvercurrent p i10mA => Sys2Proof.Machine.execPortHardOvercurrent p i10mA s
  | .converterPeakCurrent c => Sys2Proof.Machine.execConverterPeakCurrent c s
  | .nbusOvervoltageClamp b => Sys2Proof.Machine.execNbusOvervoltageClamp b s
  | .batOvervoltageClamp => Sys2Proof.Machine.execBatOvervoltageClamp s
  | .dieThermalShutdown tj => Sys2Proof.Machine.execDieThermalShutdown tj s
  | .clockLoss => Sys2Proof.Machine.execClockLoss s
  | .tickBoundary m => Sys2Proof.Machine.execTickBoundary m s
  | .tickCfgWrite m v => Sys2Proof.Machine.execTickCfgWrite m v s
  | .timeLoRead m => Sys2Proof.Machine.execTimeLoRead m s
  | .timeWrap => Sys2Proof.Machine.execTimeWrap s
  | .epochAdvance h => Sys2Proof.Machine.execEpochAdvance h s
  | .goLive p epoch arg src => Sys2Proof.Machine.execGoLive p epoch arg src s
  | .goOff p epoch arg src => Sys2Proof.Machine.execGoOff p epoch arg src s
  | .switchOn p epoch arg src => Sys2Proof.Machine.execSwitchOn p epoch arg src s
  | .switchOff p epoch arg src => Sys2Proof.Machine.execSwitchOff p epoch arg src s
  | .hardReset p epoch arg src => Sys2Proof.Machine.execHardReset p epoch arg src s
  | .quarantine p epoch arg src => Sys2Proof.Machine.execQuarantine p epoch arg src s
  | .repair p epoch arg src => Sys2Proof.Machine.execRepair p epoch arg src s
  | .softReset p epoch arg src => Sys2Proof.Machine.execSoftReset p epoch arg src s
  | .cableReset p epoch arg src => Sys2Proof.Machine.execCableReset p epoch arg src s
  | .sendCaps p epoch arg src => Sys2Proof.Machine.execSendCaps p epoch arg src s
  | .request p epoch arg src => Sys2Proof.Machine.execRequest p epoch arg src s
  | .prSwap p epoch arg src => Sys2Proof.Machine.execPrSwap p epoch arg src s
  | .drSwap p epoch arg src => Sys2Proof.Machine.execDrSwap p epoch arg src s
  | .vconnSwap p epoch arg src => Sys2Proof.Machine.execVconnSwap p epoch arg src s
  | .eprEnter p epoch arg src => Sys2Proof.Machine.execEprEnter p epoch arg src s
  | .eprExit p epoch arg src => Sys2Proof.Machine.execEprExit p epoch arg src s
  | .discover p epoch arg src => Sys2Proof.Machine.execDiscover p epoch arg src s
  | .enterMode p epoch arg src => Sys2Proof.Machine.execEnterMode p epoch arg src s
  | .exitMode p epoch arg src => Sys2Proof.Machine.execExitMode p epoch arg src s
  | .authStart p epoch arg src => Sys2Proof.Machine.execAuthStart p epoch arg src s
  | .authComplete p r => Sys2Proof.Machine.execAuthComplete p r s
  | .rcfgPrepare u epoch arg src => Sys2Proof.Machine.execRcfgPrepare u epoch arg src s
  | .rcfgRevert u epoch arg src => Sys2Proof.Machine.execRcfgRevert u epoch arg src s
  | .rcfgApply u epoch arg src => Sys2Proof.Machine.execRcfgApply u epoch arg src s
  | .rcfgCancel u epoch arg src => Sys2Proof.Machine.execRcfgCancel u epoch arg src s
  | .rcfgPrepareDone u => Sys2Proof.Machine.execRcfgPrepareDone u s
  | .rcfgRelease u v => Sys2Proof.Machine.execRcfgRelease u v s
  | .rcfgHoldLimit u => Sys2Proof.Machine.execRcfgHoldLimit u s
  | .cvRun epoch arg src => Sys2Proof.Machine.execCvRun epoch arg src s
  | .cvStandby epoch arg src => Sys2Proof.Machine.execCvStandby epoch arg src s
  | .cvStop epoch arg src => Sys2Proof.Machine.execCvStop epoch arg src s
  | .cvClear epoch arg src => Sys2Proof.Machine.execCvClear epoch arg src s
  | .chgFull epoch arg src => Sys2Proof.Machine.execChgFull epoch arg src s
  | .chgStore epoch arg src => Sys2Proof.Machine.execChgStore epoch arg src s
  | .batClear epoch arg src => Sys2Proof.Machine.execBatClear epoch arg src s
  | .gaugeSet epoch arg src => Sys2Proof.Machine.execGaugeSet epoch arg src s
  | .erase m arg => Sys2Proof.Machine.execErase m arg s
  | .openWrite m arg => Sys2Proof.Machine.execOpenWrite m arg s
  | .closeWrite m arg => Sys2Proof.Machine.execCloseWrite m arg s
  | .verify m arg => Sys2Proof.Machine.execVerify m arg s
  | .commit m arg => Sys2Proof.Machine.execCommit m arg s
  | .loaderCommandDone r => Sys2Proof.Machine.execLoaderCommandDone r s
  | .cfgDataWrite m v => Sys2Proof.Machine.execCfgDataWrite m v s
  | .cfgSelWrite m v => Sys2Proof.Machine.execCfgSelWrite m v s
  | .challenge m arg => Sys2Proof.Machine.execChallenge m arg s
  | .tokenSubmit m arg => Sys2Proof.Machine.execTokenSubmit m arg s
  | .lcAdvance m arg => Sys2Proof.Machine.execLcAdvance m arg s
  | .keyEnrol m arg => Sys2Proof.Machine.execKeyEnrol m arg s
  | .keyRevoke m arg => Sys2Proof.Machine.execKeyRevoke m arg s
  | .debugUnlock m arg => Sys2Proof.Machine.execDebugUnlock m arg s
  | .ctrInc m arg => Sys2Proof.Machine.execCtrInc m arg s
  | .ctrRaise m arg => Sys2Proof.Machine.execCtrRaise m arg s
  | .jrnWrite m arg => Sys2Proof.Machine.execJrnWrite m arg s
  | .jrnAttest m arg => Sys2Proof.Machine.execJrnAttest m arg s
  | .jrnVerify m arg => Sys2Proof.Machine.execJrnVerify m arg s
  | .idkGenerate m arg => Sys2Proof.Machine.execIdkGenerate m arg s
  | .chainWrite m arg => Sys2Proof.Machine.execChainWrite m arg s
  | .provision m arg => Sys2Proof.Machine.execProvision m arg s
  | .onxRelease m arg => Sys2Proof.Machine.execOnxRelease m arg s
  | .onyxCommandDone r => Sys2Proof.Machine.execOnyxCommandDone r s
  | .onxDataWrite m n v => Sys2Proof.Machine.execOnxDataWrite m n v s
  | .onxRngRead m => Sys2Proof.Machine.execOnxRngRead m s
  | .nonceExpiry => Sys2Proof.Machine.execNonceExpiry s
  | .grantLapse => Sys2Proof.Machine.execGrantLapse s
  | .challengeLockoutEnd => Sys2Proof.Machine.execChallengeLockoutEnd s
  | .onyxOwnerTimeout => Sys2Proof.Machine.execOnyxOwnerTimeout s
  | .entropyHealthFail => Sys2Proof.Machine.execEntropyHealthFail s
  | .entropyHealthRecover => Sys2Proof.Machine.execEntropyHealthRecover s
  | .onyxGlitchAlarm => Sys2Proof.Machine.execOnyxGlitchAlarm s
  | .flush m arg => Sys2Proof.Machine.execFlush m arg s
  | .discard m arg => Sys2Proof.Machine.execDiscard m arg s
  | .nvmErase m arg => Sys2Proof.Machine.execNvmErase m arg s
  | .nvmWindowWrite m w v => Sys2Proof.Machine.execNvmWindowWrite m w v s
  | .nvmWindowRead m w corrected uncorrectable => Sys2Proof.Machine.execNvmWindowRead m w corrected uncorrectable s
  | .nvmOperationDone r => Sys2Proof.Machine.execNvmOperationDone r s
  | .scrubStep block page => Sys2Proof.Machine.execScrubStep block page s
  | .ledgerHour ron osc tjMean => Sys2Proof.Machine.execLedgerHour ron osc tjMean s
  | .save m => Sys2Proof.Machine.execSave m s
  | .ledgerPeriodicSave => Sys2Proof.Machine.execLedgerPeriodicSave s
  | .gaugeRecordHour => Sys2Proof.Machine.execGaugeRecordHour s
  | .lapidaryInstruction corrected uncorrectable => Sys2Proof.Machine.execLapidaryInstruction corrected uncorrectable s
  | .ebreak => Sys2Proof.Machine.execEbreak s
  | .halt => Sys2Proof.Machine.execHalt s
  | .resume => Sys2Proof.Machine.execResume s
  | .dbgStep corrected uncorrectable => Sys2Proof.Machine.execDbgStep corrected uncorrectable s
  | .lapEvqRead m q => Sys2Proof.Machine.execLapEvqRead m q s
  | .doorbellRing m code => Sys2Proof.Machine.execDoorbellRing m code s
  | .lapDbCodeRead m => Sys2Proof.Machine.execLapDbCodeRead m s
  | .lapWdKick m key => Sys2Proof.Machine.execLapWdKick m key s
  | .watchdogExpiry => Sys2Proof.Machine.execWatchdogExpiry s
  | .policyReloadDone => Sys2Proof.Machine.execPolicyReloadDone s
  | .lapTmrCfgWrite m n v => Sys2Proof.Machine.execLapTmrCfgWrite m n v s
  | .lapTimerExpiry n => Sys2Proof.Machine.execLapTimerExpiry n s
  | .reqWrite m idx v => Sys2Proof.Machine.execReqWrite m idx v s
  | .ccLevelChange p v => Sys2Proof.Machine.execCcLevelChange p v s
  | .ccDebounceExpiry p => Sys2Proof.Machine.execCcDebounceExpiry p s
  | .pdDebounceExpiry p => Sys2Proof.Machine.execPdDebounceExpiry p s
  | .tryCcDebounceExpiry p => Sys2Proof.Machine.execTryCcDebounceExpiry p s
  | .drpTryExpiry p => Sys2Proof.Machine.execDrpTryExpiry p s
  | .drpTryWaitExpiry p => Sys2Proof.Machine.execDrpTryWaitExpiry p s
  | .drpPhaseEnd p => Sys2Proof.Machine.execDrpPhaseEnd p s
  | .errorRecoveryExpiry p => Sys2Proof.Machine.execErrorRecoveryExpiry p s
  | .rpValueChangeExpiry p => Sys2Proof.Machine.execRpValueChangeExpiry p s
  | .sinkVbusInvalid p => Sys2Proof.Machine.execSinkVbusInvalid p s
  | .rpLevelWrite m p lvl => Sys2Proof.Machine.execRpLevelWrite m p lvl s
  | .vconnOvercurrent p mA => Sys2Proof.Machine.execVconnOvercurrent p mA s
  | .ccOvervoltage p pin => Sys2Proof.Machine.execCcOvervoltage p pin s
  | .goodcrcReceived p sp id => Sys2Proof.Machine.execGoodcrcReceived p sp id s
  | .goodcrcTimeout p => Sys2Proof.Machine.execGoodcrcTimeout p s
  | .crcErrorPacket p => Sys2Proof.Machine.execCrcErrorPacket p s
  | .sourceCapabilitiesRx p m => Sys2Proof.Machine.execSourceCapabilitiesRx p m s
  | .requestRx p m => Sys2Proof.Machine.execRequestRx p m s
  | .eprRequestRx p m => Sys2Proof.Machine.execEprRequestRx p m s
  | .acceptRx p m => Sys2Proof.Machine.execAcceptRx p m s
  | .rejectRx p m => Sys2Proof.Machine.execRejectRx p m s
  | .waitRx p m => Sys2Proof.Machine.execWaitRx p m s
  | .psRdyRx p m => Sys2Proof.Machine.execPsRdyRx p m s
  | .softResetRx p m => Sys2Proof.Machine.execSoftResetRx p m s
  | .hardResetRx p => Sys2Proof.Machine.execHardResetRx p s
  | .prSwapRx p m => Sys2Proof.Machine.execPrSwapRx p m s
  | .drSwapRx p m => Sys2Proof.Machine.execDrSwapRx p m s
  | .vconnSwapRx p m raFound => Sys2Proof.Machine.execVconnSwapRx p m raFound s
  | .frSwapSignal p => Sys2Proof.Machine.execFrSwapSignal p s
  | .frSwapRx p m => Sys2Proof.Machine.execFrSwapRx p m s
  | .getSourceCapRx p m => Sys2Proof.Machine.execGetSourceCapRx p m s
  | .getSinkCapRx p m => Sys2Proof.Machine.execGetSinkCapRx p m s
  | .eprModeRx p m => Sys2Proof.Machine.execEprModeRx p m s
  | .eprKeepaliveRx p m => Sys2Proof.Machine.execEprKeepaliveRx p m s
  | .getPpsStatusRx p m => Sys2Proof.Machine.execGetPpsStatusRx p m s
  | .structuredVdmRx p m => Sys2Proof.Machine.execStructuredVdmRx p m s
  | .vdmResponseRx p m => Sys2Proof.Machine.execVdmResponseRx p m s
  | .enterModeRx p m => Sys2Proof.Machine.execEnterModeRx p m s
  | .exitModeRx p m => Sys2Proof.Machine.execExitModeRx p m s
  | .bistRx p m => Sys2Proof.Machine.execBistRx p m s
  | .bistCarrierEnd p => Sys2Proof.Machine.execBistCarrierEnd p s
  | .getRevisionRx p m => Sys2Proof.Machine.execGetRevisionRx p m s
  | .securityRequestRx p m => Sys2Proof.Machine.execSecurityRequestRx p m s
  | .firmwareMessageRx p m => Sys2Proof.Machine.execFirmwareMessageRx p m s
  | .extendedChunkRx p m => Sys2Proof.Machine.execExtendedChunkRx p m s
  | .unchunkedExtendedRx p m => Sys2Proof.Machine.execUnchunkedExtendedRx p m s
  | .unsupportedMessageRx p m => Sys2Proof.Machine.execUnsupportedMessageRx p m s
  | .pdTxctl m p v => Sys2Proof.Machine.execPdTxctl m p v s
  | .releaseRxBuffer m p => Sys2Proof.Machine.execReleaseRxBuffer m p s
  | .fwResponseTimeout p => Sys2Proof.Machine.execFwResponseTimeout p s
  | .chunkTimeout p => Sys2Proof.Machine.execChunkTimeout p s
  | .softResetAcceptTimeout p => Sys2Proof.Machine.execSoftResetAcceptTimeout p s
  | .sinkTxWaitExpiry p => Sys2Proof.Machine.execSinkTxWaitExpiry p s
  | .sourceCapRepeat p => Sys2Proof.Machine.execSourceCapRepeat p s
  | .snkSelTimeout p => Sys2Proof.Machine.execSnkSelTimeout p s
  | .sinkRequestRetry p => Sys2Proof.Machine.execSinkRequestRetry p s
  | .psTransitionTimeout p => Sys2Proof.Machine.execPsTransitionTimeout p s
  | .ppsTimeout p => Sys2Proof.Machine.execPpsTimeout p s
  | .sourceEprKeepaliveTimeout p => Sys2Proof.Machine.execSourceEprKeepaliveTimeout p s
  | .sinkEprKeepaliveSend p => Sys2Proof.Machine.execSinkEprKeepaliveSend p s
  | .discoverIdentityRetry p => Sys2Proof.Machine.execDiscoverIdentityRetry p s
  | .hrSourceOff p => Sys2Proof.Machine.execHrSourceOff p s
  | .hrVsafe0vReached p => Sys2Proof.Machine.execHrVsafe0vReached p s
  | .hrRecoveryEnd p => Sys2Proof.Machine.execHrRecoveryEnd p s
  | .hrSinkGraceEnd p => Sys2Proof.Machine.execHrSinkGraceEnd p s
  | .sinkWaitCapTimeout p => Sys2Proof.Machine.execSinkWaitCapTimeout p s
  | .srcTransitionStart p => Sys2Proof.Machine.execSrcTransitionStart p s
  | .transitionSettled p mv => Sys2Proof.Machine.execTransitionSettled p mv s
  | .transitionTimeLimit p => Sys2Proof.Machine.execTransitionTimeLimit p s
  | .prSwapSourceOff p => Sys2Proof.Machine.execPrSwapSourceOff p s
  | .prSwapVsafe0v p => Sys2Proof.Machine.execPrSwapVsafe0v p s
  | .prSwapTimeout p => Sys2Proof.Machine.execPrSwapTimeout p s
  | .vconnSwapTimeout p => Sys2Proof.Machine.execVconnSwapTimeout p s
  | .frSwapTimeout p => Sys2Proof.Machine.execFrSwapTimeout p s
  | .linkUpTimer p idleMark => Sys2Proof.Machine.execLinkUpTimer p idleMark s
  | .guardMet p => Sys2Proof.Machine.execGuardMet p s
  | .guardTimeout p => Sys2Proof.Machine.execGuardTimeout p s
  | .gateRampEnd p => Sys2Proof.Machine.execGateRampEnd p s
  | .swObsRise p => Sys2Proof.Machine.execSwObsRise p s
  | .stallTimeout p => Sys2Proof.Machine.execStallTimeout p s
  | .gateStall p => Sys2Proof.Machine.execGateStall p s
  | .powerGoodAssert p mv => Sys2Proof.Machine.execPowerGoodAssert p mv s
  | .vbusWindowExit p mv => Sys2Proof.Machine.execVbusWindowExit p mv s
  | .ilimEnter p => Sys2Proof.Machine.execIlimEnter p s
  | .ilimExit p => Sys2Proof.Machine.execIlimExit p s
  | .faultTimerExpiry p drop20mV => Sys2Proof.Machine.execFaultTimerExpiry p drop20mV s
  | .faultTimerClear p => Sys2Proof.Machine.execFaultTimerClear p s
  | .retryOffTimeExpiry p => Sys2Proof.Machine.execRetryOffTimeExpiry p s
  | .retryCountReload p => Sys2Proof.Machine.execRetryCountReload p s
  | .leak p k => Sys2Proof.Machine.execLeak p k s
  | .dischargeEnd p => Sys2Proof.Machine.execDischargeEnd p s
  | .ppBusWrite m p bus => Sys2Proof.Machine.execPpBusWrite m p bus s
  | .auxEnableWrite m en => Sys2Proof.Machine.execAuxEnableWrite m en s
  | .reverseBlock p => Sys2Proof.Machine.execReverseBlock p s
  | .feedLost b code => Sys2Proof.Machine.execFeedLost b code s
  | .feedChangeoverMake b => Sys2Proof.Machine.execFeedChangeoverMake b s
  | .feedReturn b code => Sys2Proof.Machine.execFeedReturn b code s
  | .busLost b => Sys2Proof.Machine.execBusLost b s
  | .shareEqualise b droop1 droop2 lim => Sys2Proof.Machine.execShareEqualise b droop1 droop2 lim s
  | .feedCfgWrite m b v => Sys2Proof.Machine.execFeedCfgWrite m b v s
  | .cvStartRampEnd c mv => Sys2Proof.Machine.execCvStartRampEnd c mv s
  | .cvStartTimeout c => Sys2Proof.Machine.execCvStartTimeout c s
  | .cvPeakTrip c => Sys2Proof.Machine.execCvPeakTrip c s
  | .cvUndervoltageTrip c => Sys2Proof.Machine.execCvUndervoltageTrip c s
  | .pwmPeriodBoundary ch => Sys2Proof.Machine.execPwmPeriodBoundary ch s
  | .gpwmPerWrite m second v => Sys2Proof.Machine.execGpwmPerWrite m second v s
  | .gpwmDutyWrite m second v => Sys2Proof.Machine.execGpwmDutyWrite m second v s
  | .gpwmCtlWrite m v => Sys2Proof.Machine.execGpwmCtlWrite m v s
  | .chargeStart => Sys2Proof.Machine.execChargeStart s
  | .prechargeComplete mv => Sys2Proof.Machine.execPrechargeComplete mv s
  | .chargeCvEntry mv => Sys2Proof.Machine.execChargeCvEntry mv s
  | .storeSocReached => Sys2Proof.Machine.execStoreSocReached s
  | .cvTermination => Sys2Proof.Machine.execCvTermination s
  | .prechargeTimeout => Sys2Proof.Machine.execPrechargeTimeout s
  | .chargeTimeout => Sys2Proof.Machine.execChargeTimeout s
  | .batteryRemovalEdge => Sys2Proof.Machine.execBatteryRemovalEdge s
  | .batteryRemovalConfirm => Sys2Proof.Machine.execBatteryRemovalConfirm s
  | .batteryInserted mv => Sys2Proof.Machine.execBatteryInserted mv s
  | .batteryQualified => Sys2Proof.Machine.execBatteryQualified s
  | .batteryDepleted => Sys2Proof.Machine.execBatteryDepleted s
  | .batteryRecovered => Sys2Proof.Machine.execBatteryRecovered s
  | .batteryOvervoltageFault => Sys2Proof.Machine.execBatteryOvervoltageFault s
  | .batteryDeepDischarge mv => Sys2Proof.Machine.execBatteryDeepDischarge mv s
  | .ntcFault tC => Sys2Proof.Machine.execNtcFault tC s
  | .bandChange band => Sys2Proof.Machine.execBandChange band s
  | .gaugeSample mA => Sys2Proof.Machine.execGaugeSample mA s
  | .restCorrection packMv => Sys2Proof.Machine.execRestCorrection packMv s
  | .lockout => Sys2Proof.Machine.execLockout s
  | .lockoutRelease => Sys2Proof.Machine.execLockoutRelease s
  | .wmComparatorEdge k high rising level => Sys2Proof.Machine.execWmComparatorEdge k high rising level s
  | .sampledMonitorSample k hi lo level => Sys2Proof.Machine.execSampledMonitorSample k hi lo level s
  | .wmSettleEnd k hi lo level => Sys2Proof.Machine.execWmSettleEnd k hi lo level s
  | .wmThresholdWrite m k v => Sys2Proof.Machine.execWmThresholdWrite m k v s
  | .wmCfgWrite m k v => Sys2Proof.Machine.execWmCfgWrite m k v s
  | .adcStart m => Sys2Proof.Machine.execAdcStart m s
  | .adcStop m => Sys2Proof.Machine.execAdcStop m s
  | .adcResult code rail level => Sys2Proof.Machine.execAdcResult code rail level s
  | .adcFifoRead m => Sys2Proof.Machine.execAdcFifoRead m s
  | .adcSeqWrite m n v => Sys2Proof.Machine.execAdcSeqWrite m n v s
  | .faultWindowClose u src => Sys2Proof.Machine.execFaultWindowClose u src s
  | .fltAck m u v => Sys2Proof.Machine.execFltAck m u v s
  | .fltHistRead m u => Sys2Proof.Machine.execFltHistRead m u s
  | .fltSenWrite m u n v => Sys2Proof.Machine.execFltSenWrite m u n v s
  | .busCapAck m v => Sys2Proof.Machine.execBusCapAck m v s
  | .svcStart => Sys2Proof.Machine.execSvcStart s
  | .svcIndexBytes idx => Sys2Proof.Machine.execSvcIndexBytes idx s
  | .svcWordWrite v => Sys2Proof.Machine.execSvcWordWrite v s
  | .svcWordRead corrected uncorrectable => Sys2Proof.Machine.execSvcWordRead corrected uncorrectable s
  | .svcStop bytes again => Sys2Proof.Machine.execSvcStop bytes again s
  | .svcBusTimeout => Sys2Proof.Machine.execSvcBusTimeout s
  | .ctlGo m v => Sys2Proof.Machine.execCtlGo m v s
  | .svcCArbitrationLost byte bit ownAddress rd => Sys2Proof.Machine.execSvcCArbitrationLost byte bit ownAddress rd s
  | .svcCRetry => Sys2Proof.Machine.execSvcCRetry s
  | .svcCDone r bytes rd => Sys2Proof.Machine.execSvcCDone r bytes rd s
  | .linkCharacterRx p data mark framing noise brk => Sys2Proof.Machine.execLinkCharacterRx p data mark framing noise brk s
  | .linkFalseStart p => Sys2Proof.Machine.execLinkFalseStart p s
  | .linkTxStart p => Sys2Proof.Machine.execLinkTxStart p s
  | .linkCharacterTx p => Sys2Proof.Machine.execLinkCharacterTx p s
  | .linkCollision p => Sys2Proof.Machine.execLinkCollision p s
  | .linkIdleTimeout p => Sys2Proof.Machine.execLinkIdleTimeout p s
  | .sbuOvervoltage p => Sys2Proof.Machine.execSbuOvervoltage p s
  | .sbuReconnect p => Sys2Proof.Machine.execSbuReconnect p s
  | .linkRingWrite m p tx v => Sys2Proof.Machine.execLinkRingWrite m p tx v s
  | .gpioEdge n level => Sys2Proof.Machine.execGpioEdge n level s
  | .gpioCfgWrite m n v => Sys2Proof.Machine.execGpioCfgWrite m n v s
  | .vioOvercurrent => Sys2Proof.Machine.execVioOvercurrent s
  | .vioCfgWrite m v => Sys2Proof.Machine.execVioCfgWrite m v s
  | .registerWrite m idx v => Sys2Proof.Machine.execRegisterWrite m idx v s
  | .vbusVsafe0vCrossing p below => Sys2Proof.Machine.execVbusVsafe0vCrossing p below s
  | .overvoltageClampRelease b => Sys2Proof.Machine.execOvervoltageClampRelease b s
  | .reverseBlockRelease p => Sys2Proof.Machine.execReverseBlockRelease p s
  | .ccOvervoltageClear p pin => Sys2Proof.Machine.execCcOvervoltageClear p pin s
  | .linkBreakRearm p => Sys2Proof.Machine.execLinkBreakRearm p s
  | .clockStop => Sys2Proof.Machine.execClockStop s
  | .hardResetSignallingEnd p => Sys2Proof.Machine.execHardResetSignallingEnd p s
  | .offApplyVerifyEnd u v => Sys2Proof.Machine.execOffApplyVerifyEnd u v s
  | .svcCBusFree => Sys2Proof.Machine.execSvcCBusFree s
  | .getSourceInfoRx p m => Sys2Proof.Machine.execGetSourceInfoRx p m s

end Sys2Proof.Machine
end

