-- ==== Sys2Proof/Machine/Idle.lean ====
section
/-! DEFINITION. What `CLK` does by itself in one cycle in which no command arrives (log entry 2). -/
namespace Sys2Proof.Machine

/-- TIME waits for a tick boundary, a timer expiry or an epoch advance that is due (log entries 2 and 3). -/
def State.waits (s : State) : Bool := decide (s.nextTick ≤ s.cycles) || s.timersDue 8 || s.advanceDue

/-- Work is due in this cycle: a command awaits its evaluation, a wait of a protocol engine has ended, or CC pins are heard again
after a packet (R176). -/
def State.owes (s : State) : Bool :=
  decide (s.awaits ≠ []) || allPorts.any fun p => s.pdIsDue p || ((s.facet p).cc.unheard && !s.ccMuted p)

/-- One cycle of `CLK` outside SENTINEL: commands that await are evaluated, ended waits act and pins are heard. -/
def State.cycle (s : State) : State :=
  let t := (s.elapse 1).pwmPass 1
  if t.owes then t.ccHearAll.settle else t

/-- One cycle of a burst in SENTINEL: TIME counts `CLK` (R29), up to the end of its 8 µs. -/
def State.burstCycle (s : State) : State :=
  match s.burst with
  | some b => if b.left = 0 then s else { s with cycles := s.cycles + 1, burst := some { b with left := b.left - 1 } }
  | none => s

/-- One `CLK` cycle with nothing commanded: none passes in COLD, while `CLK` is stopped but in a burst, nor while TIME
waits. -/
def State.idle (s : State) : State :=
  if s.mode = .cold then s
  else if s.mode = .sentinel then (if s.advanceDue then s else s.burstCycle)
  else if s.clkStopped || s.waits then s
  else s.cycle

end Sys2Proof.Machine
end

