-- ==== Sys2Proof/Machine/Step.lean ====
section
/-! DEFINITION. One step: the command at the front of the queue, or one `CLK` cycle on an empty queue. -/
namespace Sys2Proof.Machine

/-- Run the command at the front of the queue on the state with the queue's rest; with nothing waiting one `CLK` cycle
passes (log entry 2). -/
def step (s : State) : Host.Outcome State Fault Refusal :=
  match s.pending with
  | [] => .next s.idle
  | c :: cs => exec c { s with pending := cs }

/-- The command a table word spells, put at the front of the queue; no row of the table has bits, so the state stands. -/
def State.withFetchWord (s : State) (nbits w : Nat) : State :=
  match decodeTableWord nbits w with
  | some c => { s with pending := c :: s.pending }
  | none => s

end Sys2Proof.Machine
end

