-- ==== Sys2Proof/Safety.lean ====
section
/-! DEFINITION. What counts as a safe run, in the terms claims use: every sparse store keeps its canonical form, no
command is refused, and nothing is owed between steps. -/
namespace Sys2Proof

/-- The four sparse stores keep the canonical form: registers, NVM, Lapidary SRAM, counters. -/
def Machine.State.wf (s : Machine.State) : Bool :=
  Machine.spWf Machine.resetWord s.regs && Machine.spWf (fun _ => (0xFF : Byte)) s.nvm.mem
    && Machine.spWf (fun _ => (0 : Byte)) s.lap.sram && Machine.spWf (fun _ => (0 : Nat)) s.onx.counters

/-- Between steps every posted event has entered its queue (R154), every owed action has been taken unless `CLK` stands
still (R157, R330, R410), every epoch may advance again in the next cycle (R41), and no enabled interrupt line is up in
STANDBY (R50, R161). -/
def Machine.State.quiet (s : Machine.State) : Bool :=
  s.posts.isEmpty && (s.todo.isEmpty || s.stalled)
    && !s.fa.fresh && !s.fb.fresh && !s.fc.fresh && !s.fd.fresh && !s.hub.fresh
    && !(decide (s.mode = .standby) && s.meip)

/-- A step goes on. -/
def Continues (s : Machine.State) : Prop := ∃ t, Machine.step s = .next t

/-- What R44 asks of every command of a facet before its opcode's own conditions: the synchronous part runs, the caller's
epoch is the facet's, no advance is pending, and the device is in STANDBY or RUN; and no command awaits its evaluation
(log entry 37), behind which it would wait. -/
abbrev Machine.State.takesF (s : Machine.State) (p : Port) (epoch : Byte) : Prop :=
  s.on = true ∧ s.awaits = [] ∧ (s.facet p).epoch = epoch ∧ (s.facet p).epPend = false ∧ (s.mode = .standby ∨ s.mode = .run)

/-- The same of a hub command. -/
abbrev Machine.State.takesH (s : Machine.State) (epoch : Byte) : Prop :=
  s.on = true ∧ s.awaits = [] ∧ s.hub.epoch = epoch ∧ s.hub.epPend = false ∧ (s.mode = .standby ∨ s.mode = .run)

/-- `u` is `s` but for facet `p`, the registers, the events posted and the actions owed. -/
def Machine.PortFrame (p : Port) (s u : Machine.State) : Prop :=
  (∀ q, q ≠ p → u.facet q = s.facet q)
    ∧ u = { s with fa := u.fa, fb := u.fb, fc := u.fc, fd := u.fd, regs := u.regs, posts := u.posts, todo := u.todo }

/-- `u` is `s` but for the facets named, the hub, the registers, the fault units, Onyx (the journal), what the NVM
controller has to do, the events posted and the actions owed; the NVM array stays. -/
def Machine.UnitFrame (ps : List Port) (s u : Machine.State) : Prop :=
  (∀ q, q ∉ ps → u.facet q = s.facet q) ∧ u.nvm.mem = s.nvm.mem
    ∧ u = { s with fa := u.fa, fb := u.fb, fc := u.fc, fd := u.fd, hub := u.hub, regs := u.regs, posts := u.posts
                   todo := u.todo, flt0 := u.flt0, flt1 := u.flt1, flt2 := u.flt2, flt3 := u.flt3, flt4 := u.flt4
                   flt5 := u.flt5, onx := u.onx, nvm := u.nvm }

end Sys2Proof
end

