-- ==== Sys2Proof/Certificates/Slice0/Obligations.lean ====
section
/-! DEFINITION. The statements for the provers. `done u` is `.next u.settle`: the state a meaning gives, with the cycle
ended and every owed action taken (log entry 11). -/

open Sys2Proof Sys2Proof.Machine

/-! ### The step -/

/-- A step runs the command at the front of the queue on the state with the queue's rest. -/
def Obligations.StepRunsFrontCommand : Prop :=
  ∀ (c : Instr) (cs : List Instr) (s : State), step { s with pending := c :: cs } = exec c { s with pending := cs }

/-- With nothing waiting one `CLK` cycle passes outside SENTINEL, where nothing is due in it: all that moves is TIME, `mcycle`, the µs
timers and what the PWM counters count: the model's choice, log entries 2, 3 and 65. -/
def Obligations.EmptyQueuePassesOneCycle : Prop :=
  ∀ s : State, s.pending = [] → s.clkStopped = false → s.mode ≠ .cold → s.mode ≠ .sentinel → s.waits = false →
    ((s.elapse 1).pwmPass 1).owes = false →
    ∃ t, step s = .next t ∧ t.cycles = s.cycles + 1
      ∧ t = { s with cycles := t.cycles, lap := t.lap, hub := t.hub }
      ∧ t.lap = { s.lap with csr := { s.lap.csr with mcycle := t.lap.csr.mcycle }
                             tmr0 := t.lap.tmr0, tmr1 := t.lap.tmr1, tmr2 := t.lap.tmr2, tmr3 := t.lap.tmr3
                             tmr4 := t.lap.tmr4, tmr5 := t.lap.tmr5, tmr6 := t.lap.tmr6, tmr7 := t.lap.tmr7 }
      ∧ (s.hub.frozen = true → t.hub = s.hub)
      ∧ t.hub = { s.hub with cv1 := t.hub.cv1, cv2 := t.hub.cv2, period1 := t.hub.period1, period2 := t.hub.period2
                             en0 := t.hub.en0, en1 := t.hub.en1, comp := t.hub.comp, run0 := t.hub.run0, run1 := t.hub.run1
                             duty0 := t.hub.duty0, duty1 := t.hub.duty1, gcnt0 := t.hub.gcnt0, gcnt1 := t.hub.gcnt1 }
      ∧ (∀ c, t.cv c = { s.cv c with cnt := (t.cv c).cnt, periods := (t.cv c).periods, peakLatch := (t.cv c).peakLatch
                                     peaks := (t.cv c).peaks, acted := (t.cv c).acted })

/-- No command and no event stops the block: each answers a next state. -/
def Obligations.NoCommandStopsTheBlock : Prop := ∀ (c : Instr) (s : State), ∃ t, exec c s = .next t

/-- Every step keeps the block quiet: posted events are in their queues (R154), owed actions are taken while `CLK` runs,
every epoch may advance again in the next cycle (R41), and STANDBY has ended where an enabled interrupt line is up (R50,
R161). -/
def Obligations.EveryStepLeavesTheBlockQuiet : Prop :=
  ∀ s t : State, s.quiet = true → step s = .next t → t.quiet = true

/-- On entry to BOOT: mode BOOT, TIME 0, every facet OFF and at epoch 0 (R39, R41), no tick before TIME = 96 000 (R550), and
every register at its reset word (R9); it is quiet, and its stores have their canonical form. -/
def Obligations.ResetStartsInBoot : Prop :=
  State.reset.mode = .boot ∧ State.reset.time = 0 ∧ State.reset.nextTick = 96000
    ∧ (∀ p, (State.reset.facet p).fstate = .off ∧ (State.reset.facet p).epoch = 0 ∧ (State.reset.facet p).pp.swCmd = false)
    ∧ State.reset.hub.fstate = .off ∧ (∀ i, State.reset.reg i = resetWord i)
    ∧ resetWord 0x0010 = 0x00000404 ∧ resetWord 0x0000 = 0x00014680 ∧ resetWord 0x0200 = 0x00000001
    ∧ resetWord 0x1142 = 0x00851814 ∧ resetWord 0x1540 = 0x00000014 ∧ resetWord 0x2000 = 0x0000003A
    ∧ State.reset.quiet = true ∧ State.reset.wf = true

/-! ### Modes and supplies -/

/-- R48, R359: a supervisor takes the level shown, `BAT+` only while the lockout latch is clear; outside COLD what the change
sets going follows. -/
def Obligations.SupplyValidSetsItsSupervisor : Prop :=
  ∀ (x : Supply) (v : Bool) (s : State),
    let v' := v && !(decide (x = .bat) && s.hub.bat.lockoutLatch)
    (s.mode = .cold → exec (.supplyValid x v) s = .next (s.setSupply x v'))
      ∧ (s.mode ≠ .cold → exec (.supplyValid x v) s = done ((s.setSupply x v').supplyActs x v'))
      ∧ ((s.setSupply x v').supplyBit x).2 = v'
      ∧ (∀ y, y ≠ x → ((s.setSupply x v').supplyBit y).2 = (s.supplyBit y).2)

/-- R50, R9, R39, R40: with an input valid the device leaves COLD for BOOT with TIME 0, nothing authenticated, SRAM without
contents, no command awaiting its evaluation and every switch open; a facet that is QUARANTINED, or whose quarantine record stands once
the NVM has ended what it had begun, starts QUARANTINED, and any other OFF. Elsewhere, or with no input valid, nothing is released. -/
def Obligations.PowerOnEntersBoot : Prop :=
  ∀ (tm : Bool) (s : State), (s.mode ≠ .cold ∨ s.anyInput = false → exec (.powerOnResetRelease tm) s = .next s)
    ∧ (s.mode = .cold → s.anyInput = true →
    let u := { s with tmode := tm }.enterBoot 0
    let w := { s with tmode := tm }.loaderCut.drainOps fun o => !o.isPage
    exec (.powerOnResetRelease tm) s = done u ∧ u.mode = .boot ∧ u.tmode = tm ∧ u.cycles = 0 ∧ u.nextTick = 96000
      ∧ u.imgAuth = false ∧ u.lap.sram = [] ∧ u.lap.run = .reset ∧ u.onx.grant = none ∧ u.awaits = [] ∧ u.nvm.ops = []
      ∧ u.vbusOk = s.vbusOk ∧ u.batOk = s.batOk ∧ u.auxOk = s.auxOk
      ∧ (∀ p, (u.facet p).pp.swCmd = false ∧ (u.facet p).epoch = 0
          ∧ (u.facet p).fstate = if (w.facet p).qRecord ∨ (w.facet p).fstate = .quarantined then .quarantined else .off))

/-- R50, R53, R561: the boot scan's image takes control and RUN begins with Lapidary released at its entry; R55: with no valid
image, or R429: with a failed self-test, SAFE. The row carries the result of programming the boot count, and an error of it does not keep
the image from control. -/
def Obligations.BootEndsInRunOrSafe : Prop :=
  ∀ (ctr : ArrayResult) (s : State), s.booting = true →
    (match (s.bootCounted ctr).selfTested.bootScan with
      | (t, some d) => exec (.bootImageLoaded ctr) s = done (t.takeControl d) ∧ exec (.noValidImage ctr) s = .next s
          ∧ (t.takeControl d).mode = .run ∧ (t.takeControl d).lap.run = .running
          ∧ (t.takeControl d).lap.pc = (t.takeControl d).lap.entry
      | (t, none) => exec (.noValidImage ctr) s = done (t.fillSel.enterSafe 3 0 0) ∧ (t.fillSel.enterSafe 3 0 0).mode = .safe
          ∧ exec (.bootImageLoaded ctr) s = .next s)
    ∧ (s.onx.selfTest = false → exec (.onyxSelfTestFail ctr) s = done ((s.bootCounted ctr).enterSafe 4 0 0)
        ∧ ((s.bootCounted ctr).enterSafe 4 0 0).mode = .safe)

/-- R70: SAFE entry from any mode but COLD and SAFE turns both converters off, holds Lapidary in reset, ends the GPWM pins and
releases the GPIO pins; the switch of a facet that is not QUARANTINED and not in a hold opens, and the facet goes OFF, or to
QUARANTINED where a quarantine was pending. -/
def Obligations.SafeEntryStopsEverything : Prop :=
  ∀ s : State,
    (∀ cause cls block : Nat, s.mode ≠ .safe → s.mode ≠ .cold →
        let u := s.enterSafe cause cls block
        u.mode = .safe ∧ u.lap.run = .reset ∧ u.hub.cv1.st = .off ∧ u.hub.cv2.st = .off ∧ u.hub.en0 = false
          ∧ u.hub.en1 = false ∧ u.gpio.released = 0xF)
      ∧ (∀ p, (s.facet p).fstate ≠ .quarantined → (s.facet p).rc.phase ≠ .holding →
          ((s.portSafe p).facet p).pp.swCmd = false
          ∧ ((s.portSafe p).facet p).fstate = (if (s.facet p).qPending then .quarantined else .off))

/-- R72, R56: the brown-out warning comes when no input remains valid; below power-on reset the device is in COLD, with the
NVM contents and the inputs' levels kept and every facet OFF or QUARANTINED. -/
def Obligations.BrownOutEndsInCold : Prop :=
  (∀ s : State, s.mode ≠ .cold → s.mode ≠ .boot → s.bow = false → s.anyInput = false →
      exec .brownOutWarning s = done s.brownOut)
    ∧ (∀ s : State, s.mode = .boot → s.bow = false → s.anyInput = false →
      exec .brownOutWarning s = done ({ s with bow := true }.orReg 0x0108 (flag 6 true)))
    ∧ (∀ s : State, s.bow = true → ∃ t, exec .brownOutPor s = .next t ∧ t.mode = .cold ∧ t.nvm.mem = s.nvm.mem
        ∧ t.vbusOk = s.vbusOk ∧ t.batOk = s.batOk ∧ t.auxOk = s.auxOk ∧ t.lap.sram = [] ∧ t.bow = false
        ∧ ∀ p, (t.facet p).fstate = if (s.facet p).qRecord then .quarantined else .off)

/-- R50, R71: each mode command in a mode that allows it, while no other command awaits its evaluation. -/
def Obligations.ModeCommandsTakeEffect : Prop :=
  ∀ (m : Master) (s : State), s.on = true → s.awaits = [] →
    (s.mode = .run → exec (.enterStandby m 0) s = done ({ s with mode := .standby }.modeResult m .accepted .none))
      ∧ (s.mode = .run ∨ s.mode = .standby → s.sentReady = true →
          exec (.enterSentinel m 0) s = done ({ s with sentEntry := .waitTick m }.setReg 0x0102 (pendingWord 0 m)))
      ∧ (s.mode = .run ∨ s.mode = .standby →
          exec (.softReboot m 0) s = done (((s.openAll.ledgerSaved).jrnClose 2).enterBoot 1)
          ∧ (((s.openAll.ledgerSaved).jrnClose 2).enterBoot 1).mode = .boot)
      ∧ (s.mode = .run ∨ s.mode = .standby →
          exec (.enterSafe m 0) s = done ((s.enterSafe 5 0 0).modeResult m .accepted .none))
      ∧ (s.mode = .safe → s.granted 1 0 m = true →
          exec (.safeExit m 0) s = done (((s.useGrant.ledgerSaved).jrnClose 3).enterBoot 2)
          ∧ (((s.useGrant.ledgerSaved).jrnClose 3).enterBoot 2).mode = .boot
          ∧ (((s.useGrant.ledgerSaved).jrnClose 3).enterBoot 2).onx.grant = none)

/-- R556, R52: a mode command is refused for its argument first, then for the mode, then for SENTINEL's precondition, then
for want of a grant, and a refused one changes nothing but the status word that reports it; behind a command that awaits its evaluation it
waits and reads PENDING, with nothing else changed (log entry 37). -/
def Obligations.RefusedModeCommandsChangeNothing : Prop :=
  ∀ (m : Master) (arg : Half) (s : State), s.on = true →
    (s.awaits = [] →
      (arg ≠ 0 → ∀ c ∈ [Instr.enterStandby m arg, .enterSentinel m arg, .softReboot m arg, .enterSafe m arg, .safeExit m arg],
          exec c s = done (s.setReg 0x0102 (statWord 3 .badCmd 0 m)))
        ∧ (s.mode ≠ .run → exec (.enterStandby m 0) s = done (s.setReg 0x0102 (statWord 3 .deviceMode 0 m)))
        ∧ (s.mode ≠ .run → s.mode ≠ .standby → ∀ c ∈ [Instr.enterSentinel m 0, .softReboot m 0, .enterSafe m 0],
          exec c s = done (s.setReg 0x0102 (statWord 3 .deviceMode 0 m)))
        ∧ (s.mode ≠ .safe → exec (.safeExit m 0) s = done (s.setReg 0x0102 (statWord 3 .deviceMode 0 m)))
        ∧ (s.mode = .run ∨ s.mode = .standby → s.sentReady = false →
          exec (.enterSentinel m 0) s = done (s.setReg 0x0102 (statWord 3 .precondition 0 m)))
        ∧ (s.mode = .safe → s.granted 1 0 m = false →
          exec (.safeExit m 0) s = done (s.setReg 0x0102 (statWord 3 .notAuthenticated 0 m))))
      ∧ (s.awaits ≠ [] → ∀ c ∈ [(Instr.enterStandby m arg, 1), (.enterSentinel m arg, 2), (.softReboot m arg, 3)
            , (.enterSafe m arg, 4), (.safeExit m arg, 5)],
          exec c.1 s = done ({ s.setReg 0x0102 (pendingWord 0 m) with awaits := s.awaits ++ [⟨.mode m, c.2, 0, arg.toNat, true⟩] }))

/-- R63, R67, R29: the calibration ends the entry to SENTINEL with `EST_CYCLES`, or the entry is refused where R62 no longer
holds; a wake begins a burst with TIME at the last wake's plus `EST_CYCLES`, a burst that nothing decided ends in SENTINEL and one
that something decided ends in RUN, and every 65 536 intervals `EST_CYCLES` is measured afresh. -/
def Obligations.SentinelCountsItsIntervals : Prop :=
  (∀ (m : Master) (est : BitVec 24) (s : State), s.sentEntry = .calibrating m → s.mode = .run ∨ s.mode = .standby →
      (s.sentReady = true → exec (.sentinelEntryComplete est) s = done (s.sentinelEntered m est.toNat)
        ∧ (s.sentinelEntered m est.toNat).mode = .sentinel)
      ∧ (s.sentReady = false → exec (.sentinelEntryComplete est) s = done s.sentCancel))
    ∧ (∀ (early late : Four Pins) (s : State), s.mode = .sentinel →
      (s.burst = none → exec (.wakeTimerExpiry early late) s = done (s.burstStart early late).burstCheck)
        ∧ exec (.wakeTimerExpiry early late) s
            = done (if s.burstOver.mode = .sentinel then (s.burstOver.burstStart early late).burstCheck else s.burstOver)
        ∧ (s.burstStart early late).cycles = max s.cycles (s.lastWake + s.estCycles)
        ∧ (s.burstStart early late).lastWake = max s.cycles (s.lastWake + s.estCycles)
        ∧ (s.burstStart early late).wakes = s.wakes + 1 ∧ (s.burstStart early late).mode = .sentinel
        ∧ (∀ b, s.burst = some b → s.burstOver.cycles = s.cycles + b.left ∧ s.burstOver.burst = none
            ∧ s.burstOver.mode = if b.forced = true ∨ b.cause ≠ 0 then .run else .sentinel))
    ∧ (∀ (est : BitVec 24) (s : State), s.mode = .sentinel → s.wakes % 65536 = 0 → 0 < s.wakes → s.wf = true →
      exec (.sentinelCalibration est) s = done (s.setReg 0x0013 (fw 0 est.toNat))
        ∧ (s.setReg 0x0013 (fw 0 est.toNat)).estCycles = est.toNat)

/-! ### The floor -/

/-- R21, R22, R23: the floor acts in every mode but COLD, with `CLK` stopped or running; a hard overcurrent sets the port's
latch and leaves its switch commanded open, a thermal shutdown stops both converters and opens every switch. -/
def Obligations.FloorActsWithoutClock : Prop :=
  ∀ s : State, s.mode ≠ .cold →
    (∀ (p : Port) (i : Int), exec (.portHardOvercurrent p i) s = done (s.portFloor p i)
        ∧ ((s.portFloor p i).facet p).pp.floorLatch = true ∧ ((s.portFloor p i).facet p).pp.swCmd = false)
      ∧ (∀ c : Conv, (s.cv c).switching = true → exec (.converterPeakCurrent c) s = done (s.convPeak c))
      ∧ (∀ b : Bus, (s.feed b).clamped = false → exec (.nbusOvervoltageClamp b) s = done (s.nbusClamp b))
      ∧ (s.hub.bat.clampLatch = false → exec .batOvervoltageClamp s = done s.batClamp
        ∧ s.batClamp.hub.cv1.legsOff = true ∧ s.batClamp.hub.cv2.legsOff = true)
      ∧ (∀ tj : Int, exec (.dieThermalShutdown tj) s = done (s.thermal tj) ∧ (s.thermal tj).hub.cv1.st = .off
        ∧ (s.thermal tj).hub.cv2.st = .off ∧ ∀ p, ((s.thermal tj).facet p).pp.swCmd = false)
      ∧ (∀ b : Option Bus, s.clampHolds b = true → exec (.overvoltageClampRelease b) s = done (s.clampEnd b)
        ∧ (s.clampEnd b).clampHolds b = false)

/-! ### Time -/

/-- R26 to R28, R41, R330, R333, R550: a tick boundary comes once TIME reaches it, and the next is one tick length away; a read of
`GLB_TIME_LO` returns TIME[31:0] and snapshots TIME[47:32], the wrap count and ESTIMATED; a wrap leaves TIME 0 and counts; a pending
epoch advance takes place 12 500 cycles after the last; a stop of `CLK` holds every converter leg and every GPWM pin at its level; and once
`CLK` resumes the loss is reported, and the outputs leave their freeze unless Lapidary is in a debug halt. -/
def Obligations.ClockRowsAnswer : Prop :=
  ∀ s : State, s.on = true →
    (∀ m : Sense, s.mode ≠ .sentinel → exec (.tickBoundary m) s = done (s.tick m)
        ∧ (s.tick m).cycles = max s.cycles s.nextTick
        ∧ (s.wf = true → (s.tick m).nextTick = max s.cycles s.nextTick + 24000 * s.tickOld.getD (s.rf 0x0010 0 6))
        ∧ (s.tick m).tickOld = none)
      ∧ (s.mode = .sentinel → (∀ m : Sense, exec (.tickBoundary m) s = .next s) ∧ exec .timeWrap s = .next s
          ∧ exec .clockStop s = .next s)
      ∧ (∀ m : Master, exec (.timeLoRead m) s = done s.timeSnap
          ∧ (∀ c u : Bool, s.busRead m 0x0011 c u = (BitVec.ofNat 32 s.time, s.timeSnap))
          ∧ (s.wf = true → s.timeSnap.rf 0x0012 0 16 = s.time / 2 ^ 32 ∧ s.timeSnap.rf 0x0012 16 15 = s.wraps
              ∧ s.timeSnap.bit 0x0012 31 = decide (s.mode = .sentinel)))
      ∧ (s.mode ≠ .sentinel → s.wrapAt ≤ s.nextTick → exec .timeWrap s = done (s.reach s.wrapAt)
          ∧ (s.reach s.wrapAt).time = 0 ∧ (s.reach s.wrapAt).wraps = (s.wraps + 1) % 2 ^ 15)
      ∧ (∀ p : Port, (s.facet p).epPend = true → s.mode = .sentinel ∨ s.advanceAt (some p) ≤ s.nextTick →
          exec (.epochAdvance (some p)) s = done (s.epochAdvance (some p))
          ∧ ((s.epochAdvance (some p)).facet p).epoch = (s.facet p).epoch + 1
          ∧ ((s.epochAdvance (some p)).facet p).epPend = false
          ∧ (s.epochAdvance (some p)).cycles = max s.cycles (s.advanceAt (some p)))
      ∧ (s.hub.epPend = true → s.mode = .sentinel ∨ s.advanceAt none ≤ s.nextTick →
          exec (.epochAdvance none) s = done (s.epochAdvance none)
          ∧ (s.epochAdvance none).hub.epoch = s.hub.epoch + 1 ∧ (s.epochAdvance none).hub.epPend = false
          ∧ (s.epochAdvance none).cycles = max s.cycles (s.advanceAt none))
      ∧ (s.mode ≠ .sentinel → exec .clockStop s = done { s.freeze with clkStopped := true }
          ∧ s.freeze.hub.frozen = true ∧ s.freeze.cycles = s.cycles
          ∧ (∀ (c : Conv) (o : Bool), s.freeze.leg c o = s.leg c o) ∧ (∀ second : Bool, s.freeze.gpwmPin second = s.gpwmPin second)
          ∧ exec .clockLoss { s with clkStopped := true } = done ({ s with clkStopped := true }.clockBack)
          ∧ ({ s with clkStopped := true }.clockBack).clkStopped = false
          ∧ (s.wf = true → ({ s with clkStopped := true }.clockBack).bit 0x0003 8 = true)
          ∧ ({ s with clkStopped := true }.clockBack).hub.frozen = (s.hub.frozen && decide (s.lap.run = .halted)))

/-- R26: a tick length of 1 to 32 is read back at once with `TICK_PEND` set while `TICK_NOW` stays; 0 and 33 to 63 change
nothing; the next boundary puts the written length in force, but one written in the cycle of a boundary waits for the boundary after
it. -/
def Obligations.TickLengthWaitsForBoundary : Prop :=
  ∀ (v : Word) (s : State), s.wf = true →
    (s.on = true → ∀ m : Master, exec (.tickCfgWrite m v) s = done (s.regWrite 0x0010 v))
      ∧ (1 ≤ fld v 0 6 → fld v 0 6 ≤ 32 →
        (s.regWrite 0x0010 v).rf 0x0010 0 6 = fld v 0 6 ∧ (s.regWrite 0x0010 v).bit 0x0010 6 = true
          ∧ (s.regWrite 0x0010 v).rf 0x0010 8 6 = s.rf 0x0010 8 6
          ∧ (s.regWrite 0x0010 v).tickOld = if s.nextTick ≤ s.cycles then some (s.tickOld.getD (s.rf 0x0010 0 6)) else none)
      ∧ (fld v 0 6 = 0 ∨ 32 < fld v 0 6 → s.regWrite 0x0010 v = s)
      ∧ (s.tickOld = none → s.tickLength.rf 0x0010 0 6 = s.rf 0x0010 0 6 ∧ s.tickLength.rf 0x0010 8 6 = s.rf 0x0010 0 6
          ∧ s.tickLength.bit 0x0010 6 = false ∧ s.tickLength.nextTick = s.cycles + 24000 * s.rf 0x0010 0 6)
      ∧ (∀ q, q < 64 → s.tickOld = some q → s.tickLength.rf 0x0010 0 6 = s.rf 0x0010 0 6 ∧ s.tickLength.rf 0x0010 8 6 = q
          ∧ s.tickLength.bit 0x0010 6 = true ∧ s.tickLength.tickOld = none ∧ s.tickLength.nextTick = s.cycles + 24000 * q)

/-! ### Facet commands -/

/-- A facet opcode as R44, R119, R229, R266 and R271 give it: how the command is written, its opcode, the arguments it takes,
and the facet states that allow it. -/
structure FacetRow where
  cmd    : Port → Byte → Half → Src → Instr
  op     : Nat
  argOk  : Nat → Bool
  states : List FState

/-- The port-facet opcodes. -/
def facetRows : List FacetRow :=
  let zero : Nat → Bool := fun a => decide (a = 0)
  [⟨.goLive, 0x01, zero, [.off]⟩, ⟨.goOff, 0x02, zero, [.live]⟩, ⟨.switchOn, 0x03, zero, [.live]⟩
  , ⟨.switchOff, 0x04, zero, [.live, .tripped]⟩, ⟨.hardReset, 0x05, zero, [.live, .tripped]⟩
  , ⟨.quarantine, 0x06, zero, [.live, .tripped]⟩, ⟨.softReset, 0x07, fun a => decide (a ≤ 2), [.live, .tripped]⟩
  , ⟨.cableReset, 0x08, zero, [.live, .tripped]⟩, ⟨.sendCaps, 0x10, fun a => decide (a ≤ 1), [.live]⟩
  , ⟨.request, 0x11, fun a => decide (a % 8 ≠ 0), [.live]⟩, ⟨.prSwap, 0x12, zero, [.live]⟩
  , ⟨.drSwap, 0x13, zero, [.live, .tripped]⟩, ⟨.vconnSwap, 0x14, zero, [.live]⟩, ⟨.eprEnter, 0x15, zero, [.live]⟩
  , ⟨.eprExit, 0x16, zero, [.live]⟩, ⟨.discover, 0x17, fun a => decide (a ≤ 1), [.live, .tripped]⟩
  , ⟨.enterMode, 0x18, zero, [.live]⟩, ⟨.exitMode, 0x19, zero, [.live]⟩, ⟨.authStart, 0x1A, zero, [.live, .tripped]⟩] ++
  [⟨fun p => .rcfgPrepare (some p), 0x30, zero, [.off, .live, .tripped, .held]⟩
  , ⟨fun p => .rcfgApply (some p), 0x31, zero, [.off, .live, .held]⟩
  , ⟨fun p => .rcfgCancel (some p), 0x32, zero, [.off, .live, .tripped, .held]⟩
  , ⟨fun p => .rcfgRevert (some p), 0x33, zero, [.off, .live, .tripped, .held]⟩
  , ⟨.repair, 0x40, zero, [.quarantined]⟩]

/-- R44: a facet command is judged for its argument, its epoch, the device mode and the facet state in that order, and one
that is STALE or REFUSED for these changes nothing but the status that reports it (R554); behind a command that awaits its evaluation it
awaits its own (log entry 37). -/
def Obligations.FacetCommandsAreJudgedInOrder : Prop :=
  ∀ r ∈ facetRows, ∀ (p : Port) (e : Byte) (a : Half) (src : Src) (s : State), s.on = true →
    let told := fun (x : Res) (y : Reason) => exec (r.cmd p e a src) s = done (s.reportF p src x y)
    (s.awaits = [] →
      (r.argOk a.toNat = false → told .refused .badCmd)
        ∧ (r.argOk a.toNat = true → (s.facet p).epoch ≠ e ∨ (s.facet p).epPend = true → told .stale .none)
        ∧ (r.argOk a.toNat = true → (s.facet p).epoch = e → (s.facet p).epPend = false → s.mode ≠ .standby → s.mode ≠ .run →
            told .refused .deviceMode)
        ∧ (r.argOk a.toNat = true → s.takesF p e → (s.facet p).fstate ∉ r.states → told .refused .facetState))
      ∧ (s.awaits ≠ [] → exec (r.cmd p e a src) s = done (s.unitWrite (srcMaster src) (some p) r.op e a.toNat src true)
          ∧ (src ≠ .mailbox → (s.unitWrite (srcMaster src) (some p) r.op e a.toNat src true).awaits
              = s.awaits ++ [⟨.unit (some p) src, r.op, e, a.toNat, true⟩]))

/-- R554, R158: a command's outcome is reported with the epoch and its master in the facet's status register, or in the
mailbox it came through with the next sequence count, and reporting changes nothing else. -/
def Obligations.ReportGoesWhereTheCommandCameFrom : Prop :=
  ∀ (p : Port) (m : Master) (x : Res) (y : Reason) (s : State),
    let w := fun k => fw 0 (resCode x) ||| fw 8 (reasonCode y) ||| fw 16 ((s.facet p).epoch.toNat) ||| fw 24 k
    s.reportF p (.direct m) x y = s.setReg (fx p 0x002) (w (masterId m))
      ∧ s.reportF p .mailbox x y = s.setMbx (portNo p) { seq := (s.mbx (portNo p)).seq + 1, res := w 2 }

/-- R24, R271: SWITCH_ON on a LIVE facet is refused HARDWARE under a floor latch, a thermal shutdown, a leak or a stall,
and PRECONDITION without a partner or in Hard Reset recovery. -/
def Obligations.SwitchOnIsRefused : Prop :=
  ∀ (p : Port) (e : Byte) (src : Src) (s : State), s.takesF p e → (s.facet p).fstate = .live →
    (s.facet p).pp.swCmd = false →
    ((s.facet p).pp.floorLatch = true ∨ s.tsd = true ∨ (s.facet p).pp.leak = true ∨ (s.facet p).pp.stall = true →
        exec (.switchOn p e 0 src) s = done (s.reportF p src .refused .hardware))
      ∧ ((s.facet p).pp.floorLatch = false → s.tsd = false → (s.facet p).pp.leak = false → (s.facet p).pp.stall = false →
          (s.facet p).cc.attached = false ∨ (s.facet p).pd.hrPhase = 1 ∨ (s.facet p).pd.hrPhase = 2
            ∨ (s.facet p).pd.hrSink = true →
          exec (.switchOn p e 0 src) s = done (s.reportF p src .refused .precondition))

/-- R39, R229, R243, R250, R265, R266: the refusals with PRECONDITION of the other facet opcodes in a state that allows them; that of
`REQUEST` for an object which R243 or R265 keeps from it, of `ENTER_MODE` without the chain link in the facet's own table and of `AUTH_START`
without random data are the model's choice (log entries 72 and 82). -/
def Obligations.FacetPreconditionsAreChecked : Prop :=
  ∀ (p : Port) (e : Byte) (src : Src) (s : State), s.takesF p e →
    let f := s.facet p
    let no := fun c => exec c s = done (s.reportF p src .refused .precondition)
    (f.fstate = .off → f.cfg.present = false → no (.goLive p e 0 src))
      ∧ (f.fstate = .live ∨ f.fstate = .tripped →
          (f.cc.attached = false ∨ f.pd.pdEn = false ∨ f.pd.hrPhase ≠ 0 ∨ f.pd.hrSink = true → no (.hardReset p e 0 src))
          ∧ (f.cc.attached = false ∨ f.pd.pdEn = false → no (.softReset p e 0 src))
          ∧ (f.cc.attached = false ∨ f.pd.pdEn = false ∨ f.ct.vconnSrc = false → no (.softReset p e 1 src) ∧ no (.softReset p e 2 src))
          ∧ (f.ct.drole = false ∨ f.ct.vconnSrc = false ∨ s.bit (fx p 0x080) 1 = false → no (.cableReset p e 0 src))
          ∧ (f.ct.contract = false ∨ f.noSeq = false ∨ f.ct.linkOn = true → no (.drSwap p e 0 src))
          ∧ (f.cc.attached = false ∨ f.ct.drole = false → no (.discover p e 0 src) ∧ no (.discover p e 1 src))
          ∧ (f.ct.vconnSrc = false → no (.discover p e 1 src))
          ∧ (f.cfg.auth = false ∨ f.ct.contract = false ∨ f.ct.authRun = true ∨ s.onx.rngOk = false → no (.authStart p e 0 src)))
      ∧ (f.fstate = .live →
          (f.ct.prole = false ∨ f.cc.attached = false → no (.sendCaps p e 0 src) ∧ no (.sendCaps p e 1 src))
          ∧ (∀ a : Half, a.toNat % 8 ≠ 0 →
              f.cc.attached = false ∨ f.ct.prole = true ∨ f.ct.srcCaps.length < argPos a.toNat
                ∨ s.busAllows p (s.argObj p a.toNat) = false ∨ (s.gated p = true ∧ isSafe5 (s.argObj p a.toNat) = false) →
              no (.request p e a src))
          ∧ (f.ct.contract = false ∨ f.noSeq = false ∨ f.cfg.role ≠ 2
              ∨ (f.ct.prole = false ∧ (s.otherFeed (s.busOf p) (portNo p + 1) = false ∨ inSafe5V (s.nbus (s.busOf p)) = false)) →
              no (.prSwap p e 0 src))
          ∧ (f.ct.contract = false ∨ f.noSeq = false
              ∨ (f.ct.vconnSrc = false ∧ (s.bit (fx p 0x040) 2 = false ∨ f.cc.vconnOc = true ∨ s.raFound p = false)) →
              no (.vconnSwap p e 0 src))
          ∧ (f.cc.attached = false ∨ f.ct.prole = true ∨ f.ct.contract = false ∨ f.ct.epr = true → no (.eprEnter p e 0 src))
          ∧ (f.ct.epr = false → no (.eprExit p e 0 src))
          ∧ (f.ct.drole = false ∨ f.ct.partnerLink = false ∨ f.ct.linkOn = true ∨ f.listsLink = false → no (.enterMode p e 0 src))
          ∧ (f.ct.linkOn = false → no (.exitMode p e 0 src)))

/-- R39, R271, R274, R276, R442: what the commands of a facet's state and switch do when they are accepted. -/
def Obligations.FacetStateCommandsTakeEffect : Prop :=
  ∀ (p : Port) (e : Byte) (src : Src) (s : State), s.takesF p e →
    let f := s.facet p
    let does := fun c u => exec c s = done (u.reportF p src .accepted .none) ∧ UnitFrame [p] s u
    (f.fstate = .off → f.cfg.present = true →
        does (.goLive p e 0 src) (s.goLive p)
          ∧ ((s.goLive p).facet p).fstate = (if f.pp.floorLatch then .tripped else .live)
          ∧ ((s.goLiveNow p).facet p).cc.tc = if f.cfg.role = 1 then .unattachedSrc else .unattachedSnk)
      ∧ (f.fstate = .live → does (.goOff p e 0 src) (s.leave p .off) ∧ ((s.leave p .off).facet p).fstate = .off
          ∧ ((s.leave p .off).facet p).pp.swCmd = false)
      ∧ (f.fstate = .live → f.pp.swCmd = true → does (.switchOn p e 0 src) s)
      ∧ (f.fstate = .live → f.pp.swCmd = false → f.pp.floorLatch = false → s.tsd = false → f.pp.leak = false →
          f.pp.stall = false → s.switchOk p = true →
          does (.switchOn p e 0 src) (s.closeSwitch p) ∧ ((s.closeSwitch p).facet p).pp.swCmd = true)
      ∧ (f.fstate = .live → does (.switchOff p e 0 src) (s.switchOff p) ∧ ((s.switchOff p).facet p).pp.swCmd = false
          ∧ ((s.switchOff p).facet p).fstate = .live)
      ∧ (f.fstate = .tripped → does (.switchOff p e 0 src) (s.switchOff p) ∧ ((s.switchOff p).facet p).pp.swCmd = false
          ∧ ((s.switchOff p).facet p).pp.floorLatch = (f.pp.floorLatch && f.pp.overFloor && (f.pp.swObs || f.pp.leak))
          ∧ ((s.switchOff p).facet p).fstate
              = if f.pp.floorLatch && f.pp.overFloor && (f.pp.swObs || f.pp.leak) then .tripped else .live)
      ∧ (f.fstate = .live ∨ f.fstate = .tripped →
          does (.quarantine p e 0 src) ((s.leave p .quarantined).nvmQueue (.quarantine p true))
          ∧ ((s.leave p .quarantined).facet p).fstate = .quarantined
          ∧ ((s.leave p .quarantined).facet p).pp.swCmd = false)
      ∧ (f.fstate = .quarantined → s.granted 2 (portNo p) (srcMaster src) = true →
          does (.repair p e 0 src) (s.repairCmd p) ∧ ((s.repairCmd p).facet p).fstate = .off
          ∧ (s.repairCmd p).onx.grant = none)
      ∧ (f.fstate = .quarantined → s.granted 2 (portNo p) (srcMaster src) = false →
          exec (.repair p e 0 src) s = done (s.reportF p src .refused .notAuthenticated))

/-- R203, R221, R222, R234, R241, R249 to R253, R258, R262 to R264: what the USB PD commands start when they are accepted:
the message sent and the sequence that then waits, while no sequence runs that may not be interrupted; with one running the command
is accepted and starts nothing (log entry 17). And what ends an authentication exchange. -/
def Obligations.FacetProtocolCommandsTakeEffect : Prop :=
  ∀ (p : Port) (e : Byte) (src : Src) (s : State), s.takesF p e → (s.facet p).fstate = .live →
    let f := s.facet p
    let does := fun c u => exec c s = done (u.reportF p src .accepted .none) ∧ PortFrame p s u
    let starts := fun c u => does c (if f.noSeq then u else s)
    let seq := fun (u : State) => (u.facet p).pd.seq
    (f.cc.attached = true → f.pd.pdEn = true → f.pd.hrPhase = 0 → f.pd.hrSink = false →
        exec (.hardReset p e 0 src) s = done ((s.orderHardReset p 0).reportF p src .accepted .none)
        ∧ UnitFrame [p] s (s.orderHardReset p 0)
        ∧ (f.pd.mute = false → f.pd.hrSending = false → f.pd.hrCount ≠ 3 → ((s.orderHardReset p 0).facet p).pd.hrSending = true
            ∧ (f.ct.prole = false → ((s.orderHardReset p 0).facet p).pp.swCmd = false)))
      ∧ (f.cc.attached = true → f.pd.pdEn = true →
          does (.softReset p e 0 src) (s.sendSoftReset p .sop) ∧ seq (s.sendSoftReset p .sop) = .softReset
          ∧ (f.ct.vconnSrc = true → does (.softReset p e 1 src) (s.sendSoftReset p .sopP)
              ∧ does (.softReset p e 2 src) (s.sendSoftReset p .sopPP)
              ∧ ((s.sendSoftReset p .sopP).facet p).pd.srCable = some .sopP ∧ seq (s.sendSoftReset p .sopP) = f.pd.seq))
      ∧ (f.ct.drole = true → f.ct.vconnSrc = true → s.bit (fx p 0x080) 1 = true →
          does (.cableReset p e 0 src) (s.cableReset p) ∧ ((s.cableReset p).facet p).pd.cableRsts = f.pd.cableRsts + 1
          ∧ ((s.cableReset p).facet p).pd.txId.sopP = 0 ∧ ((s.cableReset p).facet p).pd.txId.sopPP = 0)
      ∧ (f.ct.prole = true → f.cc.attached = true → f.pd.partner = true ∨ f.pd.capsSent = 0 ∨ f.ct.offerCode = 0 →
          does (.sendCaps p e 0 src) (s.sendCaps p) ∧ does (.sendCaps p e 1 src) ((s.requestGrant p).sendCaps p))
      ∧ (f.cc.attached = true → f.ct.prole = false → ∀ a : Half, a.toNat % 8 ≠ 0 → argPos a.toNat ≤ f.ct.srcCaps.length →
          s.busAllows p (s.argObj p a.toNat) = true → s.gated p = false ∨ isSafe5 (s.argObj p a.toNat) = true →
          does (.request p e a src) (s.requestCmd p a.toNat) ∧ ((s.requestCmd p a.toNat).facet p).ct.only5v = false)
      ∧ (s.prsAllowed p = true →
          does (.prSwap p e 0 src) ((s.setSeq p (.prs .requested)).send p (mkCtl .sop 0x0A).initiate)
          ∧ seq ((s.setSeq p (.prs .requested)).send p (mkCtl .sop 0x0A).initiate) = .prs .requested)
      ∧ (f.ct.contract = true → f.noSeq = true → f.ct.linkOn = false →
          does (.drSwap p e 0 src) ((s.setSeq p (.drs true)).send p (mkCtl .sop 0x09).initiate))
      ∧ (s.vcsAllowed p (s.raFound p) = true →
          does (.vconnSwap p e 0 src)
            (((if f.ct.vconnSrc then s else s.probePin p (s.raFound p)).setSeq p (.vcs .requested)).send p (mkCtl .sop 0x0B).initiate))
      ∧ (f.cc.attached = true → f.ct.prole = false → f.ct.contract = true → f.ct.epr = false →
          starts (.eprEnter p e 0 src) (s.eprEnterSend p) ∧ (f.rev2 = false → seq (s.eprEnterSend p) = .epr .snkEntering))
      ∧ (f.ct.epr = true → starts (.eprExit p e 0 src) ((s.setSeq p (.epr .exiting)).send p (mkData .sop 0x0A [fw 24 5]).initiate))
      ∧ (f.cc.attached = true → f.ct.drole = true →
          starts (.discover p e 0 src) (s.vdmBegin p .identity) ∧ seq (s.vdmBegin p .identity) = .vdm .identity
          ∧ (f.ct.vconnSrc = true → starts (.discover p e 1 src) (s.cableIdentity p)))
      ∧ (f.ct.drole = true → f.ct.partnerLink = true → f.ct.linkOn = false → f.listsLink = true →
          starts (.enterMode p e 0 src) (s.vdmBegin p .enterMode) ∧ seq (s.vdmBegin p .enterMode) = .vdm .enterMode)
      ∧ (f.ct.linkOn = true → starts (.exitMode p e 0 src) ((s.linkOff p).vdmBegin p .exitMode)
          ∧ ((s.linkOff p).facet p).ct.linkOn = false)
      ∧ (f.cfg.auth = true → f.ct.contract = true → f.ct.authRun = false → s.onx.rngOk = true →
          exec (.authStart p e 0 src) s = done ((if f.noSeq then s.authBegin p else s).reportF p src .accepted .none)
          ∧ UnitFrame [p] s (s.authBegin p) ∧ ((s.authBegin p).facet p).ct.authRun = !f.rev2)
      ∧ (∀ r, (f.authIs r = true → exec (.authComplete p r) s = done ((s.authEnd p r).idleTx p) ∧ UnitFrame [p] s (s.authEnd p r)
          ∧ ((s.authEnd p r).facet p).ct.authRun = false
          ∧ ((s.authEnd p r).facet p).ct.authed = (f.ct.authed || decide (r = .passed)))
          ∧ (f.authIs r = false → exec (.authComplete p r) s = .next s))

/-! ### Reconfiguration -/

/-- R119, R121, R123, R125, R137: what an accepted reconfiguration opcode of a facet starts: a prepare; the end of a staging; on a
LIVE facet a hold that leaves switch and CC as they are; on an OFF facet the staged section in force at once. -/
def Obligations.ReconfigurationOpcodesTakeEffect : Prop :=
  ∀ (p : Port) (e : Byte) (src : Src) (s : State), s.takesF p e →
    let f := s.facet p
    let does := fun c u => exec c s = done (u.reportF p src .accepted .none) ∧ PortFrame p s u
    (f.fstate = .off ∨ f.fstate = .live ∨ f.fstate = .tripped → s.liveBusy = false → f.rc.offApply = false →
        does (.rcfgPrepare (some p) e 0 src) (s.prepareFacet p false) ∧ does (.rcfgRevert (some p) e 0 src) (s.prepareFacet p true)
        ∧ ∀ base, ((s.prepareFacet p base).facet p).rc.phase = .preparing ∧ ((s.prepareFacet p base).facet p).rc.base = base
          ∧ ((s.prepareFacet p base).facet p).fstate = f.fstate)
      ∧ (f.fstate = .off ∨ f.fstate = .live ∨ f.fstate = .tripped → f.rc.phase = .ready → f.rc.offApply = false →
          does (.rcfgCancel (some p) e 0 src) (s.cancelCmd p) ∧ ((s.cancelCmd p).facet p).rc.phase = .idle
          ∧ ((s.cancelCmd p).facet p).rc.shadow = none)
      ∧ (f.fstate = .off ∨ f.fstate = .live ∨ f.fstate = .tripped → f.rc.phase ≠ .ready ∨ f.rc.offApply = true →
          does (.rcfgCancel (some p) e 0 src) s)
      ∧ (f.fstate = .live → s.applyRefuse p = 0 →
          does (.rcfgApply (some p) e 0 src) (s.holdFacet p) ∧ ((s.holdFacet p).facet p).fstate = .held
          ∧ ((s.holdFacet p).facet p).rc.phase = .holding ∧ ((s.holdFacet p).facet p).pp = f.pp
          ∧ ((s.holdFacet p).facet p).cc = f.cc)
      ∧ (f.fstate = .off → s.applyRefuse p = 0 →
          exec (.rcfgApply (some p) e 0 src) s = done ((s.offApplyStart p).reportF p src .accepted .none)
          ∧ (f.rc.phase = .ready ∧ ∃ b, f.rc.shadow = some b ∧ ((s.offApplyStart p).facet p).rc.offApply = true
              ∧ ((s.offApplyStart p).facet p).cfg = b.cfg ∧ ((s.offApplyStart p).facet p).pdo = b.pdo
              ∧ ((s.offApplyStart p).facet p).vdm = b.vdm ∧ ((s.offApplyStart p).facet p).fstate = .off))

/-- R119, R120, R122, R124, R137: an apply is refused for the first condition that holds, another unit's prepare or hold before the
others, with its code in `REFUSE`, a prepare while any unit prepares or holds, and in HELD every reconfiguration opcode is refused
PRECONDITION; that a second apply or a prepare during an OFF apply's verification gives 7 is the model's choice (log entry 42). -/
def Obligations.ReconfigurationIsRefused : Prop :=
  ∀ (p : Port) (e : Byte) (src : Src) (s : State), s.takesF p e →
    let f := s.facet p
    let no := fun c k => exec c s = done ((s.modRc p fun r => { r with refuse := k }).reportF p src .refused .precondition)
    let busy := s.otherBusy (some p) = true ∨ f.rc.offApply = true
    (f.fstate = .held → ∀ c ∈ [Instr.rcfgPrepare (some p) e 0 src, .rcfgApply (some p) e 0 src, .rcfgCancel (some p) e 0 src,
        .rcfgRevert (some p) e 0 src], exec c s = done (s.reportF p src .refused .precondition))
      ∧ (f.fstate = .off ∨ f.fstate = .live →
          (busy → no (.rcfgApply (some p) e 0 src) 7)
          ∧ (¬ busy → f.rc.phase ≠ .ready ∨ f.rc.shadow = none → no (.rcfgApply (some p) e 0 src) 1))
      ∧ (f.fstate = .live → ¬ busy → f.rc.phase = .ready → ∀ b, f.rc.shadow = some b →
          let wait := f.cc.attached = true ∧ f.ct.contract = false
          let role := f.cc.attached = true ∧ (b.cfg.present = false ∨ b.cfg.role = if f.ct.prole then 0 else 1)
          (wait → no (.rcfgApply (some p) e 0 src) 2)
          ∧ (¬ wait → f.noSeq = false → no (.rcfgApply (some p) e 0 src) 3)
          ∧ (¬ wait → f.noSeq = true → f.pp.ilimAct = true → no (.rcfgApply (some p) e 0 src) 4)
          ∧ (¬ wait → f.noSeq = true → f.pp.ilimAct = false → role → no (.rcfgApply (some p) e 0 src) 5)
          ∧ (¬ wait → f.noSeq = true → f.pp.ilimAct = false → ¬ role → f.ct.linkOn = true → keepsLink b.vdm = false →
              no (.rcfgApply (some p) e 0 src) 6))
      ∧ (f.fstate = .off ∨ f.fstate = .live ∨ f.fstate = .tripped → s.liveBusy = true ∨ f.rc.offApply = true →
          no (.rcfgPrepare (some p) e 0 src) 7 ∧ no (.rcfgRevert (some p) e 0 src) 7)

/-- R121, R129, R130, R132, R137, R140: a prepare ends by its checks, a hold by its verification's outcome or its limit, and an OFF
facet's apply APPLIED or, with another outcome than a pass, ROLLED_BACK;
a facet released from its hold is QUARANTINED where that was pending, TRIPPED under a floor latch, and LIVE otherwise. -/
def Obligations.ReconfigurationEnds : Prop :=
  ∀ s : State, s.on = true →
    (∀ u : Option Port, s.rcPhase u = .preparing → exec (.rcfgPrepareDone u) s = done (s.prepareEnd u))
      ∧ (∀ (u : Option Port) (v : Verify), s.rcPhase u = .holding → exec (.rcfgRelease u v) s = done (s.releaseUnit v u)
          ∧ exec (.rcfgHoldLimit u) s = done (s.releaseUnit .timeout u))
      ∧ (∀ (p : Port) (v : Verify), (s.facet p).rc.offApply = true → exec (.offApplyVerifyEnd p v) s = done (s.offApplyDone p v)
          ∧ ((s.facet p).rc.shadow.isSome = true → ((s.offApplyDone p v).facet p).rc.offApply = false
              ∧ ((s.offApplyDone p v).facet p).rc.phase = if v = .pass then .applied else .rolledBack))
      ∧ (∀ p, ((s.leaveHold p).facet p).fstate
          = if (s.facet p).qPending then .quarantined else if (s.facet p).pp.floorLatch then .tripped else .live)

/-! ### Hub commands -/

/-- The hub's opcodes with the arguments each takes (R119, R319, R361). -/
def hubRows : List ((Byte → Half → Src → Instr) × Nat × (Nat → Bool)) :=
  let zero : Nat → Bool := fun a => decide (a = 0)
  let conv : Nat → Bool := fun a => decide (a ≤ 1)
  [(.cvRun, 0x50, conv), (.cvStandby, 0x51, conv), (.cvStop, 0x52, conv), (.cvClear, 0x53, conv), (.chgFull, 0x60, zero)
  , (.chgStore, 0x61, zero), (.batClear, 0x62, zero), (.gaugeSet, 0x63, fun a => decide (a < 256))
  , (.rcfgPrepare none, 0x30, zero), (.rcfgApply none, 0x31, zero), (.rcfgCancel none, 0x32, zero), (.rcfgRevert none, 0x33, zero)]

/-- R44 on the hub: argument, epoch, device mode and hub state are judged in that order, a command turned away for them
changes only the status that reports it, and in HELD reconfiguration opcodes are refused PRECONDITION (R120); behind a command that awaits
its evaluation it awaits its own (log entry 37). -/
def Obligations.HubCommandsAreJudgedInOrder : Prop :=
  ∀ r ∈ hubRows, ∀ (e : Byte) (a : Half) (src : Src) (s : State), s.on = true →
    let told := fun (x : Res) (y : Reason) => exec (r.1 e a src) s = done (s.reportH src x y)
    (s.awaits = [] →
      (r.2.2 a.toNat = false → told .refused .badCmd)
      ∧ (r.2.2 a.toNat = true → s.hub.epoch ≠ e ∨ s.hub.epPend = true → told .stale .none)
      ∧ (r.2.2 a.toNat = true → s.hub.epoch = e → s.hub.epPend = false → s.mode ≠ .standby → s.mode ≠ .run → told .refused .deviceMode))
      ∧ (s.awaits ≠ [] → exec (r.1 e a src) s = done (s.unitWrite (srcMaster src) none r.2.1 e a.toNat src true))
      ∧ (r.2.2 a.toNat = true → s.takesH e → s.hub.fstate = .held → r.2.1 < 0x34 → told .refused .precondition)
      ∧ (r.2.2 a.toNat = true → s.takesH e → s.hub.fstate = .held → 0x50 ≤ r.2.1 → told .refused .facetState)

/-- R316, R319: a converter opcode is refused FACET_STATE while the hub is not LIVE, and PRECONDITION in a converter state
outside its row, without a valid battery where it would start, and for CV2 with the converters paralleled; accepted, it takes
the converter to the state of its row. -/
def Obligations.ConverterCommandsTakeEffect : Prop :=
  ∀ (e : Byte) (src : Src) (s : State), s.takesH e →
    let does := fun i u => exec i s = done (u.reportH src .accepted .none) ∧ UnitFrame [] s u
    let no := fun i => exec i s = done (s.reportH src .refused .precondition)
    (s.hub.fstate ≠ .live → ∀ a : Half, a.toNat ≤ 1 → ∀ i ∈ [Instr.cvRun e a src, .cvStandby e a src, .cvStop e a src, .cvClear e a src],
        exec i s = done (s.reportH src .refused .facetState))
      ∧ (s.hub.fstate = .live →
          (s.hub.parallel = true → ∀ i ∈ [Instr.cvRun e 1 src, .cvStandby e 1 src, .cvStop e 1 src, .cvClear e 1 src], no i)
          ∧ ∀ (c : Conv) (a : Half), (c = .cv1 ∧ a = 0) ∨ (c = .cv2 ∧ a = 1 ∧ s.hub.parallel = false) →
              let st := (s.cv c).st
              (if s.batOk = true ∧ (st = .off ∨ st = .standby) then does (.cvRun e a src) (s.cvRunCmd c) else no (.cvRun e a src))
              ∧ (if s.batOk = true ∧ (st = .off ∨ st = .starting ∨ st = .regulating)
                  then does (.cvStandby e a src) (s.cvTo c Cv.standby) else no (.cvStandby e a src))
              ∧ does (.cvStop e a src) (s.cvTo c Cv.off)
              ∧ (if st = .tripped then does (.cvClear e a src) (s.cvTo c Cv.off) else no (.cvClear e a src))
              ∧ ((s.cvRunCmd c).cv c).st = (if (s.cv c).clampOff then .tripped else .starting)
              ∧ ((s.cvTo c Cv.standby).cv c).st = .standby ∧ ((s.cvTo c Cv.off).cv c).st = .off)

/-- R345, R349, R361: the battery opcodes in the battery states that take them; `CHG_STORE` with the state of charge at `STORE_SOC` ends a
charge in CC or CV at once. -/
def Obligations.BatteryCommandsTakeEffect : Prop :=
  ∀ (e : Byte) (src : Src) (s : State), s.takesH e → s.hub.fstate = .live →
    let b := s.hub.bat
    let does := fun i u => exec i s = done (u.reportH src .accepted .none) ∧ UnitFrame [] s u
    let no := fun i => exec i s = done (s.reportH src .refused .precondition)
    (b.st = .present ∨ b.st = .depleted →
        does (.chgFull e 0 src) { s with hub := { s.hub with bat := { b with full := true } } }
        ∧ ∀ a : Half, (a.toNat ≤ 200 → does (.gaugeSet e a src)
              (s.gaugeSet a.toNat) ∧ (s.gaugeSet a.toNat).hub.bat = { b with qrem := b.part (5 * a.toNat), gaugeValid := false })
            ∧ (200 < a.toNat → a.toNat < 256 → no (.gaugeSet e a src)))
      ∧ (b.st ≠ .present → b.st ≠ .depleted → no (.chgFull e 0 src) ∧ ∀ a : Half, a.toNat < 256 → no (.gaugeSet e a src))
      ∧ does (.chgStore e 0 src) s.chargeStore ∧ s.chargeStore.hub.bat.full = false
      ∧ (b.phase = .cc ∨ b.phase = .cv → s.storeSoc ≤ b.soc → s.chargeStore.hub.bat.phase = .done)
      ∧ (b.st = .fault → b.deep = false → b.phase ≠ .timeout → does (.batClear e 0 src) (s.setBat .qualifying))
      ∧ (b.st = .fault → b.deep = false → b.phase = .timeout → does (.batClear e 0 src) ((s.setPhase .idle).setBat .qualifying))
      ∧ (b.st ≠ .fault ∨ b.deep = true → b.phase = .timeout → does (.batClear e 0 src) (s.setPhase .idle)
          ∧ (s.setPhase .idle).hub.bat.phase = .idle)
      ∧ (b.st ≠ .fault ∨ b.deep = true → b.phase ≠ .timeout → no (.batClear e 0 src))

/-- R121, R123, R138 to R140: the hub's reconfiguration opcodes. -/
def Obligations.HubReconfigurationTakesEffect : Prop :=
  ∀ (e : Byte) (src : Src) (s : State), s.takesH e → s.hub.fstate = .live →
    let does := fun i u => exec i s = done (u.reportH src .accepted .none) ∧ UnitFrame [] s u
    (s.liveBusy = false → does (.rcfgPrepare none e 0 src) (s.prepareHub false) ∧ does (.rcfgRevert none e 0 src) (s.prepareHub true)
        ∧ ∀ base, (s.prepareHub base).hub.rc.phase = .preparing ∧ (s.prepareHub base).hub.fstate = .live)
      ∧ (s.hubRefuse 0x31 = 0 → does (.rcfgApply none e 0 src) s.holdHub ∧ s.holdHub.hub.fstate = .held
          ∧ s.holdHub.hub.rc.phase = .holding)
      ∧ (s.hub.rc.phase = .ready → ∃ u, does (.rcfgCancel none e 0 src) u ∧ u.hub.rc.phase = .idle ∧ u.hub.rc.shadow = none)
      ∧ (s.hub.rc.phase ≠ .ready → does (.rcfgCancel none e 0 src) s)

/-! ### Converters and PWM -/

/-- R316, R318: a start ends in REGULATING once its setpoint has arrived and the bus is within ±2 % of it, or in a trip 500 ms after it
began; 16 peak-limit actions, or an undervoltage in REGULATING or later than 10 ms in STARTING, trip the converter, and every trip stops
it. -/
def Obligations.ConvertersStartAndTrip : Prop :=
  ∀ (c : Conv) (s : State), s.on = true →
    (∀ mv : Nat, (s.cv c).st = .starting → (s.cv c).clampOff = false → s.slews c = false → 98 * s.vsetMv c ≤ 100 * mv →
        100 * mv ≤ 102 * s.vsetMv c →
        exec (.cvStartRampEnd c mv) s = done (s.bothCv c fun v => { v with st := .regulating })
        ∧ ((s.bothCv c fun v => { v with st := .regulating }).cv c).st = .regulating
        ∧ UnitFrame [] s (s.bothCv c fun v => { v with st := .regulating }))
      ∧ ((s.cv c).st = .starting → s.mode = .sentinel ∨ s.startLimit c ≤ s.nextTick →
          exec (.cvStartTimeout c) s = done ((s.reach (s.startLimit c)).cvTrip c 4 5 false)
          ∧ (s.reach (s.startLimit c)).cycles = max s.cycles ((s.cv c).startAt + 48000000))
      ∧ ((s.cv c).st = .starting ∨ (s.cv c).st = .regulating → 16 ≤ (s.cv c).peaks →
          exec (.cvPeakTrip c) s = done (s.cvTrip c 1 2 true))
      ∧ ((s.cv c).st = .regulating ∨ ((s.cv c).st = .starting ∧ (s.cv c).startAt + 960000 < s.cycles) →
          exec (.cvUndervoltageTrip c) s = done (s.cvTrip c 2 3 true))
      ∧ (∀ (k src : Nat) (ev : Bool), UnitFrame [] s (s.cvTrip c k src ev) ∧ ((s.cvTrip c k src ev).cv c).st = .tripped)

/-- R323, R328, R329, R331: `CLK` runs to the end of a channel's period, whose boundary takes the shadows of the `GPWM` channels and
releases a converter's peak latch; none comes while the generator is stopped or the channel does not run; and a write of the `GPWM`
registers leaves the values in force as they are. -/
def Obligations.PwmBoundariesTakeShadows : Prop :=
  ∀ s : State, s.on = true →
    (∀ ch, s.hub.frozen = false → s.hub.chanRuns ch = true → s.mode = .sentinel ∨ s.boundaryAt ch ≤ s.nextTick →
        exec (.pwmPeriodBoundary ch) s = done (s.reach (s.boundaryAt ch)) ∧ (s.reach (s.boundaryAt ch)).cycles = s.boundaryAt ch
        ∧ (∀ c, ch = .cv c → c = .cv1 ∨ s.hub.parallel = false →
            ((s.reach (s.boundaryAt ch)).cv c).peakLatch = false ∧ ((s.reach (s.boundaryAt ch)).cv c).cnt = 0
            ∧ ((s.reach (s.boundaryAt ch)).cv c).periods = (s.cv c).periods + 1)
        ∧ (s.wf = true → ch = .gpwm0 →
            (s.reach (s.boundaryAt ch)).hub.duty0 = BitVec.ofNat 16 (s.rf 0x0842 0 16)
            ∧ (s.reach (s.boundaryAt ch)).hub.run0 = s.hub.per0.getD (s.reg 0x0841)
            ∧ (s.reach (s.boundaryAt ch)).hub.en0 = s.bit 0x0840 0 ∧ (s.reach (s.boundaryAt ch)).hub.comp = s.bit 0x0840 2)
        ∧ (s.wf = true → ch = .gpwm1 → s.hub.en0 = false →
            (s.reach (s.boundaryAt ch)).hub.duty1 = BitVec.ofNat 16 (s.rf 0x0844 0 16)
            ∧ (s.reach (s.boundaryAt ch)).hub.run1 = s.hub.per1.getD (s.reg 0x0843)
            ∧ (s.reach (s.boundaryAt ch)).hub.en1 = (s.bit 0x0840 1 && !s.bit 0x0840 2)))
      ∧ (∀ ch, s.hub.frozen = true ∨ s.hub.chanRuns ch = false → exec (.pwmPeriodBoundary ch) s = .next s)
      ∧ (∀ (m : Master) (v : Word),
          (exec (.gpwmPerWrite m false v) s = done (s.regWrite 0x0841 v) ∧ (s.regWrite 0x0841 v).hub.run0 = s.hub.run0)
          ∧ (exec (.gpwmPerWrite m true v) s = done (s.regWrite 0x0843 v) ∧ (s.regWrite 0x0843 v).hub.run1 = s.hub.run1)
          ∧ (exec (.gpwmDutyWrite m false v) s = done (s.regWrite 0x0842 v) ∧ (s.regWrite 0x0842 v).hub.duty0 = s.hub.duty0)
          ∧ (exec (.gpwmDutyWrite m true v) s = done (s.regWrite 0x0844 v) ∧ (s.regWrite 0x0844 v).hub.duty1 = s.hub.duty1)
          ∧ exec (.gpwmCtlWrite m v) s = done (s.regWrite 0x0840 v))

/-! ### Feeds -/

/-- R294, R300 to R302, R307, R313: a feed that supplies or is available is lost, and then no longer available until it returns, the
make comes after the gap, a bus without a feed is marked lost, and the share loop's limit is kept. -/
def Obligations.FeedsChangeOver : Prop :=
  ∀ (b : Bus) (s : State), s.on = true →
    (∀ code : BitVec 3, s.supplies b code.toNat = true ∨ s.feedAvailable b code.toNat = true →
        exec (.feedLost b code) s = done (s.feedLost b code.toNat)
        ∧ code ∈ ((s.markLost b code.toNat).feed b).lostFeeds ∧ (s.markLost b code.toNat).feedAvailable b code.toNat = false)
      ∧ ((s.feed b).gap = true → exec (.feedChangeoverMake b) s = done (s.changeoverMake b))
      ∧ (∀ code : BitVec 3, code ≠ 0 → code ≠ 7 → exec (.feedReturn b code) s = done (s.feedReturned b code.toNat)
          ∧ code ∉ ((s.unlose b code.toNat).feed b).lostFeeds)
      ∧ (s.supplyingNow b = [] → (s.feed b).lost = false → exec (.busLost b) s = done (s.busLostNow b)
          ∧ (s.busLostNow b).feed b = { s.feed b with lost := true })
      ∧ ((s.feed b).priority = false → ∀ (d1 d2 : Nat) (lim : Bool),
          exec (.shareEqualise b d1 d2 lim) s = done (s.shareSet b d1 d2 lim)
          ∧ ((s.shareSet b d1 d2 lim).feed b).shareLim = lim)
      ∧ (∀ (m : Master) (v : Word), exec (.feedCfgWrite m b v) s = done (s.regWrite (0x0880 + busNo b) v))
      ∧ (∀ m : Master, exec (.auxEnableWrite m true) s = done (s.regWrite 0x0884 (withFld (s.reg 0x0884) 0 1 1))
          ∧ exec (.auxEnableWrite m false) s = done (s.regWrite 0x0884 (withFld (s.reg 0x0884) 0 1 0)))

/-! ### The port power path -/

/-- R272 to R274, R288, R289, R299: the close sequence from the guard, met once the side to be energised is below vSafe0V and no other
feed supplies a sink's bus, to full enhancement, and what ends it; a sink's ramp admits only ports that await their guard. -/
def Obligations.CloseSequenceRuns : Prop :=
  ∀ (p : Port) (s : State), s.on = true →
    let x := (s.facet p).pp
    let pp := fun (u : State) => (u.facet p).pp
    (x.sw = .guardWait → s.energisedBelow p = true →
        (s.facet p).ct.prole = true ∨ s.otherFeed (s.busOf p) (portNo p + 1) = false →
        exec (.guardMet p) s = done (s.guardPassed p) ∧ (pp (s.guardPassed p)).sw = .ramping
        ∧ (pp (s.guardPassed p)).guardOk = true ∧ (pp (s.guardPassed p)).disch = .off
        ∧ ((s.facet p).ct.prole = true → PortFrame p s (s.guardPassed p))
        ∧ ∀ q, q ≠ p → (s.facet q).pp.sw ≠ .guardWait → (s.guardPassed p).facet q = s.facet q)
      ∧ (x.sw = .guardWait → exec (.guardTimeout p) s = done (s.guardAbandoned p) ∧ UnitFrame [p] s (s.guardAbandoned p)
          ∧ (pp (s.guardAbandoned p)).swCmd = false)
      ∧ (x.sw = .ramping →
          exec (.gateRampEnd p) s = done (s.modPp p fun x => { x with stallRun := true })
          ∧ exec (.swObsRise p) s = done (s.modPp p Pp.closed) ∧ (pp (s.modPp p Pp.closed)).swObs = true
          ∧ (pp (s.modPp p Pp.closed)).stallRun = false ∧ PortFrame p s (s.modPp p Pp.closed))
      ∧ (x.stallRun = true → x.swObs = false → exec (.stallTimeout p) s = done (s.gateStalled p))
      ∧ (x.swCmd = true → x.swObs = true → exec (.gateStall p) s = done (s.gateStalled p))
      ∧ ((pp (s.gateStalled p)).stall = true ∧ (pp (s.gateStalled p)).swCmd = false
          ∧ UnitFrame [p] s (s.gateStalled p))

/-- R280 to R287, R295: regulation starts the fault timer, which stands still when regulation ends and is cleared once 1 ms out of it has
passed; its end trips by the effective fault time for the drop across the pair; a trip opens the gates and leaves TRIPPED with its cause,
and the retry closes again, unless it is a sink no longer listed on its bus, and returns to LIVE. -/
def Obligations.CurrentLimitTripsAndRetries : Prop :=
  ∀ (p : Port) (s : State), s.on = true →
    let x := (s.facet p).pp
    let pp := fun (u : State) => (u.facet p).pp
    (x.sw.conducts = true → x.ilimAct = false → (s.facet p).fstate ≠ .held →
        exec (.ilimEnter p) s = done (s.ilimStart p) ∧ (pp (s.ilimStart p)).ilimAct = true ∧ (pp (s.ilimStart p)).timing = true
          ∧ (pp (s.ilimStart p)).ftSince = some s.cycles ∧ PortFrame p s (s.ilimStart p))
      ∧ (x.sw.conducts = true → x.ilimAct = false → (s.facet p).fstate = .held → exec (.ilimEnter p) s = done (s.ilimEntered p))
      ∧ (x.ilimAct = true → exec (.ilimExit p) s = done (s.ilimEnded p) ∧ (pp (s.ilimEnded p)).ilimAct = false
          ∧ (pp (s.ilimEnded p)).timing = x.timing ∧ (pp (s.ilimEnded p)).ftCount = x.ftNow s.cycles
          ∧ (pp (s.ilimEnded p)).ftSince = none ∧ PortFrame p s (s.ilimEnded p))
      ∧ (x.timing = true → x.ilimAct = false →
          exec (.faultTimerClear p) s = done (s.modPp p fun x => { x with timing := false, ftCount := 0 }))
      ∧ (∀ drop t : Nat, x.timing = true → x.sw.conducts = true → s.faultDue p (20 * drop) = some t →
          s.mode = .sentinel ∨ t ≤ s.nextTick →
          exec (.faultTimerExpiry p drop) s = done ((s.reach t).timerTrip p drop)
          ∧ (x.ftSince ≠ none → x.ftNow t = max x.ftCount (s.faultTime p (20 * drop)))
          ∧ UnitFrame [p] (s.reach t) ((s.reach t).timerTrip p drop)
          ∧ (pp ((s.reach t).timerTrip p drop)).tripCause = if (s.reach t).soaRules p (20 * drop) then 2 else 1)
      ∧ ((s.facet p).fstate = .tripped → x.sw = .retryWait → s.mode = .sentinel ∨ s.retryAt p ≤ s.nextTick →
          exec (.retryOffTimeExpiry p) s = done ((s.reach (s.retryAt p)).reclose p))
      ∧ (((s.reclose p).facet p).fstate = .live ∧ UnitFrame [p] s (s.reclose p)
          ∧ (pp (s.reclose p)).swCmd = ((s.facet p).ct.prole || s.listed (s.busOf p) (portNo p + 1)))
      ∧ (x.swObs = true → x.ilimAct = false →
          exec (.retryCountReload p) s = done (s.modPp p fun x => { x with retryUsed := 0 }))
      ∧ ((s.facet p).fstate = .live → ∀ cause, cause < 4 →
          ((s.trip p cause).facet p).fstate = .tripped ∧ (pp (s.trip p cause)).tripCause = BitVec.ofNat 2 cause
          ∧ (pp (s.trip p cause)).sw.conducts = false ∧ UnitFrame [p] s (s.trip p cause))

/-- R269, R277, R290 to R292, R296: power-good by its window, leaks, the discharge's end, the choice of bus and reverse blocking. -/
def Obligations.PowerPathEventsAct : Prop :=
  ∀ (p : Port) (s : State), s.on = true →
    let x := (s.facet p).pp
    ((s.facet p).fstate ≠ .held → (s.facet p).ct.trans = false → ∀ mv : Nat,
        (x.swObs = true → x.pg = false → (s.facet p).window mv = true →
          exec (.powerGoodAssert p mv) s = done ((s.seeVbus p mv).pgAsserted p) ∧ (((s.seeVbus p mv).pgUp p).facet p).pp.pg = true
          ∧ PortFrame p (s.seeVbus p mv) ((s.seeVbus p mv).pgAsserted p))
        ∧ (x.pg = true → (s.facet p).window mv = false →
          exec (.vbusWindowExit p mv) s = done ((s.seeVbus p mv).pgDown p) ∧ (((s.seeVbus p mv).pgDown p).facet p).pp.pg = false
          ∧ PortFrame p (s.seeVbus p mv) ((s.seeVbus p mv).pgDown p)))
      ∧ (∀ k : LeakKind, UnitFrame [p] s (s.leaked p k) ∧ ((s.leaked p k).facet p).pp.leak = true
          ∧ ((s.leaked p k).facet p).pp.selOpen = true ∧ ((s.leaked p k).facet p).pp.leakNow = some k)
      ∧ (x.swCmd = false → exec (.leak p .gate) s = done (s.leaked p .gate))
      ∧ (x.swCmd = false → (s.facet p).partnerSourcing = false → x.disch ≠ .off → exec (.leak p .vbus) s = done (s.leaked p .vbus))
      ∧ (x.disch = .strong → (s.facet p).fstate ≠ .held →
          exec (.dischargeEnd p) s = done (s.modPp p fun x => { x with disch := .bleeder }))
      ∧ ((s.facet p).cc.attached = true → (s.facet p).ct.prole = false → x.sw.conducts = true →
          exec (.reverseBlock p) s = done (s.reverseBlocked p) ∧ ((s.reverseBlocked p).facet p).pp.revblk = true
          ∧ PortFrame p s (s.reverseBlocked p))
      ∧ (x.revblk = true → exec (.reverseBlockRelease p) s = done (s.modPp p fun x => { x with revblk := false }))
      ∧ (∀ (m : Master) (b : Bus), exec (.ppBusWrite m p b) s
          = done (s.regWrite (fx p 0x142) (withFld (s.reg (fx p 0x142)) 21 1 (busNo b))))

/-! ### The battery -/

/-- R346 to R349, R354, R357: the charge phases, each change where its voltage, its current or its time is reached; a time falls due
before the next tick boundary or in SENTINEL. -/
def Obligations.ChargePhasesChange : Prop :=
  ∀ s : State, s.on = true →
    let b := s.hub.bat
    let ph := fun (u : State) => u.hub.bat.phase
    let by' := fun t => s.mode = .sentinel ∨ t ≤ s.nextTick
    (∀ c, s.chargeReady = some c → exec .chargeStart s = done (s.startCharge c)
        ∧ ph (s.startCharge c) = (if s.sense.bat < s.cells * s.preMv then .precharge else .cc) ∧ UnitFrame [] s (s.startCharge c))
      ∧ (b.phase = .precharge → (∀ mv : Nat, s.cells * s.preMv ≤ mv →
            exec (.prechargeComplete mv) s = done ((s.seeBat mv).setPhase .cc) ∧ ph ((s.seeBat mv).setPhase .cc) = .cc)
          ∧ (by' s.preLimit → exec .prechargeTimeout s = done (s.reach s.preLimit).chargeTimedOut))
      ∧ (b.phase = .cc → ∀ mv : Nat, s.packVchg ≤ mv → exec (.chargeCvEntry mv) s = done ((s.seeBat mv).setPhase .cv)
          ∧ ph ((s.seeBat mv).setPhase .cv) = .cv)
      ∧ (b.phase = .cc ∨ b.phase = .cv → (by' s.chgLimit → exec .chargeTimeout s = done (s.reach s.chgLimit).chargeTimedOut)
          ∧ (b.full = false → s.storeSoc ≤ b.soc → exec .storeSocReached s = done s.chargeDone ∧ ph s.chargeDone = .done))
      ∧ (ph s.chargeTimedOut = .timeout ∧ UnitFrame [] s s.chargeTimedOut ∧ UnitFrame [] s s.chargeDone)
      ∧ (b.phase = .cv → ∀ t, b.cvLow = some t → by' (t + 5760000000) →
          exec .cvTermination s = done (s.reach (t + 5760000000)).cvTerminated)
      ∧ (ph s.cvTerminated = .done ∧ s.cvTerminated.hub.bat.full = false ∧ UnitFrame [] s s.cvTerminated)
      ∧ (s.hub.cv1.charge = true ∨ s.hub.cv2.charge = true → exec .batteryRemovalEdge s = done s.removalEdge
          ∧ ph s.removalEdge = .suspended ∧ s.removalEdge.hub.bat.requalify = true ∧ UnitFrame [] s s.removalEdge)

/-- R336, R340, R341, R345, R353, R358: the battery's states, its temperature and its removal, each after the ticks or the time that its
condition must last. -/
def Obligations.BatteryStatesChange : Prop :=
  ∀ s : State, s.on = true →
    let b := s.hub.bat
    (b.st ≠ .absent → b.st ≠ .unconfigured → 3 ≤ b.goneT → exec .batteryRemovalConfirm s = done s.removeBat)
      ∧ (b.st = .absent → s.absentReading = false → ∀ mv : Nat, 2000 ≤ mv →
          exec (.batteryInserted mv) s = done (((s.seeBat mv).orReg 0x08CF (flag 1 true)).setBat .qualifying))
      ∧ (b.st = .qualifying ∨ b.requalify = true → ∀ t, b.okSince = some t → s.mode = .sentinel ∨ t + 192000000 ≤ s.nextTick →
          exec .batteryQualified s = done (s.reach (t + 192000000)).batQualified)
      ∧ (b.st = .present → 16 ≤ b.lowT → exec .batteryDepleted s = done s.batDepleted)
      ∧ (b.st = .depleted → 16 ≤ b.highT → exec .batteryRecovered s = done (s.setBat .present))
      ∧ (b.st = .present ∨ b.st = .depleted → 3 ≤ b.ovT → exec .batteryOvervoltageFault s = done (s.batFault true))
      ∧ (b.st = .present ∨ b.st = .depleted ∨ b.st = .qualifying → ∀ mv : Nat, mv < s.cells * s.damageMv →
          exec (.batteryDeepDischarge mv) s = done (s.seeBat mv).batDeep)
      ∧ (∀ t : Int, t < -40 ∨ 100 < t → 3 ≤ b.ntcT → exec (.ntcFault t) s = done (s.ntcFailed t))
      ∧ (∀ k : BitVec 3, k = b.bandSeen → 16 ≤ b.bandT → k ≠ b.band → exec (.bandChange k) s = done (s.bandTo k))
      ∧ (∀ x : BatState, (s.setBat x).hub.bat.st = x ∧ UnitFrame [] s (s.setBat x))
      ∧ (∀ u, u = s.removeBat ∨ u = s.batDepleted ∨ u = s.batFault true ∨ u = s.batDeep → UnitFrame [] s u)

/-- R350, R351, R355, R359, R360, R386: one gauge sample moves the counted charge within 0 to `FCC` and delays the ADC's main path, one
at the end of the scale is replaced by the last valid one, a rest correction sets the charge from the table, and the lockout latches until
an input other than the battery is valid. -/
def Obligations.GaugeCountsAndLocksOut : Prop :=
  ∀ s : State,
    (s.on = true → s.gaugePath = true → s.mode = .sentinel ∨ s.hub.bat.sampleAt ≤ s.nextTick → ∀ i : Int,
        exec (.gaugeSample i) s = done ((s.reach s.hub.bat.sampleAt).gaugeSampled i))
      ∧ (∀ i : Int, (s.gaugeSampled i).hub.bat.lastMa = (if i.natAbs < 16380 then i else s.hub.bat.lastMa)
          ∧ s.gaugeSampled i = { s with hub := (s.gaugeSampled i).hub, adc := (s.gaugeSampled i).adc })
      ∧ (∀ (b : Bat) (q : Int), (b.flow q).qrem ≤ b.part 1000 ∧ (b.flow q).counted = b.counted - q
          ∧ (0 ≤ (b.qrem : Int) - q → (b.qrem : Int) - q ≤ (b.part 1000 : Int) → ((b.flow q).qrem : Int) = b.qrem - q))
      ∧ (s.on = true → s.gaugeOn = true → s.mode ≠ .sentinel → ∀ t, s.hub.bat.restSince = some t → t + 691200000000 ≤ s.nextTick →
          ∀ v : Nat, exec (.restCorrection v) s
            = done (((s.reach (t + 691200000000)).restCorrected v).modBat fun b =>
                { b with restSince := some (s.reach (t + 691200000000)).cycles })
          ∧ ((s.reach (t + 691200000000)).restCorrected v).hub.bat.gaugeValid = true)
      ∧ (s.on = true → s.hub.bat.st = .depleted → s.noFeedInput = true → s.bit 0x08C0 12 = true → s.bow = false →
          exec .lockout s = done s.lockedOut)
      ∧ (s.hub.bat.lockoutLatch = true → s.noFeedInput = false →
          ∃ t, exec .lockoutRelease s = .next t ∧ t.hub.bat.lockoutLatch = false)
      ∧ (s.noFeedInput = true → exec .lockoutRelease s = .next s)

/-! ### CC and attach -/

/-- R174 to R178, R182, R183, R187, R190: each row of the CC pins acts where its timer or its state runs, a debounce only while the
comparators are not ignored (R176), and a VCONN overcurrent turns VCONN off and latches. -/
def Obligations.CcRowsAct : Prop :=
  ∀ (p : Port) (s : State), s.on = true →
    let c := (s.facet p).cc
    (s.mode ≠ .sentinel → (∀ v : Pins, pinsBelow p v = true → exec (.ccLevelChange p v) s = done (s.ccLevels p v))
        ∧ ∀ below : Bool, exec (.vbusVsafe0vCrossing p below) s = done (s.vbusCross p below))
      ∧ (s.ccMuted p = false →
          (c.ccDeb = true → exec (.ccDebounceExpiry p) s = done (s.ccTimer p .ccDebounce))
          ∧ (c.pdDeb = true ∨ ((c.ov1 = true ∨ c.ov2 = true) ∧ c.attached = true) →
              exec (.pdDebounceExpiry p) s = done (s.ccTimer p .pdDebounce))
          ∧ (c.tryDeb = true → exec (.tryCcDebounceExpiry p) s = done (s.ccTimer p .tryCcDebounce))
          ∧ (c.rpDeb = true → exec (.rpValueChangeExpiry p) s
              = done ((s.modCc p fun c => { c with rpDeb := false }).orReg (fx p 0x042) 8)))
      ∧ (s.ccMuted p = true → ∀ i ∈ [Instr.ccDebounceExpiry p, .pdDebounceExpiry p, .tryCcDebounceExpiry p, .rpValueChangeExpiry p],
          exec i s = .next s)
      ∧ (c.tc = .trySrc ∨ c.tc = .trySnk ∨ c.tc = .tryWaitSrc → c.tryDone = false →
          exec (.drpTryExpiry p) s = done (s.ccTimer p .drpTry))
      ∧ (c.tc = .tryWaitSnk → exec (.drpTryWaitExpiry p) s = done (s.ccTimer p .drpTryWait))
      ∧ ((s.facet p).drp = true → c.tc = .unattachedSnk ∨ c.tc = .unattachedSrc →
          exec (.drpPhaseEnd p) s = done (s.ccTimer p .drpPhase))
      ∧ (c.tc = .errorRecovery → exec (.errorRecoveryExpiry p) s = done (s.ccTimer p .errorRecovery)
          ∧ ((s.facet p).fstate ≠ .held → s.ccTimer p .errorRecovery
              = s.enterTc p (if (s.facet p).cfg.role = 1 then .unattachedSrc else .unattachedSnk)))
      ∧ (s.vbusOk.get p = false → c.tc = .attachedSnk → exec (.sinkVbusInvalid p) s = done (s.ccTimer p .vbusGone))
      ∧ (∀ (m : Master) (l : BitVec 2), exec (.rpLevelWrite m p l) s
          = done (s.regWrite (fx p 0x040) (withFld (s.reg (fx p 0x040)) 0 2 l.toNat)))
      ∧ (∀ pin : CcPin, exec (.ccOvervoltage p pin) s = done (s.ccOver p pin)
          ∧ exec (.ccOvervoltageClear p pin) s = done (s.ccOverEnd p pin))
      ∧ (c.vconnOn = true → ∀ i : Nat, exec (.vconnOvercurrent p i) s = done (s.vconnTrip p i)
          ∧ ((s.vconnTrip p i).facet p).cc.vconnOn = false ∧ ((s.vconnTrip p i).facet p).cc.vconnOc = true
          ∧ UnitFrame [p] s (s.vconnTrip p i))
      ∧ (∀ (t : CcTimer) (x : TcState) (v : Pins) (below : Bool),
          UnitFrame [p] s (s.ccTimer p t) ∧ PortFrame p s (s.enterTc p x) ∧ PortFrame p s (s.ccLevels p v)
            ∧ UnitFrame [p] s (s.vbusCross p below))

/-- R125: in a hold no CC timer acts: what runs out waits for the release, but for DRP toggling, which
stands still, and for R190's tPDDebounce of a CC over-voltage, whose end is noted. -/
def Obligations.HoldFreezesCc : Prop :=
  ∀ (p : Port) (t : CcTimer) (s : State), (s.facet p).fstate = .held →
    (t = .drpPhase → s.ccTimer p t = s)
      ∧ (t = .pdDebounce → (s.facet p).cc.pdDeb = false →
          (s.ccTimer p t).facet p = { s.facet p with cc := { (s.facet p).cc with ovLong := (s.facet p).cc.ovLong
            || (s.facet p).ovAttached } } ∧ ∀ q, q ≠ p → (s.ccTimer p t).facet q = s.facet q)
      ∧ (t ≠ .drpPhase → (t = .pdDebounce → (s.facet p).cc.pdDeb = true) →
          ((s.ccTimer p t).facet p).rc.late = (s.facet p).rc.late ++ [t]
          ∧ ((s.ccTimer p t).facet p).cc = (s.facet p).cc ∧ ((s.ccTimer p t).facet p).pp = (s.facet p).pp
          ∧ ∀ q, q ≠ p → (s.ccTimer p t).facet q = s.facet q)

/-! ### USB Power Delivery -/

/-- A row of a received message, but for `VCONN_SWAP_RX`, which carries besides what a probe of the other pin reads. -/
def IsRxRow (row : Port → PdMsg → Instr) : Prop :=
  row ∈ [.sourceCapabilitiesRx, .requestRx, .eprRequestRx, .acceptRx, .rejectRx, .waitRx, .psRdyRx, .softResetRx, .prSwapRx
  , .drSwapRx, .frSwapRx, .getSourceCapRx, .getSinkCapRx, .eprModeRx
  , .eprKeepaliveRx, .getPpsStatusRx, .structuredVdmRx, .vdmResponseRx, .enterModeRx, .exitModeRx, .bistRx, .getRevisionRx
  , .getSourceInfoRx, .securityRequestRx, .firmwareMessageRx, .extendedChunkRx, .unchunkedExtendedRx, .unsupportedMessageRx]

/-- R190, R200, R202 to R206, R218, R227: every row of a received message is received, whatever waits to be sent and in whatever state the
facet is: a message the facet does not receive changes nothing, one of specification revision 0 is acknowledged and discarded, a message
of the facet's own not yet started on that ordered set is discarded, a duplicate is acknowledged and otherwise ignored, and any other is
handled by its kind, which its own header gives, or in a hold by the keeper; what waits to be sent then goes on. -/
def Obligations.ReceivedMessagesAreHandled : Prop :=
  ∀ (p : Port) (m : PdMsg) (s : State),
    (s.on = true → (∀ row, IsRxRow row → exec (row p m) s = done (s.rx p m))
        ∧ ∀ ra : Bool, exec (.vconnSwapRx p m ra) s = done ((s.seeProbe p ra).rx p m))
      ∧ (s.receives p m.sop = true ↔ (s.facet p).cc.attached = true ∧ (s.facet p).pd.pdEn = true ∧ (s.facet p).pd.mute = false
          ∧ (s.facet p).pd.hrSending = false ∧ (s.facet p).isolated = false
          ∧ (m.sop = .sop ∨ ((s.facet p).ct.vconnSrc = true ∧ s.bit (fx p 0x080) 1 = true)))
      ∧ (s.receives p m.sop = false → s.rx p m = s)
      ∧ (s.receives p m.sop = true → m.rev = 0 →
          s.rx p m = (s.hush p).modPd p fun d => { d with goodCrc := some (m.sop, m.id) })
      ∧ (s.receives p m.sop = true → m.rev ≠ 0 →
          let noted := (s.hush p).noteMsg p m
          let n := noted.discardQueued p m.sop
          let known := (n.facet p).pd.repeats m.sop m.id = true ∧ rxKind m ≠ .softReset
          let testing := (n.facet p).pd.bistData = true ∧ m.sop = .sop
          let fresh := n.modPd p fun d => { d with rxId := d.rxId.set m.sop m.id, rxSeen := d.rxSeen.set m.sop true }
          (noted.facet p).pd.goodCrc = some (m.sop, m.id) ∧ (noted.facet p).pd.hrCount = 0
            ∧ (noted.facet p).pd.partner = ((s.facet p).pd.partner || decide (m.sop = .sop)) ∧ PortFrame p s noted
            ∧ (noted.facet p).pd.seq = (s.facet p).pd.seq ∧ (noted.facet p).ct = (s.facet p).ct
            ∧ (noted.facet p).pp = (s.facet p).pp
            ∧ (∀ x ∈ (n.facet p).pd.queue, x.sop ≠ m.sop)
            ∧ (known ∨ testing → s.rx p m = n)
            ∧ (¬ known → ¬ testing → (fresh.facet p).pd.rxId.get m.sop = m.id
                ∧ s.rx p m = (((if (fresh.facet p).fstate = .held then fresh.keeper p m else fresh.handleMsg p m).modPd p
                    fun d => { d with fwDue := none, fwAsk := false }).idleTx p)))

/-- R127: in a hold the keeper answers a Request with Wait, keeps a Soft_Reset in place of any message deferred before it,
and touches neither switch nor contract. -/
def Obligations.KeeperAnswersInAHold : Prop :=
  ∀ (p : Port) (m : PdMsg) (s : State), (m.sop ≠ .sop → s.keeper p m = s) ∧ PortFrame p s (s.keeper p m) ∧ (m.sop = .sop →
    (rxKind m = .request → s.keeper p m
        = (if (s.facet p).pd.seq = .srcOffer then s.endSeq p else s).send p (mkCtl .sop 0x0C))
      ∧ (rxKind m = .softReset → ((s.keeper p m).facet p).rc.deferred = some m)
      ∧ (rxKind m ≠ .request → rxKind m ≠ .softReset → needsAnswer m = true →
          (∀ x, (s.facet p).rc.deferred = some x → rxKind x = .softReset → ((s.keeper p m).facet p).rc.deferred = some x)
          ∧ ((s.facet p).rc.deferred = none → ((s.keeper p m).facet p).rc.deferred = some m)
          ∧ (∀ x, (s.facet p).rc.deferred = some x → rxKind x ≠ .softReset → ((s.keeper p m).facet p).rc.deferred = some m))
      ∧ (rxKind m ≠ .request → rxKind m ≠ .softReset → needsAnswer m = false → s.keeper p m = s)
      ∧ (((s.keeper p m).facet p).pp = (s.facet p).pp ∧ ((s.keeper p m).facet p).ct = (s.facet p).ct
          ∧ ((s.keeper p m).facet p).fstate = (s.facet p).fstate))

/-- R190, R201, R205, R210, R211, R217 to R219: acknowledgement, resends, the firmware's buffers and chunk timeouts. -/
def Obligations.PdTransmissionProceeds : Prop :=
  ∀ (p : Port) (s : State), s.on = true →
    let d := (s.facet p).pd
    (∀ m, d.inFlight = some m →
        ((s.facet p).isolated = false → d.hrSending = false → exec (.goodcrcReceived p m.sop m.id) s = done (s.goodCrc p m))
        ∧ (∀ sp id, m.sop ≠ sp ∨ m.id ≠ id ∨ (s.facet p).isolated = true ∨ d.hrSending = true →
            exec (.goodcrcReceived p sp id) s = .next s)
        ∧ exec (.goodcrcTimeout p) s = done (s.noGoodCrc p m)
        ∧ (m.resends < (if (s.facet p).rev2 then 3 else 2) → ((s.noGoodCrc p m).facet p).pd.inFlight = some { m with resends := m.resends + 1 }
            ∧ ((s.noGoodCrc p m).facet p).pd.txId = d.txId))
      ∧ ((s.facet p).cc.attached = true → d.pdEn = true → (s.facet p).isolated = false →
          exec (.crcErrorPacket p) s = done ((s.count (fx p 0x083) 0 16).orReg (fx p 0x082) 0x400))
      ∧ (∀ (m : Master) (v : Word), exec (.pdTxctl m p v) s = done (s.txctl p v))
      ∧ (∀ m : Master, exec (.releaseRxBuffer m p) s = done (s.rxRelease p) ∧ ((s.rxRelease p).facet p).pd.rxFull = false
          ∧ PortFrame p s (s.rxRelease p))
      ∧ (d.fwAwait = true → ∃ u, exec (.fwResponseTimeout p) s = done (u.notSupported p d.rxSop) ∧ (u.facet p).pd.fwAwait = false
          ∧ PortFrame p s u)
      ∧ (d.chunkTx.isSome = true ∨ d.chunkRx.isSome = true → exec (.chunkTimeout p) s = done (s.chunkFailed p))
      ∧ (d.bistCarrier = true → exec (.bistCarrierEnd p) s = done (s.modPd p fun d => { d with bistCarrier := false }))

/-- R136, R190, R222 to R227, R255: Hard Reset signalling, its recovery as source and as sink, and the FR_Swap signal, which aborts a
hold first. -/
def Obligations.HardResetProceeds : Prop :=
  ∀ (p : Port) (s : State), s.on = true →
    let d := (s.facet p).pd
    ((s.facet p).cc.attached = true → (s.facet p).isolated = false →
        (d.pdEn = true → exec (.hardResetRx p) s = done (s.hardResetIn p))
        ∧ ((s.facet p).fstate ≠ .held → exec (.frSwapSignal p) s = done (s.onFrSignal p))
        ∧ ((s.facet p).fstate = .held → exec (.frSwapSignal p) s = done ((s.abortHold p 2).onFrSignal p)))
      ∧ (d.hrSending = true → exec (.hardResetSignallingEnd p) s = done (s.hardResetEnd p true false)
          ∧ UnitFrame [p] s (s.hardResetEnd p true false))
      ∧ (d.hrPhase = 1 → exec (.hrSourceOff p) s = done (s.hrOff p) ∧ ((s.hrOff p).facet p).pd.hrPhase = 2
          ∧ ((s.hrOff p).facet p).pp.swCmd = false)
      ∧ (d.hrPhase = 2 → exec (.hrVsafe0vReached p) s = done (s.modPp p fun x => { x with below := true })
          ∧ exec (.hrRecoveryEnd p) s = done (s.hrRecovered p))
      ∧ (d.hrSink = true → exec (.hrSinkGraceEnd p) s = done (s.hrGraceEnd p)
          ∧ (s.vbusOk.get p = true → ((s.hrGraceEnd p).facet p).pd.hrSink = false))
      ∧ (s.frsArmed p = false → s.onFrSignal p = s)

/-- R207, R221, R234, R241 to R250, R252, R253, R255, R258: each protocol timer in the sequence in which it runs. -/
def Obligations.PdTimersAct : Prop :=
  ∀ (p : Port) (s : State), s.on = true →
    let f := s.facet p
    (f.pd.seq = .softReset → exec (.softResetAcceptTimeout p) s = done (s.softResetUnanswered p))
      ∧ (f.pd.seq ≠ .softReset → f.pd.srCable.isSome = true →
          exec (.softResetAcceptTimeout p) s = done (s.cableResetUnanswered p))
      ∧ (f.pd.txWait = true → exec (.sinkTxWaitExpiry p) s = done ((s.modPd p fun d => { d with txWait := false }).idleTx p))
      ∧ (s.capsDue p = true → exec (.sourceCapRepeat p) s = done (s.sendCaps p))
      ∧ (f.pd.seq = .snkSelect → exec (.snkSelTimeout p) s = done (s.sendChoice p (s.safeReq p))
          ∧ (s.busAllows5 p = true → s.safeReq p = some (s.requestFor p 1 (f.ct.srcCaps.getD 0 0) false)))
      ∧ (∀ r, (f.pd.seq = .snkRetry r → exec (.sinkRequestRetry p) s = done (s.sendChoice p (s.retryReq p r) true))
          ∧ (f.pd.seq = .snkAccepted r → exec (.psTransitionTimeout p) s = done (s.orderHardReset p 6))
          ∧ (f.pd.seq = .srcWait r → exec (.srcTransitionStart p) s = done (s.transition p r))
          ∧ (f.pd.seq = .srcRamp r →
              (∀ mv : Nat, s.hasSettled p r mv = true → exec (.transitionSettled p mv) s = done ((s.seeVbus p mv).settled p r))
              ∧ exec (.transitionTimeLimit p) s = done (s.transitionLimit p)))
      ∧ (f.ct.prole = true → f.ct.contract = true → f.ct.now.pps = true →
          exec (.ppsTimeout p) s = done ((s.orReg (fx p 0x107) 8).orderHardReset p 2))
      ∧ (f.ct.epr = true →
          (f.ct.prole = true → exec (.sourceEprKeepaliveTimeout p) s = done ((s.orReg (fx p 0x107) 16).orderHardReset p 3))
          ∧ (f.ct.prole = false → exec (.sinkEprKeepaliveSend p) s = done (s.send p (mkExt .sop 0x10 2 [3]).initiate)))
      ∧ (s.cableOpen p = true → exec (.discoverIdentityRetry p) s = done (s.cableRetry p))
      ∧ (f.cc.attached = true → f.ct.prole = false → f.ct.srcCaps = [] →
          exec (.sinkWaitCapTimeout p) s = done (s.orderHardReset p 6))
      ∧ (f.pd.seq = .prs .srcWait → exec (.prSwapSourceOff p) s = done (s.prsOff p))
      ∧ (f.pd.seq = .prs .srcOff → exec (.prSwapVsafe0v p) s = done (s.prsZero p))
      ∧ (f.pd.seq = .prs .snkWait ∨ f.pd.seq = .prs .srcPsRdy → exec (.prSwapTimeout p) s = done (s.swapFailed p f.swapKind))
      ∧ (f.pd.seq = .vcs .waitPsRdy →
          exec (.vconnSwapTimeout p) s = done (((s.postSwap p 3 false).endSeq p).orderHardReset p 5))
      ∧ (f.pd.seq = .frs .recognised ∨ f.pd.seq = .frs .waitPsRdy → exec (.frSwapTimeout p) s = done (s.swapFailed p 2))

/-! ### Monitors, ADC and faults -/

/-- R368, R372, R374, R375, R379: an edge of a settled comparator, at a level of its net that can cause it (R365, R366, R563), shows at its
output and leaves the monitor's other comparator as it is; a SAMPLED monitor is latched in its sample window, and each other row of the
monitors acts. -/
def Obligations.MonitorsFollowTheirNets : Prop :=
  ∀ (k : Fin 32) (s : State), s.on = true →
    (∀ (high rising : Bool) (level : Int), s.wmOn k high = true → s.wmSettling k high = false → s.wmGrade k ≠ 5 →
        s.wmOut k high ≠ rising → s.wmMay k high rising level = true →
        exec (.wmComparatorEdge k high rising level) s = done (s.wmEdge k high rising)
        ∧ (s.mode ≠ .sentinel → (s.wmEdge k high rising).wmOut k high = rising
            ∧ (s.wmEdge k high rising).wmOut k (!high) = s.wmOut k (!high)))
      ∧ (∀ (hi lo : Bool) (level : Int), s.wmShows k true hi level = true → s.wmShows k false lo level = true →
          (s.wmGrade k = 5 → s.latching k = true →
            exec (.sampledMonitorSample k hi lo level) s = done (s.sampled k hi lo)
            ∧ (s.burst = none → s.toLatch.cycles = max s.cycles s.mon.latchAt))
          ∧ (s.wmGrade k ≠ 5 → s.wmSettling k true = true ∨ s.wmSettling k false = true →
            exec (.wmSettleEnd k hi lo level) s = done (s.wmSettled k hi lo)))
      ∧ (∀ (m : Master) (v : Word), exec (.wmThresholdWrite m k v) s = done (s.regWrite (0x0401 + 4 * k) v)
          ∧ exec (.wmCfgWrite m k v) s = done (s.regWrite (0x0400 + 4 * k) v))

/-- R405, R415, R416, R421: an acknowledgement with the unit's sequence count, or with bit 31, clears exactly the pending
classes it names and any other changes nothing but its own flag; a read takes the oldest entry of the history. -/
def Obligations.FaultUnitsAnswer : Prop :=
  ∀ (u : Fin 6) (s : State), s.on = true →
    (∀ (m : Master) (v : Word),
        exec (.fltAck m u v) s = done (s.fltAck u v)
        ∧ (v.getLsbD 31 = true ∨ fld v 16 8 = (s.flt u).seq.toNat →
            ((s.fltAck u v).flt u).pend = (s.flt u).pend &&& ~~~ v.setWidth 16
            ∧ (∀ c : Fin 16, ((s.fltAck u v).flt u).pLvl c = if v.getLsbD c then 0 else (s.flt u).pLvl c) ∧ ((s.fltAck u v).flt u).hist = (s.flt u).hist
            ∧ UnitFrame [] s (s.fltAck u v) ∧ ∀ w : Fin 6, w ≠ u → (s.fltAck u v).flt w = s.flt w)
        ∧ (v.getLsbD 31 = false → fld v 16 8 ≠ (s.flt u).seq.toNat → s.fltAck u v = s.orReg (unitBase u) 0x00080000))
      ∧ (∀ m : Master, exec (.fltHistRead m u) s = done (s.histPop u) ∧ ((s.histPop u).flt u).hist = (s.flt u).hist.tail
          ∧ (s.histPop u).posts = s.posts)
      ∧ (∀ (m : Master) (n : Fin 3) (v : Word), exec (.fltSenWrite m u n v) s = done (s.regWrite (unitBase u + 0xA + n) v))
      ∧ (∀ (m : Master) (v : Word), exec (.busCapAck m v) s = done (s.capAck v))
      ∧ (∀ src : Byte, s.windowOver u src = true → ∃ t, exec (.faultWindowClose u src) s = done t
          ∧ (t.flt u).pend = (s.flt u).pend ∧ (t.flt u).hist = (s.flt u).hist)

/-! ### The measuring ADC -/

/-- R20, R388 to R390, R393, R397, R398: once an image has control, START in the single mode runs the sequence and one that finds it
running is missed, STOP discards the result in progress, a result comes at its cycle and enters a FIFO that never holds more than 64
entries, and a read takes the oldest. -/
def Obligations.AdcRowsAct : Prop :=
  ∀ s : State, s.on = true →
    let a := s.adc
    (∀ m : Master,
        (s.imgAuth = false → exec (.adcStart m) s = done s)
        ∧ (s.imgAuth = true → a.running = true ∨ a.armed = true → exec (.adcStart m) s = done (s.orReg 0x0502 4))
        ∧ (s.imgAuth = true → a.running = false → a.armed = false → a.mode ≠ 2 → exec (.adcStart m) s = done (s.adcStep 0 true))
        ∧ (s.imgAuth = true → a.running = false → a.armed = false → a.mode = 2 →
            exec (.adcStart m) s = done { s with adc := { a with armed := true } })
        ∧ exec (.adcStop m) s = done s.adcStop ∧ s.adcStop.adc.running = false ∧ s.adcStop.adc.fifo = a.fifo
        ∧ exec (.adcFifoRead m) s = done s.adcPop ∧ s.adcPop.adc.fifo = a.fifo.tail
        ∧ (∀ c u : Bool, s.busRead m 0x0504 c u = (match a.fifo with | e :: _ => e.w0 | [] => 0, s.adcPop))
        ∧ (∀ e ∈ a.fifo.head?, s.adcPop.adc.w1 = e.w1) ∧ (a.fifo = [] → s.adcPop = s)
        ∧ ∀ (n : Fin 8) (v : Word), exec (.adcSeqWrite m n v) s = done (s.regWrite (0x0508 + n) v))
      ∧ (∀ (code : BitVec 12) (rail : Bool),
          (∀ level : Int, a.running = true → a.settle.1 ≠ 0 ∨ s.adcMay code level = true → s.mode = .sentinel ∨ a.due ≤ s.nextTick →
            exec (.adcResult code rail level) s = done ((s.reach a.due).adcResult code rail))
          ∧ (a.fifo.length < 63 → (s.adcPush (a.word0 code rail)).adc.fifo = a.fifo ++ [⟨a.word0 code rail, s.stamp⟩])
          ∧ (a.fifo.length ≤ 64 → (s.adcPush (a.word0 code rail)).adc.fifo.length ≤ 64)
          ∧ ∀ u, u = s.adcResult code rail ∨ u = s.adcPop ∨ u = s.adcStop ∨ u = s.adcStep 0 true → u = { s with adc := u.adc, regs := u.regs })

/-! ### The loader -/

/-- The loader's opcodes. -/
def loaderRows : List ((Master → Half → Instr) × Nat) :=
  [(.erase, 1), (.openWrite, 2), (.closeWrite, 3), (.verify, 4), (.commit, 5)]

/-- R107 to R109, R113, R115, R117, R142, R556: a loader command is lost while one is outstanding, waits while a prepare or a
hold runs, is refused for its argument and the device mode in that order, and otherwise starts to run or is refused by its
preconditions; `CLOSE_WRITE` ignores its argument; a `CFG_DATA` write without a session is a bus error. -/
def Obligations.LoaderCommandsAct : Prop :=
  ∀ s : State, s.on = true →
    (∀ row ∈ loaderRows, ∀ (m : Master) (a : Half),
        let named := row.2 = 3 ∨ (a.toNat % 4 ≠ 3 ∧ a.toNat < 24)
        (s.ldr.cmd.isSome = true ∨ s.ldr.waiting.isSome = true → exec (row.1 m a) s = done (s.orReg 0x0200 0x20))
        ∧ (s.ldr.cmd = none → s.ldr.waiting = none → s.liveBusy = true →
            ∃ u, exec (row.1 m a) s = done u ∧ u.ldr.waiting = some (m, fw 8 row.2 ||| fw 16 a.toNat) ∧ u.ldr.cmd = none)
        ∧ (s.ldr.cmd = none → s.ldr.waiting = none → s.liveBusy = false →
            (¬ named → exec (row.1 m a) s = done (s.cfgResult m .refused .badCmd))
            ∧ (named → s.mode ≠ .standby → s.mode ≠ .run → s.mode ≠ .safe →
                exec (row.1 m a) s = done (s.cfgResult m .refused .deviceMode))
            ∧ (named → s.mode = .standby ∨ s.mode = .run ∨ s.mode = .safe → ∀ op ∈ ldrOpOf row.2,
                (s.cfgRefused op (a.toNat % 4) (a.toNat / 4 % 8) m = true → exec (row.1 m a) s = done (s.cfgResult m .refused .precondition))
                ∧ (s.cfgRefused op (a.toNat % 4) (a.toNat / 4 % 8) m = false →
                    exec (row.1 m a) s = done (s.cfgStart op (a.toNat % 4) (a.toNat / 4 % 8) m)))))
      ∧ (∀ (c : LdrCmd) (r : ArrayResult), s.ldr.cmd = some c → exec (.loaderCommandDone r) s = done (s.cfgDone r))
      ∧ (∀ (m : Master) (v : Word), exec (.cfgDataWrite m v) s = done (s.cfgData m v)
          ∧ (s.ldr.session = none → s.cfgData m v = s.busError 0x0203 (masterId m) true 2 5)
          ∧ exec (.cfgSelWrite m v) s = done (s.cfgSel v))

/-! ### NVM and the ageing ledger -/

/-- R510 to R513, R515, R541, R544 to R549, R556: the NVM controller's commands in the modes and states that take them, its
running operation's end, the window, a scrub step that is due, and the ledger's rows. -/
def Obligations.NvmRowsAct : Prop :=
  ∀ s : State, s.on = true →
    (∀ (m : Master) (a : Half),
        (a ≠ 0 → exec (.flush m a) s = done (s.nvmResult m .refused .badCmd) ∧ exec (.discard m a) s = done (s.nvmResult m .refused .badCmd))
        ∧ (s.mode ≠ .standby → s.mode ≠ .run → s.mode ≠ .safe → ∀ i ∈ [Instr.flush m 0, .discard m 0, .nvmErase m a],
            exec i s = done (s.nvmResult m .refused .deviceMode))
        ∧ (s.mode = .standby ∨ s.mode = .run ∨ s.mode = .safe →
            (s.nvm.flushing = true → ∀ i ∈ [Instr.flush m 0, .discard m 0, .nvmErase m a], exec i s = done (s.nvmResult m .refused .precondition))
            ∧ (s.nvm.flushing = false →
                (s.nvm.buf.isSome = true → exec (.flush m 0) s = done ((s.nvmQueue (.flush (some m))).setReg 0x0603 (pendingWord 0 m)))
                ∧ (s.nvm.buf = none → exec (.flush m 0) s = done (s.nvmResult m .refused .precondition))
                ∧ (∃ u, exec (.discard m 0) s = done u ∧ u.nvm = { s.nvm with buf := none })
                ∧ (a.toNat < 0xE100 → exec (.nvmErase m a) s = done (s.nvmResult m .refused .precondition))
                ∧ (0xE100 ≤ a.toNat → ∃ u, exec (.nvmErase m a) s = done u ∧ u.nvm.ops = queueOp (.eraseUser a.toNat m) s.nvm.ops))))
      ∧ (∀ (o : NvmOp) (l : List NvmOp) (r : ArrayResult), s.nvm.ops = o :: l →
          exec (.nvmOperationDone r) s = done (({ s with nvm := { s.nvm with ops := l } }).opDone r o))
      ∧ (∀ (m : Master) (w : BitVec 15) (v : Word) (c u : Bool), exec (.nvmWindowWrite m w v) s = done (s.winWrite m w.toNat v)
          ∧ exec (.nvmWindowRead m w c u) s = done (s.winRead (masterId m) w.toNat c u)
          ∧ (s.winAddr w.toNat < userBase → s.winWrite m w.toNat v = s.busError (0x8000 + w.toNat) (masterId m) true 2 3)
          ∧ UnitFrame [] s (s.winWrite m w.toNat v) ∧ UnitFrame [] s (s.winRead (masterId m) w.toNat c u))
      ∧ (∀ b p : Byte, s.scrubDue b.toNat p.toNat = true →
          exec (.scrubStep b p) s = done (s.nvmQueue (.scrub b.toNat (256 * b.toNat + p.toNat))))
      ∧ (∀ ron osc t, exec (.ledgerHour ron osc t) s = done (s.ledgerHour ron osc t))
      ∧ (∀ m : Master, (s.mode ≠ .boot → s.mode ≠ .sentinel → exec (.save m) s = done s.ledgerSave)
          ∧ (s.mode = .boot ∨ s.mode = .sentinel → exec (.save m) s = done s))
      ∧ (s.mode ≠ .boot → s.mode ≠ .sentinel → (s.reg 0x0020).toNat % 8 = 0 → exec .ledgerPeriodicSave s = done s.ledgerSave)
      ∧ (s.mode = .run → s.hub.bat.st ≠ .unconfigured → exec .gaugeRecordHour s = done s.gaugeRecord)

/-- R511, R512: a window write to the user area goes into the buffer, which is loaded with the addressed page where it is
empty; with another page in it, or while a flush runs or waits, the write is discarded and sets `WR_LOST`; a window read of
the page in the buffer returns the buffered contents. -/
def Obligations.WindowGoesThroughTheBuffer : Prop :=
  ∀ (w : BitVec 15) (m : Master) (v : Word) (s : State), userBase ≤ s.winAddr w.toNat →
    let a := s.winAddr w.toNat
    let u := s.winWrite m w.toNat v
    (s.nvm.flushing = false → s.nvm.buf = none →
        u.nvm.buf = some (a / 256, setWordAt (s.nvmBytes (256 * (a / 256)) 256) (a % 256) v)
        ∧ (u.regView 0x0601).getLsbD 1 = true ∧ fld (u.regView 0x0601) 16 16 = a / 256)
      ∧ (s.nvm.flushing = false → ∀ d, s.nvm.buf = some (a / 256, d) → u.nvm.buf = some (a / 256, setWordAt d (a % 256) v))
      ∧ (s.nvm.flushing = true ∨ (∃ j d, s.nvm.buf = some (j, d) ∧ j ≠ a / 256) → u = s.orReg 0x0604 1)
      ∧ (∀ (d : List Byte) (c e : Bool), s.nvm.buf = some (a / 256, d) →
          s.busRead m (0x8000 + w.toNat) c e = (BitVec.ofNat 32 (leNat ((d.drop (a % 256)).take 4)), s))
      ∧ (s.nvm.flushing = false → (s.nvm.buf = none ∨ ∃ d, s.nvm.buf = some (a / 256, d) ∧ d.length = 256) →
          ∀ c e : Bool, (u.busRead m (0x8000 + w.toNat) c e).1 = v)

/-! ### Onyx -/

/-- The Onyx opcodes. -/
def IsOnyxRow (row : (Master → Half → Instr) × OnxOp) : Prop :=
  row ∈ [(Instr.challenge, OnxOp.challenge), (.tokenSubmit, .tokenSubmit), (.lcAdvance, .lcAdvance), (.keyEnrol, .keyEnrol)
    , (.keyRevoke, .keyRevoke), (.debugUnlock, .debugUnlock), (.ctrInc, .ctrInc), (.ctrRaise, .ctrRaise), (.jrnWrite, .jrnWrite)
    , (.jrnAttest, .jrnAttest), (.jrnVerify, .jrnVerify), (.idkGenerate, .idkGenerate), (.chainWrite, .chainWrite)
    , (.provision, .provision), (.onxRelease, .release)]

/-- R457, R458, R554, R556: a command of another master than the owner is lost; the owner's waits behind a running one,
is refused for its argument, the device mode, its preconditions and want of a grant in that order, and otherwise runs and
reads PENDING, but for RELEASE, which gives the registers back at once. -/
def Obligations.OnyxCommandsAct : Prop :=
  ∀ row, IsOnyxRow row → ∀ (m : Master) (a : Half) (s : State), s.on = true →
    let mine := { s with onx := { s.onx with owner := some m, ownerAt := s.cycles } }
    let gives := fun (u : State) => exec (row.1 m a) s = done u
    (∀ o, s.onx.owner = some o → o ≠ m → gives (s.orReg 0x0300 0x400))
      ∧ (s.onx.owner = none ∨ s.onx.owner = some m → s.onx.cmd.isSome = true →
          ∃ u, gives u ∧ u.onx.cmd = s.onx.cmd ∧ u.onx.waiting.length = s.onx.waiting.length + 1)
      ∧ (s.onx.owner = none ∨ s.onx.owner = some m → s.onx.cmd = none →
          (onxArgOk row.2 a.toNat = false → gives (mine.onxResult m .refused .badCmd))
          ∧ (onxArgOk row.2 a.toNat = true → s.mode ≠ .standby → s.mode ≠ .run → s.mode ≠ .safe →
              gives (mine.onxResult m .refused .deviceMode))
          ∧ (onxArgOk row.2 a.toNat = true → s.mode = .standby ∨ s.mode = .run ∨ s.mode = .safe →
              (mine.onxPre row.2 a.toNat = false → gives (mine.onxResult m .refused .precondition))
              ∧ (mine.onxPre row.2 a.toNat = true → mine.onxAuth row.2 a.toNat m = false →
                  gives (mine.onxResult m .refused .notAuthenticated))
              ∧ (mine.onxPre row.2 a.toNat = true → mine.onxAuth row.2 a.toNat m = true → row.2 ≠ .release →
                  gives (({ mine with onx := { mine.onx with cmd := some ⟨row.2, a, m⟩ } }).setReg 0x0302 (pendingWord 0 m)))
              ∧ (mine.onxPre row.2 a.toNat = true → mine.onxAuth row.2 a.toNat m = true → row.2 = .release →
                  gives (mine.onxStart .release a m) ∧ (mine.onxStart .release a m).onx.owner = none)))

/-- R428, R439, R441, R442, R456, R458: what ends a command, a nonce 60 s after it was issued, a grant 10 s after it was created, a
lockout 60 s after the rejection and an ownership 100 ms after the last access; the entropy source and its health, and the owner's
data. -/
def Obligations.OnyxEventsAct : Prop :=
  ∀ s : State, s.on = true →
    let o := s.onx
    let by' := fun t => s.mode = .sentinel ∨ t ≤ s.nextTick
    (∀ (c : OnxCmd) (r : ArrayResult), o.cmd = some c → exec (.onyxCommandDone r) s = done (s.onxDone r))
      ∧ (∀ (m : Master) (n : Fin 64) (v : Word),
          (o.owner = none ∨ o.owner = some m → exec (.onxDataWrite m n v) s
            = done (({ s with onx := { o with owner := some m, ownerAt := s.cycles } }).setReg (0x0340 + n) v))
          ∧ (∀ x, o.owner = some x → x ≠ m → exec (.onxDataWrite m n v) s = done (s.orReg 0x0300 0x400)))
      ∧ (∀ m : Master, (o.rngOk = true → exec (.onxRngRead m) s = done { s with draws := s.draws + 1 }
            ∧ (∀ c u, (s.busRead m 0x0304 c u).1 = Config.rng s.draws))
          ∧ (o.rngOk = false → exec (.onxRngRead m) s = done s ∧ ∀ c u, (s.busRead m 0x0304 c u).1 = 0))
      ∧ (o.nonce.isSome = true → by' (o.nonceAt + 5760000000) → ∃ u, exec .nonceExpiry s = done u ∧ u.onx = { o with nonce := none }
          ∧ u.cycles = max s.cycles (o.nonceAt + 5760000000))
      ∧ (o.grant.isSome = true → by' (o.grantAt + 960000000) → ∃ u, exec .grantLapse s = done u ∧ u.onx = { o with grant := none }
          ∧ u.cycles = max s.cycles (o.grantAt + 960000000))
      ∧ (o.lockout = true → by' (o.lockAt + 5760000000) → ∃ u, exec .challengeLockoutEnd s = done u ∧ u.onx = { o with lockout := false }
          ∧ u.cycles = max s.cycles (o.lockAt + 5760000000))
      ∧ (o.owner.isSome = true → by' (o.ownerAt + 9600000) → ∃ u, exec .onyxOwnerTimeout s = done u ∧ u.onx = { o with owner := none }
          ∧ u.cycles = max s.cycles (o.ownerAt + 9600000))
      ∧ (o.rngOk = true → ∃ u, exec .entropyHealthFail s = done u ∧ u.onx.rngOk = false ∧ u.onx.alarm = 1)
      ∧ (o.selfTest = true → o.rngOk = false → exec .entropyHealthRecover s = done { s with onx := { o with rngOk := true } })
      ∧ (exec .onyxGlitchAlarm s = done s.glitched ∧ (o.cmd = none → s.glitched.onx.alarm = 4))

/-! ### Lapidary -/

/-- R148, R151, R163 to R168, R170, R470: Lapidary's rows: one instruction, after an interrupt that is pending and enabled, where the core
runs with its clock; halt, resume and step where debug is enabled; the doorbell, the watchdog, the timers and the request registers. Where
its condition does not hold a row changes nothing. -/
def Obligations.LapidaryRowsAct : Prop :=
  ∀ s : State, s.on = true →
    let clocked := s.lap.run = .running ∧ s.mode ≠ .standby ∧ s.mode ≠ .sentinel
    let stopped := s.onx.dbgEn = true ∧ s.lap.run = .halted
    let goes := fun (i : Instr) (g : Prop) (u : State) => (g → exec i s = done u) ∧ (¬ g → exec i s = .next s)
    let stepped := fun c u => s.lapResume.lapStep c u
    (∀ c u : Bool, goes (.lapidaryInstruction c u) clocked (s.lapStep c u)
        ∧ (stopped → exec (.dbgStep c u) s = done (if (stepped c u).lap.run = .running then (stepped c u).lapHalt 2 else stepped c u))
        ∧ (¬ stopped → exec (.dbgStep c u) s = .next s))
      ∧ goes .ebreak (clocked ∧ s.lapInterrupt.atEbreak = true) s.lapInterrupt.lapEbreak
      ∧ (s.onx.dbgEn = true → s.lapEbreak = s.lapHalt 3)
      ∧ (s.onx.dbgEn = false → s.lapEbreak.lap.csr.mcause = 3 ∧ s.lapEbreak.lap.csr.mepc = s.lap.pc ∧ s.lapEbreak.lap.run = s.lap.run
          ∧ s.lapEbreak = { s with lap := s.lapEbreak.lap })
      ∧ goes .halt (s.onx.dbgEn = true ∧ s.lap.run = .running) (s.lapHalt 1)
      ∧ (∀ k : BitVec 4, (s.lapHalt k).lap = { s.lap with run := .halted, dbgCause := k } ∧ (s.lapHalt k).hub.frozen = true
          ∧ (s.wf = true → (s.lapHalt k).reg 0x2102 = s.lap.pc) ∧ (s.lapHalt k).nvm = s.nvm ∧ ∀ p, (s.lapHalt k).facet p = s.facet p)
      ∧ goes .resume stopped s.lapResume
      ∧ (s.lapResume.lap = { s.lap with run := .running, pc := s.reg 0x2102 } ∧ s.lapResume.hub.frozen = false
          ∧ s.lapResume.regs = s.regs ∧ s.lapResume.nvm = s.nvm ∧ ∀ p, s.lapResume.facet p = s.facet p)
      ∧ (∀ m : Master,
          (∀ code : Half, exec (.doorbellRing m code) s = done (if code = 0 then s else s.setReg 0x0704 (fw 0 code.toNat)))
          ∧ exec (.lapDbCodeRead m) s = done (s.clrReg 0x0704 0xFFFF)
          ∧ (∀ key : Byte, exec (.lapWdKick m key) s
              = done (if key = 0x6B then { s with lap := { s.lap with wdCount := 0 } } else s))
          ∧ (∀ (n : Fin 8) (v : Word), exec (.lapTmrCfgWrite m n v) s = done (s.regWrite (0x0710 + 2 * n) v))
          ∧ (∀ (i : Half) (v : Word),
              goes (.reqWrite m i v)
                (i.toNat ∈ [0x0811, 0x0813, 0x0821, 0x0823, 0x08C1, 0x08C3, 0x08C5, 0x1141, 0x1541, 0x1941, 0x1D41])
                (s.regWrite i.toNat v)))
      ∧ goes .watchdogExpiry
          (s.lap.run = .running ∧ s.rf 0x0705 0 16 ≠ 0 ∧ s.rf 0x0705 0 16 ≤ s.lap.wdCount) s.wdExpire
      ∧ (s.wdExpire.lap.run = .reset ∧ s.wdExpire.lap.wdCount = 0 ∧ s.wdExpire.ldr.reload = true)
      ∧ goes .policyReloadDone (s.ldr.reload = true) s.reloadEnd
      ∧ (s.reloadEnd.ldr.reload = false ∧ (s.mode = .safe → s.reloadEnd.lap.run = s.lap.run))
      ∧ (∀ n : Fin 8, goes (.lapTimerExpiry n) (s.bit (0x0710 + 2 * n) 26 = true ∧ (s.tmr n).count = 0) (s.timerExpire n)
          ∧ (s.wf = true → (s.timerExpire n).bit (0x0710 + 2 * n) 27 = true
              ∧ (s.timerExpire n).bit (0x0710 + 2 * n) 26 = (s.bit (0x0710 + 2 * n) 26 && s.bit (0x0710 + 2 * n) 25)))

/-- R148: with no interrupt to take and an even pc, a register instruction writes its result to `rd`, x0
staying 0, moves the pc on and leaves SRAM and every other register; a store to SRAM changes the bytes it stores to and no
other, and they read back. -/
def Obligations.LapidaryInstructionsKeepTheirFrame : Prop :=
  (∀ (s : State) (op : AluOp) (rd a b : Nat) (len : Nat) (bits : Word), s.lap.xs.length = 31 → rd < 32 → a < 32 → b < 32 →
      s.lap.fetch = .got (.alu op rd a b) len bits → s.lap.pc.getLsbD 0 = false → s.lapIrq = false → ∀ c u : Bool,
        let t := s.lapStep c u
        t.lap.pc = s.lap.pc + BitVec.ofNat 32 len ∧ t.lap.x rd = (if rd = 0 then 0 else aluRes op (s.lap.x a) (s.lap.x b))
          ∧ (∀ k, k < 32 → k ≠ rd → t.lap.x k = s.lap.x k) ∧ t.lap.sram = s.lap.sram
          ∧ t.lap.csr = { s.lap.csr with minstret := s.lap.csr.minstret + 1 }
          ∧ t = { s with lap := t.lap })
    ∧ (∀ (l : Lap) (o n v : Nat), spWf (fun _ => (0 : Byte)) l.sram = true →
        (∀ k, k < o ∨ o + n ≤ k → (l.sramPut o n v).sramNum k 1 = l.sramNum k 1) ∧ (l.sramPut o n v).sramNum o n = v % 256 ^ n
          ∧ (l.sramPut o n v).xs = l.xs ∧ (l.sramPut o n v).pc = l.pc ∧ spWf (fun _ => (0 : Byte)) (l.sramPut o n v).sram = true)

/-- R153: a read of `LAP_EVQq_W0` returns word 0 of the oldest entry, removes the entry and latches its word 1 into
`LAP_EVQq_W1`; of an empty queue it returns 0 and leaves `LAP_EVQq_W1`. -/
def Obligations.EventQueueReadTakesTheOldest : Prop :=
  ∀ (q : Fin 5) (m : Master) (s : State), s.on = true →
    exec (.lapEvqRead m q) s = done (s.evqPop q)
      ∧ (∀ (c u : Bool), s.busRead m (0x0720 + 4 * q) c u
          = (match (s.evq q).ents with | [] => 0 | e :: _ => e.1, s.evqPop q))
      ∧ (∀ e l, (s.evq q).ents = e :: l → ((s.evqPop q).evq q).ents = l ∧ ((s.evqPop q).evq q).w1 = e.2)
      ∧ ((s.evq q).ents = [] → s.evqPop q = s)
      ∧ (∀ r : Fin 5, r ≠ q → (s.evqPop q).evq r = s.evq r)

/-! ### The service port -/

/-- R462 to R466, R468, R469, R471 to R477: the target takes index bytes and words while it answers, the pointer moving on, and
the engine starts on a free bus, retries and ends. -/
def Obligations.ServicePortRowsAct : Prop :=
  ∀ s : State, s.on = true →
    let v := s.svc
    (exec .svcStart s = done s.svcStarted)
      ∧ (s.mode = .standby ∨ s.mode = .run ∨ s.mode = .safe →
          (v.tx = .started → ∀ i : Half, exec (.svcIndexBytes i) s = done (s.svcIndex i)
            ∧ (s.onx.dbgEn = true ∨ i.toNat < 0x2100 ∨ 0x21FF < i.toNat → (s.svcIndex i).svc.ptr = i))
          ∧ (v.tx = .index ∨ (v.tx = .data ∧ v.fetched = none) → ∀ w : Word, exec (.svcWordWrite w) s
              = done (({ s with svc := { v with ptr := v.ptr + 1, tx := .data } }).fabricWrite .service v.ptr.toNat w))
          ∧ (v.tx = .started ∨ (v.tx = .data ∧ v.fetched.isSome = true) → ∀ c u : Bool, exec (.svcWordRead c u) s = done (s.svcRead c u)))
      ∧ (v.busBusy = true → ∀ (n : Fin 4) (again : Bool), exec (.svcStop n again) s = done (s.svcEnd n again)
          ∧ (s.svcEnd n again).svc.ptr = v.ptr
          ∧ ∀ u, u = s.svcEnd n again ∨ u = s.svcTimeout → u = { s with svc := u.svc, regs := u.regs })
      ∧ (s.mode ≠ .sentinel → exec .svcBusTimeout s = done s.svcTimeout ∧ s.svcTimeout.svc.ptr = v.ptr)
      ∧ (∀ (m : Master) (w : Word), exec (.ctlGo m w) s = done (s.ctlGo w)
          ∧ (w.getLsbD 24 = true → s.goRefused w = true → s.ctlGo w = s.orReg 0x2001 0x80)
          ∧ (w.getLsbD 24 = true → s.goRefused w = false → (s.ctlGo w).svc.ctl = if v.busBusy then .waitBus else .running))
      ∧ (v.ctl = .running → ∀ (rd : List Byte),
          (∀ (byte : BitVec 5) (bit : BitVec 4) (own : Bool),
            exec (.svcCArbitrationLost byte bit own rd) s = done (s.ctlLost byte.toNat bit.toNat own rd))
          ∧ (∀ (r : CtlEnd) (n : BitVec 5), exec (.svcCDone r n rd) s = done (s.ctlDone r n.toNat rd)
              ∧ (s.ctlDone r n.toNat rd).svc.ctl = .idle
              ∧ (s.ctlDone r n.toNat rd).svc.ptr = v.ptr)
          ∧ ∀ u, (∃ r n, u = s.ctlDone r n rd) ∨ (∃ byte bit own, u = s.ctlLost byte bit own rd) → u = { s with svc := u.svc, regs := u.regs })
      ∧ (v.ctl = .lost → v.tx = .idle → s.mode ≠ .sentinel → s.mode ≠ .safe → exec .svcCRetry s
          = done { s with svc := { v with ctl := .running, attempts := v.attempts + 1, busBusy := false } })
      ∧ (v.busBusy = true → v.tx = .idle → ∃ u, exec .svcCBusFree s = done u ∧ u.svc.busBusy = false)

/-! ### The chain link and the pins -/

/-- R479 (the link is up 250 µs after its connection), R481 to R493, R497, R499, R500, R508: the chain link's rows, the GPIO pins and `VIO_OUT`. -/
def Obligations.LinkAndPinRowsAct : Prop :=
  ∀ s : State, s.on = true →
    (∀ p : Port,
        let l := (s.facet p).lk
        let linked := (s.facet p).ct.linkOn = true ∧ l.isolated = false
        (linked → l.linkUp = false → s.mode = .sentinel ∨ l.connAt + 24000 ≤ s.nextTick → ∀ mark : Bool,
            exec (.linkUpTimer p mark) s = done ((s.reach (l.connAt + 24000)).linkIsUp p mark)
            ∧ ((s.linkIsUp p mark).facet p).lk.linkUp = true
            ∧ PortFrame p s (s.linkIsUp p mark))
        ∧ (linked → exec (.sbuOvervoltage p) s = done (s.sbuIsolate p) ∧ ((s.sbuIsolate p).facet p).lk.isolated = true
            ∧ UnitFrame [p] s (s.sbuIsolate p))
        ∧ ((s.facet p).ct.linkOn = true → l.isolated = true →
            exec (.sbuReconnect p) s = done (s.modLk p fun l => { l with isolated := false, connAt := s.cycles }))
        ∧ (linked → l.brkWait = false → l.txActive = false →
            (∀ (d : Byte) (mk fr no br : Bool), exec (.linkCharacterRx p d mk fr no br) s = done (s.linkRx p d mk fr no br))
            ∧ exec (.linkFalseStart p) s = done (s.linkFlags p 0x40))
        ∧ (s.wf = true → ∀ (d : Byte) (mk fr no br : Bool) (k : Nat),
            k < (s.rxRing p).base + 2 * (s.rxRing p).wr ∨ (s.rxRing p).base + 2 * (s.rxRing p).wr + 2 ≤ k →
            (s.linkRx p d mk fr no br).lap.sramNum k 1 = s.lap.sramNum k 1)
        ∧ (linked → l.brkWait = true → exec (.linkBreakRearm p) s = done (s.modLk p fun l => { l with brkWait := false }))
        ∧ (linked → (s.rxRing p).fill ≠ 0 → l.posted = false → exec (.linkIdleTimeout p) s = done (s.postLinkRx p))
        ∧ (s.txMayStart p = true → exec (.linkTxStart p) s = done (s.txFetch p) ∧ ((s.txFetch p).facet p).lk.txActive = true
            ∧ PortFrame p s (s.txFetch p))
        ∧ (l.txActive = true → exec (.linkCharacterTx p) s = done (s.linkSent p) ∧ PortFrame p s (s.linkSent p)
            ∧ exec (.linkCollision p) s = done (s.linkCollide p) ∧ ((s.linkCollide p).facet p).lk.txHalt = true
            ∧ ((s.linkCollide p).facet p).lk.txActive = false ∧ UnitFrame [p] s (s.linkCollide p))
        ∧ (∀ (m : Master) (v : Word), exec (.linkRingWrite m p true v) s = done (s.regWrite (fx p 0x205) v)
            ∧ exec (.linkRingWrite m p false v) s = done (s.regWrite (fx p 0x203) v)))
      ∧ (∀ (n : Fin 4) (lv : Bool), s.gpioMoves n lv = true → exec (.gpioEdge n lv) s = done (s.gpioChange n lv))
      ∧ (∀ (m : Master) (n : Fin 4) (v : Word), exec (.gpioCfgWrite m n v) s = done (s.regWrite (0x2040 + n) v))
      ∧ (s.vioOn = true → exec .vioOvercurrent s = done (s.orReg 0x0109 4))
      ∧ (∀ (m : Master) (v : Word), exec (.vioCfgWrite m v) s = done (s.regWrite 0x0109 v))

/-! ### Registers -/

/-- R17, R405: a read of an unmapped word index returns 0 and a write to one is discarded, and either access is recorded as a
fabric bus error in the first-error capture of the fabric bus block while that capture is free and its source enabled; with the
source disabled nothing changes (the model's reading, log entry 60). -/
def Obligations.UnmappedAccessesAreRecorded : Prop :=
  ∀ (i : Half) (m : Master) (v : Word) (s : State), s.on = true → i.toNat < 0x8000 → i.toNat < 0x2100 ∨ 0x21FF < i.toNat →
    regRow i.toNat = none →
    exec (.registerWrite m i v) s = done (s.busError i.toNat (masterId m) true 2 1)
      ∧ (∀ c u : Bool, s.busRead m i.toNat c u = (0, s.busError i.toNat (masterId m) false 2 1))
      ∧ (∀ wr : Bool, s.bit 0x064A 4 = false → s.busError i.toNat (masterId m) wr 2 1 = s)
      ∧ (s.wf = true → s.bit 0x0651 16 = false → s.bit 0x064A 4 = true → ∀ wr : Bool,
          let t := s.busError i.toNat (masterId m) wr 2 1
          t.reg 0x0650 = BitVec.ofNat 32 (0x40000000 + 4 * i.toNat) ∧ t.bit 0x0651 16 = true ∧ t.rf 0x0651 0 4 = masterId m
            ∧ t.rf 0x0651 4 2 = (if wr then 1 else 0) ∧ t.rf 0x0651 8 8 = 1)

/-- R6: a written RW field holds the written value, its register's other bits stay, and every other register stays; a flag is
cleared by a 1 and kept by a 0; and any register's write is the row's. A write of a monitor or of the battery's flags may besides set the
battery's flag of an unrouted monitor. -/
def Obligations.RegisterFieldsBehaveAsTheirCodes : Prop :=
  ∀ (v : Word) (s : State), s.wf = true →
    (∀ r ∈ [(0x0006, 0xFFFFFFFF#32), (0x0007, 0xFFFFFFFF#32), (0x0019, 0x03FFFFFF#32), (0x0103, 0xFFF#32), (0x0306, 0x3F#32)
          , (0x0508, 0x83FF03FF#32), (0x0600, 0x7F#32), (0x0723, 0x3F#32), (0x2008, 0xFFFFFFFF#32)],
        (s.regWrite r.1 v).reg r.1 = (s.reg r.1 &&& ~~~ r.2) ||| (v &&& r.2)
          ∧ ∀ j, j ≠ r.1 → (s.regWrite r.1 v).reg j = s.reg j)
      ∧ (∀ r ∈ [(0x0108, 0x7F#32), (0x0502, 0xF#32), (0x0604, 7#32), (0x2001, 0x1FF#32), (0x2045, 0xF#32)],
          (s.regWrite r.1 v).reg r.1 = s.reg r.1 &&& ~~~ (v &&& r.2)
          ∧ ∀ j, j ≠ r.1 → (s.regWrite r.1 v).reg j = s.reg j)
      ∧ ((s.regWrite 0x0401 v).reg 0x0401 = (s.reg 0x0401 &&& ~~~ 0xFFFF#32) ||| (v &&& 0xFFFF#32)
          ∧ (s.regWrite 0x0402 v).reg 0x0402 = s.reg 0x0402 &&& ~~~ (v &&& 0xF0#32)
          ∧ (s.hub.rc.phase ≠ .holding → ∀ k, k < 9 →
              ((s.regWrite 0x08CF v).reg 0x08CF).getLsbD k = ((s.reg 0x08CF).getLsbD k && !v.getLsbD k))
          ∧ (∀ i ∈ [0x0401, 0x0402, 0x08CF], ∀ j, j ≠ i → j ≠ 0x08CF → (s.regWrite i v).reg j = s.reg j))
      ∧ (s.on = true → ∀ (m : Master) (i : Half), exec (.registerWrite m i v) s = done (s.fabricWrite m i.toNat v))
end

