-- ==== Sys2Proof/Laws/Sparse.lean ====
section
/-! SUPPORT. The laws of sparse storage: a read after a write, writes that leave other addresses alone, and the canonical
form kept by every operation. -/
namespace Sys2Proof.Machine

variable {α : Type} [DecidableEq α]

@[simp] theorem spGet_nil (d : Nat → α) (k : Nat) : spGet d [] k = d k := rfl

/-- A read after a write, at any address. -/
theorem spGet_spPut (d : Nat → α) (l : List (Nat × α)) (k : Nat) (v : α) (h : spWf d l = true) (m : Nat) :
    spGet d (spPut d l k v) m = if m = k then v else spGet d l m := by
  induction l with
  | nil =>
    by_cases hv : v = d k
    · by_cases hm : m = k <;> simp [spPut, spGet, hv, hm]
    · by_cases hm : m = k <;> simp [spPut, spGet, hv, hm]
  | cons e l ih =>
    obtain ⟨j, w⟩ := e
    simp only [spWf, Bool.and_eq_true, decide_eq_true_eq] at h
    obtain ⟨⟨hw, ha⟩, hl⟩ := h
    have above : ∀ m, m ≤ j → spGet d l m = d m := by
      intro m hm
      cases l with
      | nil => rfl
      | cons e' l' =>
        obtain ⟨j', w'⟩ := e'
        simp only [spAbove, decide_eq_true_eq] at ha
        simp only [spGet]
        rw [if_neg (by omega), if_pos (by omega)]
    simp only [spPut]
    by_cases h1 : k < j
    · rw [if_pos h1]
      by_cases hv : v = d k
      · rw [if_pos hv]
        by_cases hm : m = k
        · subst hm; simp only [spGet, if_pos]; rw [if_neg (by omega), if_pos h1]; exact hv.symm
        · rw [if_neg hm]
      · rw [if_neg hv]
        by_cases hm : m = k
        · subst hm; simp [spGet]
        · simp only [if_neg hm]
          rw [spGet, if_neg hm]
          by_cases h2 : m < k
          · rw [if_pos h2, spGet, if_neg (by omega), if_pos (by omega)]
          · rw [if_neg h2]
    · rw [if_neg h1]
      by_cases h2 : k = j
      · subst h2
        rw [if_pos rfl]
        by_cases hv : v = d k
        · rw [if_pos hv]
          by_cases hm : m = k
          · subst hm; rw [if_pos rfl, above m (Nat.le_refl m)]; exact hv.symm
          · rw [if_neg hm, spGet, if_neg hm]
            by_cases h3 : m < k
            · rw [if_pos h3, above m (by omega)]
            · rw [if_neg h3]
        · rw [if_neg hv]
          by_cases hm : m = k
          · subst hm; simp [spGet]
          · rw [if_neg hm, spGet, spGet]; simp [hm]
      · rw [if_neg h2]
        rw [spGet, spGet]
        by_cases hj : m = j
        · subst hj; rw [if_pos rfl, if_pos rfl, if_neg (by omega)]
        · rw [if_neg hj, if_neg hj]
          by_cases h3 : m < j
          · rw [if_pos h3, if_pos h3, if_neg (by omega)]
          · rw [if_neg h3, if_neg h3]; exact ih hl

theorem spAbove_lower (j k : Nat) (l : List (Nat × α)) (h : spAbove k l = true) (hj : j ≤ k) : spAbove j l = true := by
  cases l with
  | nil => rfl
  | cons e l => simp only [spAbove, decide_eq_true_eq] at h ⊢; omega

theorem spAbove_spPut (d : Nat → α) (l : List (Nat × α)) (k j : Nat) (v : α) (hj : j < k) (hw : spWf d l = true)
    (h : spAbove j l = true) : spAbove j (spPut d l k v) = true := by
  cases l with
  | nil => simp only [spPut]; split <;> simp [spAbove, hj]
  | cons e l =>
    obtain ⟨i, w⟩ := e
    simp only [spWf, Bool.and_eq_true] at hw
    have hi : j < i := by simpa [spAbove] using h
    simp only [spPut]
    split
    · split <;> simp [spAbove, hi, hj]
    · split
      · split
        · exact spAbove_lower j i l hw.1.2 (by omega)
        · simp [spAbove, hj]
      · simp [spAbove, hi]

/-- A store keeps the canonical form. -/
theorem spPut_wf (d : Nat → α) (l : List (Nat × α)) (k : Nat) (v : α) (h : spWf d l = true) :
    spWf d (spPut d l k v) = true := by
  induction l with
  | nil => by_cases hv : v = d k <;> simp [spPut, spWf, spAbove, hv]
  | cons e l ih =>
    obtain ⟨j, w⟩ := e
    have h' := h
    simp only [spWf, Bool.and_eq_true, decide_eq_true_eq] at h'
    obtain ⟨⟨hw, ha⟩, hl⟩ := h'
    simp only [spPut]
    by_cases h1 : k < j
    · rw [if_pos h1]
      by_cases hv : v = d k
      · rw [if_pos hv]; exact h
      · rw [if_neg hv, spWf, h]; simp [hv, spAbove, h1]
    · rw [if_neg h1]
      by_cases h2 : k = j
      · subst h2
        rw [if_pos rfl]
        by_cases hv : v = d k
        · rw [if_pos hv]; exact hl
        · rw [if_neg hv]; simp [spWf, hv, ha, hl]
      · rw [if_neg h2, spWf, ih hl, spAbove_spPut d l k j v (by omega) hl ha]; simp [hw]

theorem spPutAll_wf (d : Nat → α) (vs : List α) (l : List (Nat × α)) (k : Nat) (h : spWf d l = true) :
    spWf d (spPutAll d l k vs) = true := by
  induction vs generalizing l k with
  | nil => exact h
  | cons v vs ih => exact ih _ _ (spPut_wf d l k v h)

/-- A run of values reads back where it was stored, and every other address reads as before. -/
theorem spGet_spPutAll (d : Nat → α) (vs : List α) (l : List (Nat × α)) (k m : Nat) (h : spWf d l = true) :
    spGet d (spPutAll d l k vs) m = if k ≤ m then (vs[m - k]?).getD (spGet d l m) else spGet d l m := by
  induction vs generalizing l k with
  | nil => simp [spPutAll]
  | cons v vs ih =>
    rw [spPutAll, ih _ _ (spPut_wf d l k v h), spGet_spPut d l k v h]
    by_cases h1 : k ≤ m
    · by_cases h2 : m = k
      · subst h2; rw [if_neg (by omega)]; simp
      · obtain ⟨n, rfl⟩ : ∃ n, m = k + 1 + n := ⟨m - k - 1, by omega⟩
        have e : k + 1 + n - k = n + 1 := by omega
        rw [if_pos h1, if_pos (by omega), if_neg h2, e]
        simp
    · rw [if_neg h1, if_neg (by omega), if_neg (by omega)]

theorem spAbove_of_all (k : Nat) (l : List (Nat × α)) (h : ∀ e ∈ l, k < e.1) : spAbove k l = true := by
  cases l with
  | nil => rfl
  | cons e l => simpa [spAbove] using h e (by simp)

/-- In the canonical form every listed address is above the one before it. -/
theorem spAbove_all (d : Nat → α) (k : Nat) (l : List (Nat × α)) (h : spWf d l = true) (ha : spAbove k l = true) :
    ∀ e ∈ l, k < e.1 := by
  induction l generalizing k with
  | nil => simp
  | cons e l ih =>
    simp only [spWf, Bool.and_eq_true] at h
    intro e' he'
    rcases List.mem_cons.1 he' with rfl | hm
    · simpa [spAbove] using ha
    · exact ih k h.2 (spAbove_lower k e.1 l h.1.2 (by have : k < e.1 := by simpa [spAbove] using ha
                                                      omega)) e' hm

/-- Discarding a range of addresses keeps the canonical form. -/
theorem spClear_wf (d : Nat → α) (a b : Nat) (l : List (Nat × α)) (h : spWf d l = true) :
    spWf d (spClear a b l) = true := by
  induction l with
  | nil => rfl
  | cons e l ih =>
    obtain ⟨j, v⟩ := e
    have h' := h
    simp only [spWf, Bool.and_eq_true] at h'
    have ihl := ih h'.2
    simp only [spClear, List.filter_cons] at ihl ⊢
    split
    · simp only [spWf, Bool.and_eq_true]
      refine ⟨⟨h'.1.1, spAbove_of_all j _ fun e he => ?_⟩, ihl⟩
      exact spAbove_all d j l h'.2 h'.1.2 e (List.mem_of_mem_filter he)
    · exact ihl

theorem spRun_length (d : Nat → α) (l : List (Nat × α)) (k n : Nat) : (spRun d l k n).length = n := by
  induction n generalizing k with
  | zero => rfl
  | succ n ih => simp [spRun, ih]

end Sys2Proof.Machine
end

