-- ==== Sys2Proof/Laws/State.lean ====
section
/-! SUPPORT. What the named updates of the state leave alone, one lemma per field, and the laws of a register read after a
register write. -/
namespace Sys2Proof.Machine

variable (s : State)

/-! ### `setReg` -/

@[simp] theorem State.setReg_mode (i : Nat) (w : Word) : (s.setReg i w).mode = s.mode := rfl
@[simp] theorem State.setReg_cycles (i : Nat) (w : Word) : (s.setReg i w).cycles = s.cycles := rfl
@[simp] theorem State.setReg_nextTick (i : Nat) (w : Word) : (s.setReg i w).nextTick = s.nextTick := rfl
@[simp] theorem State.setReg_clkStopped (i : Nat) (w : Word) : (s.setReg i w).clkStopped = s.clkStopped := rfl
@[simp] theorem State.setReg_tmode (i : Nat) (w : Word) : (s.setReg i w).tmode = s.tmode := rfl
@[simp] theorem State.setReg_tickOld (i : Nat) (w : Word) : (s.setReg i w).tickOld = s.tickOld := rfl
@[simp] theorem State.setReg_burst (i : Nat) (w : Word) : (s.setReg i w).burst = s.burst := rfl
@[simp] theorem State.setReg_awaits (i : Nat) (w : Word) : (s.setReg i w).awaits = s.awaits := rfl
@[simp] theorem State.setReg_mon (i : Nat) (w : Word) : (s.setReg i w).mon = s.mon := rfl
@[simp] theorem State.setReg_dbBoot (i : Nat) (w : Word) : (s.setReg i w).dbBoot = s.dbBoot := rfl
@[simp] theorem State.setReg_bootPort (i : Nat) (w : Word) : (s.setReg i w).bootPort = s.bootPort := rfl
@[simp] theorem State.setReg_imgAuth (i : Nat) (w : Word) : (s.setReg i w).imgAuth = s.imgAuth := rfl
@[simp] theorem State.setReg_bow (i : Nat) (w : Word) : (s.setReg i w).bow = s.bow := rfl
@[simp] theorem State.setReg_bootSlot (i : Nat) (w : Word) : (s.setReg i w).bootSlot = s.bootSlot := rfl
@[simp] theorem State.setReg_vbusOk (i : Nat) (w : Word) : (s.setReg i w).vbusOk = s.vbusOk := rfl
@[simp] theorem State.setReg_batOk (i : Nat) (w : Word) : (s.setReg i w).batOk = s.batOk := rfl
@[simp] theorem State.setReg_auxOk (i : Nat) (w : Word) : (s.setReg i w).auxOk = s.auxOk := rfl
@[simp] theorem State.setReg_tsd (i : Nat) (w : Word) : (s.setReg i w).tsd = s.tsd := rfl
@[simp] theorem State.setReg_sentEntry (i : Nat) (w : Word) : (s.setReg i w).sentEntry = s.sentEntry := rfl
@[simp] theorem State.setReg_lastWake (i : Nat) (w : Word) : (s.setReg i w).lastWake = s.lastWake := rfl
@[simp] theorem State.setReg_wakes (i : Nat) (w : Word) : (s.setReg i w).wakes = s.wakes := rfl
@[simp] theorem State.setReg_sense (i : Nat) (w : Word) : (s.setReg i w).sense = s.sense := rfl
@[simp] theorem State.setReg_fa (i : Nat) (w : Word) : (s.setReg i w).fa = s.fa := rfl
@[simp] theorem State.setReg_fb (i : Nat) (w : Word) : (s.setReg i w).fb = s.fb := rfl
@[simp] theorem State.setReg_fc (i : Nat) (w : Word) : (s.setReg i w).fc = s.fc := rfl
@[simp] theorem State.setReg_fd (i : Nat) (w : Word) : (s.setReg i w).fd = s.fd := rfl
@[simp] theorem State.setReg_hub (i : Nat) (w : Word) : (s.setReg i w).hub = s.hub := rfl
@[simp] theorem State.setReg_flt0 (i : Nat) (w : Word) : (s.setReg i w).flt0 = s.flt0 := rfl
@[simp] theorem State.setReg_flt1 (i : Nat) (w : Word) : (s.setReg i w).flt1 = s.flt1 := rfl
@[simp] theorem State.setReg_flt2 (i : Nat) (w : Word) : (s.setReg i w).flt2 = s.flt2 := rfl
@[simp] theorem State.setReg_flt3 (i : Nat) (w : Word) : (s.setReg i w).flt3 = s.flt3 := rfl
@[simp] theorem State.setReg_flt4 (i : Nat) (w : Word) : (s.setReg i w).flt4 = s.flt4 := rfl
@[simp] theorem State.setReg_flt5 (i : Nat) (w : Word) : (s.setReg i w).flt5 = s.flt5 := rfl
@[simp] theorem State.setReg_fltCfg (i : Nat) (w : Word) : (s.setReg i w).fltCfg = s.fltCfg := rfl
@[simp] theorem State.setReg_ldr (i : Nat) (w : Word) : (s.setReg i w).ldr = s.ldr := rfl
@[simp] theorem State.setReg_onx (i : Nat) (w : Word) : (s.setReg i w).onx = s.onx := rfl
@[simp] theorem State.setReg_nvm (i : Nat) (w : Word) : (s.setReg i w).nvm = s.nvm := rfl
@[simp] theorem State.setReg_lap (i : Nat) (w : Word) : (s.setReg i w).lap = s.lap := rfl
@[simp] theorem State.setReg_q0 (i : Nat) (w : Word) : (s.setReg i w).q0 = s.q0 := rfl
@[simp] theorem State.setReg_q1 (i : Nat) (w : Word) : (s.setReg i w).q1 = s.q1 := rfl
@[simp] theorem State.setReg_q2 (i : Nat) (w : Word) : (s.setReg i w).q2 = s.q2 := rfl
@[simp] theorem State.setReg_q3 (i : Nat) (w : Word) : (s.setReg i w).q3 = s.q3 := rfl
@[simp] theorem State.setReg_q4 (i : Nat) (w : Word) : (s.setReg i w).q4 = s.q4 := rfl
@[simp] theorem State.setReg_m0 (i : Nat) (w : Word) : (s.setReg i w).m0 = s.m0 := rfl
@[simp] theorem State.setReg_m1 (i : Nat) (w : Word) : (s.setReg i w).m1 = s.m1 := rfl
@[simp] theorem State.setReg_m2 (i : Nat) (w : Word) : (s.setReg i w).m2 = s.m2 := rfl
@[simp] theorem State.setReg_m3 (i : Nat) (w : Word) : (s.setReg i w).m3 = s.m3 := rfl
@[simp] theorem State.setReg_m4 (i : Nat) (w : Word) : (s.setReg i w).m4 = s.m4 := rfl
@[simp] theorem State.setReg_adc (i : Nat) (w : Word) : (s.setReg i w).adc = s.adc := rfl
@[simp] theorem State.setReg_wmHi (i : Nat) (w : Word) : (s.setReg i w).wmHi = s.wmHi := rfl
@[simp] theorem State.setReg_wmLo (i : Nat) (w : Word) : (s.setReg i w).wmLo = s.wmLo := rfl
@[simp] theorem State.setReg_wmSetHi (i : Nat) (w : Word) : (s.setReg i w).wmSetHi = s.wmSetHi := rfl
@[simp] theorem State.setReg_wmSetLo (i : Nat) (w : Word) : (s.setReg i w).wmSetLo = s.wmSetLo := rfl
@[simp] theorem State.setReg_svc (i : Nat) (w : Word) : (s.setReg i w).svc = s.svc := rfl
@[simp] theorem State.setReg_gpio (i : Nat) (w : Word) : (s.setReg i w).gpio = s.gpio := rfl
@[simp] theorem State.setReg_posts (i : Nat) (w : Word) : (s.setReg i w).posts = s.posts := rfl
@[simp] theorem State.setReg_todo (i : Nat) (w : Word) : (s.setReg i w).todo = s.todo := rfl
@[simp] theorem State.setReg_draws (i : Nat) (w : Word) : (s.setReg i w).draws = s.draws := rfl
@[simp] theorem State.setReg_pending (i : Nat) (w : Word) : (s.setReg i w).pending = s.pending := rfl

/-! ### `post` -/

@[simp] theorem State.post_mode (q : Nat) (c : Byte) (a : Half) : (s.post q c a).mode = s.mode := rfl
@[simp] theorem State.post_cycles (q : Nat) (c : Byte) (a : Half) : (s.post q c a).cycles = s.cycles := rfl
@[simp] theorem State.post_nextTick (q : Nat) (c : Byte) (a : Half) : (s.post q c a).nextTick = s.nextTick := rfl
@[simp] theorem State.post_clkStopped (q : Nat) (c : Byte) (a : Half) : (s.post q c a).clkStopped = s.clkStopped := rfl
@[simp] theorem State.post_tmode (q : Nat) (c : Byte) (a : Half) : (s.post q c a).tmode = s.tmode := rfl
@[simp] theorem State.post_tickOld (q : Nat) (c : Byte) (a : Half) : (s.post q c a).tickOld = s.tickOld := rfl
@[simp] theorem State.post_burst (q : Nat) (c : Byte) (a : Half) : (s.post q c a).burst = s.burst := rfl
@[simp] theorem State.post_awaits (q : Nat) (c : Byte) (a : Half) : (s.post q c a).awaits = s.awaits := rfl
@[simp] theorem State.post_mon (q : Nat) (c : Byte) (a : Half) : (s.post q c a).mon = s.mon := rfl
@[simp] theorem State.post_dbBoot (q : Nat) (c : Byte) (a : Half) : (s.post q c a).dbBoot = s.dbBoot := rfl
@[simp] theorem State.post_bootPort (q : Nat) (c : Byte) (a : Half) : (s.post q c a).bootPort = s.bootPort := rfl
@[simp] theorem State.post_imgAuth (q : Nat) (c : Byte) (a : Half) : (s.post q c a).imgAuth = s.imgAuth := rfl
@[simp] theorem State.post_bow (q : Nat) (c : Byte) (a : Half) : (s.post q c a).bow = s.bow := rfl
@[simp] theorem State.post_bootSlot (q : Nat) (c : Byte) (a : Half) : (s.post q c a).bootSlot = s.bootSlot := rfl
@[simp] theorem State.post_vbusOk (q : Nat) (c : Byte) (a : Half) : (s.post q c a).vbusOk = s.vbusOk := rfl
@[simp] theorem State.post_batOk (q : Nat) (c : Byte) (a : Half) : (s.post q c a).batOk = s.batOk := rfl
@[simp] theorem State.post_auxOk (q : Nat) (c : Byte) (a : Half) : (s.post q c a).auxOk = s.auxOk := rfl
@[simp] theorem State.post_tsd (q : Nat) (c : Byte) (a : Half) : (s.post q c a).tsd = s.tsd := rfl
@[simp] theorem State.post_sentEntry (q : Nat) (c : Byte) (a : Half) : (s.post q c a).sentEntry = s.sentEntry := rfl
@[simp] theorem State.post_lastWake (q : Nat) (c : Byte) (a : Half) : (s.post q c a).lastWake = s.lastWake := rfl
@[simp] theorem State.post_wakes (q : Nat) (c : Byte) (a : Half) : (s.post q c a).wakes = s.wakes := rfl
@[simp] theorem State.post_sense (q : Nat) (c : Byte) (a : Half) : (s.post q c a).sense = s.sense := rfl
@[simp] theorem State.post_regs (q : Nat) (c : Byte) (a : Half) : (s.post q c a).regs = s.regs := rfl
@[simp] theorem State.post_fa (q : Nat) (c : Byte) (a : Half) : (s.post q c a).fa = s.fa := rfl
@[simp] theorem State.post_fb (q : Nat) (c : Byte) (a : Half) : (s.post q c a).fb = s.fb := rfl
@[simp] theorem State.post_fc (q : Nat) (c : Byte) (a : Half) : (s.post q c a).fc = s.fc := rfl
@[simp] theorem State.post_fd (q : Nat) (c : Byte) (a : Half) : (s.post q c a).fd = s.fd := rfl
@[simp] theorem State.post_hub (q : Nat) (c : Byte) (a : Half) : (s.post q c a).hub = s.hub := rfl
@[simp] theorem State.post_flt0 (q : Nat) (c : Byte) (a : Half) : (s.post q c a).flt0 = s.flt0 := rfl
@[simp] theorem State.post_flt1 (q : Nat) (c : Byte) (a : Half) : (s.post q c a).flt1 = s.flt1 := rfl
@[simp] theorem State.post_flt2 (q : Nat) (c : Byte) (a : Half) : (s.post q c a).flt2 = s.flt2 := rfl
@[simp] theorem State.post_flt3 (q : Nat) (c : Byte) (a : Half) : (s.post q c a).flt3 = s.flt3 := rfl
@[simp] theorem State.post_flt4 (q : Nat) (c : Byte) (a : Half) : (s.post q c a).flt4 = s.flt4 := rfl
@[simp] theorem State.post_flt5 (q : Nat) (c : Byte) (a : Half) : (s.post q c a).flt5 = s.flt5 := rfl
@[simp] theorem State.post_fltCfg (q : Nat) (c : Byte) (a : Half) : (s.post q c a).fltCfg = s.fltCfg := rfl
@[simp] theorem State.post_ldr (q : Nat) (c : Byte) (a : Half) : (s.post q c a).ldr = s.ldr := rfl
@[simp] theorem State.post_onx (q : Nat) (c : Byte) (a : Half) : (s.post q c a).onx = s.onx := rfl
@[simp] theorem State.post_nvm (q : Nat) (c : Byte) (a : Half) : (s.post q c a).nvm = s.nvm := rfl
@[simp] theorem State.post_lap (q : Nat) (c : Byte) (a : Half) : (s.post q c a).lap = s.lap := rfl
@[simp] theorem State.post_q0 (q : Nat) (c : Byte) (a : Half) : (s.post q c a).q0 = s.q0 := rfl
@[simp] theorem State.post_q1 (q : Nat) (c : Byte) (a : Half) : (s.post q c a).q1 = s.q1 := rfl
@[simp] theorem State.post_q2 (q : Nat) (c : Byte) (a : Half) : (s.post q c a).q2 = s.q2 := rfl
@[simp] theorem State.post_q3 (q : Nat) (c : Byte) (a : Half) : (s.post q c a).q3 = s.q3 := rfl
@[simp] theorem State.post_q4 (q : Nat) (c : Byte) (a : Half) : (s.post q c a).q4 = s.q4 := rfl
@[simp] theorem State.post_m0 (q : Nat) (c : Byte) (a : Half) : (s.post q c a).m0 = s.m0 := rfl
@[simp] theorem State.post_m1 (q : Nat) (c : Byte) (a : Half) : (s.post q c a).m1 = s.m1 := rfl
@[simp] theorem State.post_m2 (q : Nat) (c : Byte) (a : Half) : (s.post q c a).m2 = s.m2 := rfl
@[simp] theorem State.post_m3 (q : Nat) (c : Byte) (a : Half) : (s.post q c a).m3 = s.m3 := rfl
@[simp] theorem State.post_m4 (q : Nat) (c : Byte) (a : Half) : (s.post q c a).m4 = s.m4 := rfl
@[simp] theorem State.post_adc (q : Nat) (c : Byte) (a : Half) : (s.post q c a).adc = s.adc := rfl
@[simp] theorem State.post_wmHi (q : Nat) (c : Byte) (a : Half) : (s.post q c a).wmHi = s.wmHi := rfl
@[simp] theorem State.post_wmLo (q : Nat) (c : Byte) (a : Half) : (s.post q c a).wmLo = s.wmLo := rfl
@[simp] theorem State.post_wmSetHi (q : Nat) (c : Byte) (a : Half) : (s.post q c a).wmSetHi = s.wmSetHi := rfl
@[simp] theorem State.post_wmSetLo (q : Nat) (c : Byte) (a : Half) : (s.post q c a).wmSetLo = s.wmSetLo := rfl
@[simp] theorem State.post_svc (q : Nat) (c : Byte) (a : Half) : (s.post q c a).svc = s.svc := rfl
@[simp] theorem State.post_gpio (q : Nat) (c : Byte) (a : Half) : (s.post q c a).gpio = s.gpio := rfl
@[simp] theorem State.post_todo (q : Nat) (c : Byte) (a : Half) : (s.post q c a).todo = s.todo := rfl
@[simp] theorem State.post_draws (q : Nat) (c : Byte) (a : Half) : (s.post q c a).draws = s.draws := rfl
@[simp] theorem State.post_pending (q : Nat) (c : Byte) (a : Half) : (s.post q c a).pending = s.pending := rfl

/-! ### `owe` -/

@[simp] theorem State.owe_mode (a : Act) : (s.owe a).mode = s.mode := rfl
@[simp] theorem State.owe_cycles (a : Act) : (s.owe a).cycles = s.cycles := rfl
@[simp] theorem State.owe_nextTick (a : Act) : (s.owe a).nextTick = s.nextTick := rfl
@[simp] theorem State.owe_clkStopped (a : Act) : (s.owe a).clkStopped = s.clkStopped := rfl
@[simp] theorem State.owe_tmode (a : Act) : (s.owe a).tmode = s.tmode := rfl
@[simp] theorem State.owe_tickOld (a : Act) : (s.owe a).tickOld = s.tickOld := rfl
@[simp] theorem State.owe_burst (a : Act) : (s.owe a).burst = s.burst := rfl
@[simp] theorem State.owe_awaits (a : Act) : (s.owe a).awaits = s.awaits := rfl
@[simp] theorem State.owe_mon (a : Act) : (s.owe a).mon = s.mon := rfl
@[simp] theorem State.owe_dbBoot (a : Act) : (s.owe a).dbBoot = s.dbBoot := rfl
@[simp] theorem State.owe_bootPort (a : Act) : (s.owe a).bootPort = s.bootPort := rfl
@[simp] theorem State.owe_imgAuth (a : Act) : (s.owe a).imgAuth = s.imgAuth := rfl
@[simp] theorem State.owe_bow (a : Act) : (s.owe a).bow = s.bow := rfl
@[simp] theorem State.owe_bootSlot (a : Act) : (s.owe a).bootSlot = s.bootSlot := rfl
@[simp] theorem State.owe_vbusOk (a : Act) : (s.owe a).vbusOk = s.vbusOk := rfl
@[simp] theorem State.owe_batOk (a : Act) : (s.owe a).batOk = s.batOk := rfl
@[simp] theorem State.owe_auxOk (a : Act) : (s.owe a).auxOk = s.auxOk := rfl
@[simp] theorem State.owe_tsd (a : Act) : (s.owe a).tsd = s.tsd := rfl
@[simp] theorem State.owe_sentEntry (a : Act) : (s.owe a).sentEntry = s.sentEntry := rfl
@[simp] theorem State.owe_lastWake (a : Act) : (s.owe a).lastWake = s.lastWake := rfl
@[simp] theorem State.owe_wakes (a : Act) : (s.owe a).wakes = s.wakes := rfl
@[simp] theorem State.owe_sense (a : Act) : (s.owe a).sense = s.sense := rfl
@[simp] theorem State.owe_regs (a : Act) : (s.owe a).regs = s.regs := rfl
@[simp] theorem State.owe_fa (a : Act) : (s.owe a).fa = s.fa := rfl
@[simp] theorem State.owe_fb (a : Act) : (s.owe a).fb = s.fb := rfl
@[simp] theorem State.owe_fc (a : Act) : (s.owe a).fc = s.fc := rfl
@[simp] theorem State.owe_fd (a : Act) : (s.owe a).fd = s.fd := rfl
@[simp] theorem State.owe_hub (a : Act) : (s.owe a).hub = s.hub := rfl
@[simp] theorem State.owe_flt0 (a : Act) : (s.owe a).flt0 = s.flt0 := rfl
@[simp] theorem State.owe_flt1 (a : Act) : (s.owe a).flt1 = s.flt1 := rfl
@[simp] theorem State.owe_flt2 (a : Act) : (s.owe a).flt2 = s.flt2 := rfl
@[simp] theorem State.owe_flt3 (a : Act) : (s.owe a).flt3 = s.flt3 := rfl
@[simp] theorem State.owe_flt4 (a : Act) : (s.owe a).flt4 = s.flt4 := rfl
@[simp] theorem State.owe_flt5 (a : Act) : (s.owe a).flt5 = s.flt5 := rfl
@[simp] theorem State.owe_fltCfg (a : Act) : (s.owe a).fltCfg = s.fltCfg := rfl
@[simp] theorem State.owe_ldr (a : Act) : (s.owe a).ldr = s.ldr := rfl
@[simp] theorem State.owe_onx (a : Act) : (s.owe a).onx = s.onx := rfl
@[simp] theorem State.owe_nvm (a : Act) : (s.owe a).nvm = s.nvm := rfl
@[simp] theorem State.owe_lap (a : Act) : (s.owe a).lap = s.lap := rfl
@[simp] theorem State.owe_q0 (a : Act) : (s.owe a).q0 = s.q0 := rfl
@[simp] theorem State.owe_q1 (a : Act) : (s.owe a).q1 = s.q1 := rfl
@[simp] theorem State.owe_q2 (a : Act) : (s.owe a).q2 = s.q2 := rfl
@[simp] theorem State.owe_q3 (a : Act) : (s.owe a).q3 = s.q3 := rfl
@[simp] theorem State.owe_q4 (a : Act) : (s.owe a).q4 = s.q4 := rfl
@[simp] theorem State.owe_m0 (a : Act) : (s.owe a).m0 = s.m0 := rfl
@[simp] theorem State.owe_m1 (a : Act) : (s.owe a).m1 = s.m1 := rfl
@[simp] theorem State.owe_m2 (a : Act) : (s.owe a).m2 = s.m2 := rfl
@[simp] theorem State.owe_m3 (a : Act) : (s.owe a).m3 = s.m3 := rfl
@[simp] theorem State.owe_m4 (a : Act) : (s.owe a).m4 = s.m4 := rfl
@[simp] theorem State.owe_adc (a : Act) : (s.owe a).adc = s.adc := rfl
@[simp] theorem State.owe_wmHi (a : Act) : (s.owe a).wmHi = s.wmHi := rfl
@[simp] theorem State.owe_wmLo (a : Act) : (s.owe a).wmLo = s.wmLo := rfl
@[simp] theorem State.owe_wmSetHi (a : Act) : (s.owe a).wmSetHi = s.wmSetHi := rfl
@[simp] theorem State.owe_wmSetLo (a : Act) : (s.owe a).wmSetLo = s.wmSetLo := rfl
@[simp] theorem State.owe_svc (a : Act) : (s.owe a).svc = s.svc := rfl
@[simp] theorem State.owe_gpio (a : Act) : (s.owe a).gpio = s.gpio := rfl
@[simp] theorem State.owe_posts (a : Act) : (s.owe a).posts = s.posts := rfl
@[simp] theorem State.owe_draws (a : Act) : (s.owe a).draws = s.draws := rfl
@[simp] theorem State.owe_pending (a : Act) : (s.owe a).pending = s.pending := rfl

/-! ### `modNvm` -/

@[simp] theorem State.modNvm_mode (g : Nvm → Nvm) : (s.modNvm g).mode = s.mode := rfl
@[simp] theorem State.modNvm_cycles (g : Nvm → Nvm) : (s.modNvm g).cycles = s.cycles := rfl
@[simp] theorem State.modNvm_nextTick (g : Nvm → Nvm) : (s.modNvm g).nextTick = s.nextTick := rfl
@[simp] theorem State.modNvm_clkStopped (g : Nvm → Nvm) : (s.modNvm g).clkStopped = s.clkStopped := rfl
@[simp] theorem State.modNvm_tmode (g : Nvm → Nvm) : (s.modNvm g).tmode = s.tmode := rfl
@[simp] theorem State.modNvm_tickOld (g : Nvm → Nvm) : (s.modNvm g).tickOld = s.tickOld := rfl
@[simp] theorem State.modNvm_burst (g : Nvm → Nvm) : (s.modNvm g).burst = s.burst := rfl
@[simp] theorem State.modNvm_awaits (g : Nvm → Nvm) : (s.modNvm g).awaits = s.awaits := rfl
@[simp] theorem State.modNvm_mon (g : Nvm → Nvm) : (s.modNvm g).mon = s.mon := rfl
@[simp] theorem State.modNvm_dbBoot (g : Nvm → Nvm) : (s.modNvm g).dbBoot = s.dbBoot := rfl
@[simp] theorem State.modNvm_bootPort (g : Nvm → Nvm) : (s.modNvm g).bootPort = s.bootPort := rfl
@[simp] theorem State.modNvm_imgAuth (g : Nvm → Nvm) : (s.modNvm g).imgAuth = s.imgAuth := rfl
@[simp] theorem State.modNvm_bow (g : Nvm → Nvm) : (s.modNvm g).bow = s.bow := rfl
@[simp] theorem State.modNvm_bootSlot (g : Nvm → Nvm) : (s.modNvm g).bootSlot = s.bootSlot := rfl
@[simp] theorem State.modNvm_vbusOk (g : Nvm → Nvm) : (s.modNvm g).vbusOk = s.vbusOk := rfl
@[simp] theorem State.modNvm_batOk (g : Nvm → Nvm) : (s.modNvm g).batOk = s.batOk := rfl
@[simp] theorem State.modNvm_auxOk (g : Nvm → Nvm) : (s.modNvm g).auxOk = s.auxOk := rfl
@[simp] theorem State.modNvm_tsd (g : Nvm → Nvm) : (s.modNvm g).tsd = s.tsd := rfl
@[simp] theorem State.modNvm_sentEntry (g : Nvm → Nvm) : (s.modNvm g).sentEntry = s.sentEntry := rfl
@[simp] theorem State.modNvm_lastWake (g : Nvm → Nvm) : (s.modNvm g).lastWake = s.lastWake := rfl
@[simp] theorem State.modNvm_wakes (g : Nvm → Nvm) : (s.modNvm g).wakes = s.wakes := rfl
@[simp] theorem State.modNvm_sense (g : Nvm → Nvm) : (s.modNvm g).sense = s.sense := rfl
@[simp] theorem State.modNvm_regs (g : Nvm → Nvm) : (s.modNvm g).regs = s.regs := rfl
@[simp] theorem State.modNvm_fa (g : Nvm → Nvm) : (s.modNvm g).fa = s.fa := rfl
@[simp] theorem State.modNvm_fb (g : Nvm → Nvm) : (s.modNvm g).fb = s.fb := rfl
@[simp] theorem State.modNvm_fc (g : Nvm → Nvm) : (s.modNvm g).fc = s.fc := rfl
@[simp] theorem State.modNvm_fd (g : Nvm → Nvm) : (s.modNvm g).fd = s.fd := rfl
@[simp] theorem State.modNvm_hub (g : Nvm → Nvm) : (s.modNvm g).hub = s.hub := rfl
@[simp] theorem State.modNvm_flt0 (g : Nvm → Nvm) : (s.modNvm g).flt0 = s.flt0 := rfl
@[simp] theorem State.modNvm_flt1 (g : Nvm → Nvm) : (s.modNvm g).flt1 = s.flt1 := rfl
@[simp] theorem State.modNvm_flt2 (g : Nvm → Nvm) : (s.modNvm g).flt2 = s.flt2 := rfl
@[simp] theorem State.modNvm_flt3 (g : Nvm → Nvm) : (s.modNvm g).flt3 = s.flt3 := rfl
@[simp] theorem State.modNvm_flt4 (g : Nvm → Nvm) : (s.modNvm g).flt4 = s.flt4 := rfl
@[simp] theorem State.modNvm_flt5 (g : Nvm → Nvm) : (s.modNvm g).flt5 = s.flt5 := rfl
@[simp] theorem State.modNvm_fltCfg (g : Nvm → Nvm) : (s.modNvm g).fltCfg = s.fltCfg := rfl
@[simp] theorem State.modNvm_ldr (g : Nvm → Nvm) : (s.modNvm g).ldr = s.ldr := rfl
@[simp] theorem State.modNvm_onx (g : Nvm → Nvm) : (s.modNvm g).onx = s.onx := rfl
@[simp] theorem State.modNvm_lap (g : Nvm → Nvm) : (s.modNvm g).lap = s.lap := rfl
@[simp] theorem State.modNvm_q0 (g : Nvm → Nvm) : (s.modNvm g).q0 = s.q0 := rfl
@[simp] theorem State.modNvm_q1 (g : Nvm → Nvm) : (s.modNvm g).q1 = s.q1 := rfl
@[simp] theorem State.modNvm_q2 (g : Nvm → Nvm) : (s.modNvm g).q2 = s.q2 := rfl
@[simp] theorem State.modNvm_q3 (g : Nvm → Nvm) : (s.modNvm g).q3 = s.q3 := rfl
@[simp] theorem State.modNvm_q4 (g : Nvm → Nvm) : (s.modNvm g).q4 = s.q4 := rfl
@[simp] theorem State.modNvm_m0 (g : Nvm → Nvm) : (s.modNvm g).m0 = s.m0 := rfl
@[simp] theorem State.modNvm_m1 (g : Nvm → Nvm) : (s.modNvm g).m1 = s.m1 := rfl
@[simp] theorem State.modNvm_m2 (g : Nvm → Nvm) : (s.modNvm g).m2 = s.m2 := rfl
@[simp] theorem State.modNvm_m3 (g : Nvm → Nvm) : (s.modNvm g).m3 = s.m3 := rfl
@[simp] theorem State.modNvm_m4 (g : Nvm → Nvm) : (s.modNvm g).m4 = s.m4 := rfl
@[simp] theorem State.modNvm_adc (g : Nvm → Nvm) : (s.modNvm g).adc = s.adc := rfl
@[simp] theorem State.modNvm_wmHi (g : Nvm → Nvm) : (s.modNvm g).wmHi = s.wmHi := rfl
@[simp] theorem State.modNvm_wmLo (g : Nvm → Nvm) : (s.modNvm g).wmLo = s.wmLo := rfl
@[simp] theorem State.modNvm_wmSetHi (g : Nvm → Nvm) : (s.modNvm g).wmSetHi = s.wmSetHi := rfl
@[simp] theorem State.modNvm_wmSetLo (g : Nvm → Nvm) : (s.modNvm g).wmSetLo = s.wmSetLo := rfl
@[simp] theorem State.modNvm_svc (g : Nvm → Nvm) : (s.modNvm g).svc = s.svc := rfl
@[simp] theorem State.modNvm_gpio (g : Nvm → Nvm) : (s.modNvm g).gpio = s.gpio := rfl
@[simp] theorem State.modNvm_posts (g : Nvm → Nvm) : (s.modNvm g).posts = s.posts := rfl
@[simp] theorem State.modNvm_todo (g : Nvm → Nvm) : (s.modNvm g).todo = s.todo := rfl
@[simp] theorem State.modNvm_draws (g : Nvm → Nvm) : (s.modNvm g).draws = s.draws := rfl
@[simp] theorem State.modNvm_pending (g : Nvm → Nvm) : (s.modNvm g).pending = s.pending := rfl

/-! ### `modOnx` -/

@[simp] theorem State.modOnx_mode (g : Onx → Onx) : (s.modOnx g).mode = s.mode := rfl
@[simp] theorem State.modOnx_cycles (g : Onx → Onx) : (s.modOnx g).cycles = s.cycles := rfl
@[simp] theorem State.modOnx_nextTick (g : Onx → Onx) : (s.modOnx g).nextTick = s.nextTick := rfl
@[simp] theorem State.modOnx_clkStopped (g : Onx → Onx) : (s.modOnx g).clkStopped = s.clkStopped := rfl
@[simp] theorem State.modOnx_tmode (g : Onx → Onx) : (s.modOnx g).tmode = s.tmode := rfl
@[simp] theorem State.modOnx_tickOld (g : Onx → Onx) : (s.modOnx g).tickOld = s.tickOld := rfl
@[simp] theorem State.modOnx_burst (g : Onx → Onx) : (s.modOnx g).burst = s.burst := rfl
@[simp] theorem State.modOnx_awaits (g : Onx → Onx) : (s.modOnx g).awaits = s.awaits := rfl
@[simp] theorem State.modOnx_mon (g : Onx → Onx) : (s.modOnx g).mon = s.mon := rfl
@[simp] theorem State.modOnx_dbBoot (g : Onx → Onx) : (s.modOnx g).dbBoot = s.dbBoot := rfl
@[simp] theorem State.modOnx_bootPort (g : Onx → Onx) : (s.modOnx g).bootPort = s.bootPort := rfl
@[simp] theorem State.modOnx_imgAuth (g : Onx → Onx) : (s.modOnx g).imgAuth = s.imgAuth := rfl
@[simp] theorem State.modOnx_bow (g : Onx → Onx) : (s.modOnx g).bow = s.bow := rfl
@[simp] theorem State.modOnx_bootSlot (g : Onx → Onx) : (s.modOnx g).bootSlot = s.bootSlot := rfl
@[simp] theorem State.modOnx_vbusOk (g : Onx → Onx) : (s.modOnx g).vbusOk = s.vbusOk := rfl
@[simp] theorem State.modOnx_batOk (g : Onx → Onx) : (s.modOnx g).batOk = s.batOk := rfl
@[simp] theorem State.modOnx_auxOk (g : Onx → Onx) : (s.modOnx g).auxOk = s.auxOk := rfl
@[simp] theorem State.modOnx_tsd (g : Onx → Onx) : (s.modOnx g).tsd = s.tsd := rfl
@[simp] theorem State.modOnx_sentEntry (g : Onx → Onx) : (s.modOnx g).sentEntry = s.sentEntry := rfl
@[simp] theorem State.modOnx_lastWake (g : Onx → Onx) : (s.modOnx g).lastWake = s.lastWake := rfl
@[simp] theorem State.modOnx_wakes (g : Onx → Onx) : (s.modOnx g).wakes = s.wakes := rfl
@[simp] theorem State.modOnx_sense (g : Onx → Onx) : (s.modOnx g).sense = s.sense := rfl
@[simp] theorem State.modOnx_regs (g : Onx → Onx) : (s.modOnx g).regs = s.regs := rfl
@[simp] theorem State.modOnx_fa (g : Onx → Onx) : (s.modOnx g).fa = s.fa := rfl
@[simp] theorem State.modOnx_fb (g : Onx → Onx) : (s.modOnx g).fb = s.fb := rfl
@[simp] theorem State.modOnx_fc (g : Onx → Onx) : (s.modOnx g).fc = s.fc := rfl
@[simp] theorem State.modOnx_fd (g : Onx → Onx) : (s.modOnx g).fd = s.fd := rfl
@[simp] theorem State.modOnx_hub (g : Onx → Onx) : (s.modOnx g).hub = s.hub := rfl
@[simp] theorem State.modOnx_flt0 (g : Onx → Onx) : (s.modOnx g).flt0 = s.flt0 := rfl
@[simp] theorem State.modOnx_flt1 (g : Onx → Onx) : (s.modOnx g).flt1 = s.flt1 := rfl
@[simp] theorem State.modOnx_flt2 (g : Onx → Onx) : (s.modOnx g).flt2 = s.flt2 := rfl
@[simp] theorem State.modOnx_flt3 (g : Onx → Onx) : (s.modOnx g).flt3 = s.flt3 := rfl
@[simp] theorem State.modOnx_flt4 (g : Onx → Onx) : (s.modOnx g).flt4 = s.flt4 := rfl
@[simp] theorem State.modOnx_flt5 (g : Onx → Onx) : (s.modOnx g).flt5 = s.flt5 := rfl
@[simp] theorem State.modOnx_fltCfg (g : Onx → Onx) : (s.modOnx g).fltCfg = s.fltCfg := rfl
@[simp] theorem State.modOnx_ldr (g : Onx → Onx) : (s.modOnx g).ldr = s.ldr := rfl
@[simp] theorem State.modOnx_nvm (g : Onx → Onx) : (s.modOnx g).nvm = s.nvm := rfl
@[simp] theorem State.modOnx_lap (g : Onx → Onx) : (s.modOnx g).lap = s.lap := rfl
@[simp] theorem State.modOnx_q0 (g : Onx → Onx) : (s.modOnx g).q0 = s.q0 := rfl
@[simp] theorem State.modOnx_q1 (g : Onx → Onx) : (s.modOnx g).q1 = s.q1 := rfl
@[simp] theorem State.modOnx_q2 (g : Onx → Onx) : (s.modOnx g).q2 = s.q2 := rfl
@[simp] theorem State.modOnx_q3 (g : Onx → Onx) : (s.modOnx g).q3 = s.q3 := rfl
@[simp] theorem State.modOnx_q4 (g : Onx → Onx) : (s.modOnx g).q4 = s.q4 := rfl
@[simp] theorem State.modOnx_m0 (g : Onx → Onx) : (s.modOnx g).m0 = s.m0 := rfl
@[simp] theorem State.modOnx_m1 (g : Onx → Onx) : (s.modOnx g).m1 = s.m1 := rfl
@[simp] theorem State.modOnx_m2 (g : Onx → Onx) : (s.modOnx g).m2 = s.m2 := rfl
@[simp] theorem State.modOnx_m3 (g : Onx → Onx) : (s.modOnx g).m3 = s.m3 := rfl
@[simp] theorem State.modOnx_m4 (g : Onx → Onx) : (s.modOnx g).m4 = s.m4 := rfl
@[simp] theorem State.modOnx_adc (g : Onx → Onx) : (s.modOnx g).adc = s.adc := rfl
@[simp] theorem State.modOnx_wmHi (g : Onx → Onx) : (s.modOnx g).wmHi = s.wmHi := rfl
@[simp] theorem State.modOnx_wmLo (g : Onx → Onx) : (s.modOnx g).wmLo = s.wmLo := rfl
@[simp] theorem State.modOnx_wmSetHi (g : Onx → Onx) : (s.modOnx g).wmSetHi = s.wmSetHi := rfl
@[simp] theorem State.modOnx_wmSetLo (g : Onx → Onx) : (s.modOnx g).wmSetLo = s.wmSetLo := rfl
@[simp] theorem State.modOnx_svc (g : Onx → Onx) : (s.modOnx g).svc = s.svc := rfl
@[simp] theorem State.modOnx_gpio (g : Onx → Onx) : (s.modOnx g).gpio = s.gpio := rfl
@[simp] theorem State.modOnx_posts (g : Onx → Onx) : (s.modOnx g).posts = s.posts := rfl
@[simp] theorem State.modOnx_todo (g : Onx → Onx) : (s.modOnx g).todo = s.todo := rfl
@[simp] theorem State.modOnx_draws (g : Onx → Onx) : (s.modOnx g).draws = s.draws := rfl
@[simp] theorem State.modOnx_pending (g : Onx → Onx) : (s.modOnx g).pending = s.pending := rfl

/-! ### `modLdr` -/

@[simp] theorem State.modLdr_mode (g : Ldr → Ldr) : (s.modLdr g).mode = s.mode := rfl
@[simp] theorem State.modLdr_cycles (g : Ldr → Ldr) : (s.modLdr g).cycles = s.cycles := rfl
@[simp] theorem State.modLdr_nextTick (g : Ldr → Ldr) : (s.modLdr g).nextTick = s.nextTick := rfl
@[simp] theorem State.modLdr_clkStopped (g : Ldr → Ldr) : (s.modLdr g).clkStopped = s.clkStopped := rfl
@[simp] theorem State.modLdr_tmode (g : Ldr → Ldr) : (s.modLdr g).tmode = s.tmode := rfl
@[simp] theorem State.modLdr_tickOld (g : Ldr → Ldr) : (s.modLdr g).tickOld = s.tickOld := rfl
@[simp] theorem State.modLdr_burst (g : Ldr → Ldr) : (s.modLdr g).burst = s.burst := rfl
@[simp] theorem State.modLdr_awaits (g : Ldr → Ldr) : (s.modLdr g).awaits = s.awaits := rfl
@[simp] theorem State.modLdr_mon (g : Ldr → Ldr) : (s.modLdr g).mon = s.mon := rfl
@[simp] theorem State.modLdr_dbBoot (g : Ldr → Ldr) : (s.modLdr g).dbBoot = s.dbBoot := rfl
@[simp] theorem State.modLdr_bootPort (g : Ldr → Ldr) : (s.modLdr g).bootPort = s.bootPort := rfl
@[simp] theorem State.modLdr_imgAuth (g : Ldr → Ldr) : (s.modLdr g).imgAuth = s.imgAuth := rfl
@[simp] theorem State.modLdr_bow (g : Ldr → Ldr) : (s.modLdr g).bow = s.bow := rfl
@[simp] theorem State.modLdr_bootSlot (g : Ldr → Ldr) : (s.modLdr g).bootSlot = s.bootSlot := rfl
@[simp] theorem State.modLdr_vbusOk (g : Ldr → Ldr) : (s.modLdr g).vbusOk = s.vbusOk := rfl
@[simp] theorem State.modLdr_batOk (g : Ldr → Ldr) : (s.modLdr g).batOk = s.batOk := rfl
@[simp] theorem State.modLdr_auxOk (g : Ldr → Ldr) : (s.modLdr g).auxOk = s.auxOk := rfl
@[simp] theorem State.modLdr_tsd (g : Ldr → Ldr) : (s.modLdr g).tsd = s.tsd := rfl
@[simp] theorem State.modLdr_sentEntry (g : Ldr → Ldr) : (s.modLdr g).sentEntry = s.sentEntry := rfl
@[simp] theorem State.modLdr_lastWake (g : Ldr → Ldr) : (s.modLdr g).lastWake = s.lastWake := rfl
@[simp] theorem State.modLdr_wakes (g : Ldr → Ldr) : (s.modLdr g).wakes = s.wakes := rfl
@[simp] theorem State.modLdr_sense (g : Ldr → Ldr) : (s.modLdr g).sense = s.sense := rfl
@[simp] theorem State.modLdr_regs (g : Ldr → Ldr) : (s.modLdr g).regs = s.regs := rfl
@[simp] theorem State.modLdr_fa (g : Ldr → Ldr) : (s.modLdr g).fa = s.fa := rfl
@[simp] theorem State.modLdr_fb (g : Ldr → Ldr) : (s.modLdr g).fb = s.fb := rfl
@[simp] theorem State.modLdr_fc (g : Ldr → Ldr) : (s.modLdr g).fc = s.fc := rfl
@[simp] theorem State.modLdr_fd (g : Ldr → Ldr) : (s.modLdr g).fd = s.fd := rfl
@[simp] theorem State.modLdr_hub (g : Ldr → Ldr) : (s.modLdr g).hub = s.hub := rfl
@[simp] theorem State.modLdr_flt0 (g : Ldr → Ldr) : (s.modLdr g).flt0 = s.flt0 := rfl
@[simp] theorem State.modLdr_flt1 (g : Ldr → Ldr) : (s.modLdr g).flt1 = s.flt1 := rfl
@[simp] theorem State.modLdr_flt2 (g : Ldr → Ldr) : (s.modLdr g).flt2 = s.flt2 := rfl
@[simp] theorem State.modLdr_flt3 (g : Ldr → Ldr) : (s.modLdr g).flt3 = s.flt3 := rfl
@[simp] theorem State.modLdr_flt4 (g : Ldr → Ldr) : (s.modLdr g).flt4 = s.flt4 := rfl
@[simp] theorem State.modLdr_flt5 (g : Ldr → Ldr) : (s.modLdr g).flt5 = s.flt5 := rfl
@[simp] theorem State.modLdr_fltCfg (g : Ldr → Ldr) : (s.modLdr g).fltCfg = s.fltCfg := rfl
@[simp] theorem State.modLdr_onx (g : Ldr → Ldr) : (s.modLdr g).onx = s.onx := rfl
@[simp] theorem State.modLdr_nvm (g : Ldr → Ldr) : (s.modLdr g).nvm = s.nvm := rfl
@[simp] theorem State.modLdr_lap (g : Ldr → Ldr) : (s.modLdr g).lap = s.lap := rfl
@[simp] theorem State.modLdr_q0 (g : Ldr → Ldr) : (s.modLdr g).q0 = s.q0 := rfl
@[simp] theorem State.modLdr_q1 (g : Ldr → Ldr) : (s.modLdr g).q1 = s.q1 := rfl
@[simp] theorem State.modLdr_q2 (g : Ldr → Ldr) : (s.modLdr g).q2 = s.q2 := rfl
@[simp] theorem State.modLdr_q3 (g : Ldr → Ldr) : (s.modLdr g).q3 = s.q3 := rfl
@[simp] theorem State.modLdr_q4 (g : Ldr → Ldr) : (s.modLdr g).q4 = s.q4 := rfl
@[simp] theorem State.modLdr_m0 (g : Ldr → Ldr) : (s.modLdr g).m0 = s.m0 := rfl
@[simp] theorem State.modLdr_m1 (g : Ldr → Ldr) : (s.modLdr g).m1 = s.m1 := rfl
@[simp] theorem State.modLdr_m2 (g : Ldr → Ldr) : (s.modLdr g).m2 = s.m2 := rfl
@[simp] theorem State.modLdr_m3 (g : Ldr → Ldr) : (s.modLdr g).m3 = s.m3 := rfl
@[simp] theorem State.modLdr_m4 (g : Ldr → Ldr) : (s.modLdr g).m4 = s.m4 := rfl
@[simp] theorem State.modLdr_adc (g : Ldr → Ldr) : (s.modLdr g).adc = s.adc := rfl
@[simp] theorem State.modLdr_wmHi (g : Ldr → Ldr) : (s.modLdr g).wmHi = s.wmHi := rfl
@[simp] theorem State.modLdr_wmLo (g : Ldr → Ldr) : (s.modLdr g).wmLo = s.wmLo := rfl
@[simp] theorem State.modLdr_wmSetHi (g : Ldr → Ldr) : (s.modLdr g).wmSetHi = s.wmSetHi := rfl
@[simp] theorem State.modLdr_wmSetLo (g : Ldr → Ldr) : (s.modLdr g).wmSetLo = s.wmSetLo := rfl
@[simp] theorem State.modLdr_svc (g : Ldr → Ldr) : (s.modLdr g).svc = s.svc := rfl
@[simp] theorem State.modLdr_gpio (g : Ldr → Ldr) : (s.modLdr g).gpio = s.gpio := rfl
@[simp] theorem State.modLdr_posts (g : Ldr → Ldr) : (s.modLdr g).posts = s.posts := rfl
@[simp] theorem State.modLdr_todo (g : Ldr → Ldr) : (s.modLdr g).todo = s.todo := rfl
@[simp] theorem State.modLdr_draws (g : Ldr → Ldr) : (s.modLdr g).draws = s.draws := rfl
@[simp] theorem State.modLdr_pending (g : Ldr → Ldr) : (s.modLdr g).pending = s.pending := rfl

/-! ### `modLap` -/

@[simp] theorem State.modLap_mode (g : Lap → Lap) : (s.modLap g).mode = s.mode := rfl
@[simp] theorem State.modLap_cycles (g : Lap → Lap) : (s.modLap g).cycles = s.cycles := rfl
@[simp] theorem State.modLap_nextTick (g : Lap → Lap) : (s.modLap g).nextTick = s.nextTick := rfl
@[simp] theorem State.modLap_clkStopped (g : Lap → Lap) : (s.modLap g).clkStopped = s.clkStopped := rfl
@[simp] theorem State.modLap_tmode (g : Lap → Lap) : (s.modLap g).tmode = s.tmode := rfl
@[simp] theorem State.modLap_tickOld (g : Lap → Lap) : (s.modLap g).tickOld = s.tickOld := rfl
@[simp] theorem State.modLap_burst (g : Lap → Lap) : (s.modLap g).burst = s.burst := rfl
@[simp] theorem State.modLap_awaits (g : Lap → Lap) : (s.modLap g).awaits = s.awaits := rfl
@[simp] theorem State.modLap_mon (g : Lap → Lap) : (s.modLap g).mon = s.mon := rfl
@[simp] theorem State.modLap_dbBoot (g : Lap → Lap) : (s.modLap g).dbBoot = s.dbBoot := rfl
@[simp] theorem State.modLap_bootPort (g : Lap → Lap) : (s.modLap g).bootPort = s.bootPort := rfl
@[simp] theorem State.modLap_imgAuth (g : Lap → Lap) : (s.modLap g).imgAuth = s.imgAuth := rfl
@[simp] theorem State.modLap_bow (g : Lap → Lap) : (s.modLap g).bow = s.bow := rfl
@[simp] theorem State.modLap_bootSlot (g : Lap → Lap) : (s.modLap g).bootSlot = s.bootSlot := rfl
@[simp] theorem State.modLap_vbusOk (g : Lap → Lap) : (s.modLap g).vbusOk = s.vbusOk := rfl
@[simp] theorem State.modLap_batOk (g : Lap → Lap) : (s.modLap g).batOk = s.batOk := rfl
@[simp] theorem State.modLap_auxOk (g : Lap → Lap) : (s.modLap g).auxOk = s.auxOk := rfl
@[simp] theorem State.modLap_tsd (g : Lap → Lap) : (s.modLap g).tsd = s.tsd := rfl
@[simp] theorem State.modLap_sentEntry (g : Lap → Lap) : (s.modLap g).sentEntry = s.sentEntry := rfl
@[simp] theorem State.modLap_lastWake (g : Lap → Lap) : (s.modLap g).lastWake = s.lastWake := rfl
@[simp] theorem State.modLap_wakes (g : Lap → Lap) : (s.modLap g).wakes = s.wakes := rfl
@[simp] theorem State.modLap_sense (g : Lap → Lap) : (s.modLap g).sense = s.sense := rfl
@[simp] theorem State.modLap_regs (g : Lap → Lap) : (s.modLap g).regs = s.regs := rfl
@[simp] theorem State.modLap_fa (g : Lap → Lap) : (s.modLap g).fa = s.fa := rfl
@[simp] theorem State.modLap_fb (g : Lap → Lap) : (s.modLap g).fb = s.fb := rfl
@[simp] theorem State.modLap_fc (g : Lap → Lap) : (s.modLap g).fc = s.fc := rfl
@[simp] theorem State.modLap_fd (g : Lap → Lap) : (s.modLap g).fd = s.fd := rfl
@[simp] theorem State.modLap_hub (g : Lap → Lap) : (s.modLap g).hub = s.hub := rfl
@[simp] theorem State.modLap_flt0 (g : Lap → Lap) : (s.modLap g).flt0 = s.flt0 := rfl
@[simp] theorem State.modLap_flt1 (g : Lap → Lap) : (s.modLap g).flt1 = s.flt1 := rfl
@[simp] theorem State.modLap_flt2 (g : Lap → Lap) : (s.modLap g).flt2 = s.flt2 := rfl
@[simp] theorem State.modLap_flt3 (g : Lap → Lap) : (s.modLap g).flt3 = s.flt3 := rfl
@[simp] theorem State.modLap_flt4 (g : Lap → Lap) : (s.modLap g).flt4 = s.flt4 := rfl
@[simp] theorem State.modLap_flt5 (g : Lap → Lap) : (s.modLap g).flt5 = s.flt5 := rfl
@[simp] theorem State.modLap_fltCfg (g : Lap → Lap) : (s.modLap g).fltCfg = s.fltCfg := rfl
@[simp] theorem State.modLap_ldr (g : Lap → Lap) : (s.modLap g).ldr = s.ldr := rfl
@[simp] theorem State.modLap_onx (g : Lap → Lap) : (s.modLap g).onx = s.onx := rfl
@[simp] theorem State.modLap_nvm (g : Lap → Lap) : (s.modLap g).nvm = s.nvm := rfl
@[simp] theorem State.modLap_q0 (g : Lap → Lap) : (s.modLap g).q0 = s.q0 := rfl
@[simp] theorem State.modLap_q1 (g : Lap → Lap) : (s.modLap g).q1 = s.q1 := rfl
@[simp] theorem State.modLap_q2 (g : Lap → Lap) : (s.modLap g).q2 = s.q2 := rfl
@[simp] theorem State.modLap_q3 (g : Lap → Lap) : (s.modLap g).q3 = s.q3 := rfl
@[simp] theorem State.modLap_q4 (g : Lap → Lap) : (s.modLap g).q4 = s.q4 := rfl
@[simp] theorem State.modLap_m0 (g : Lap → Lap) : (s.modLap g).m0 = s.m0 := rfl
@[simp] theorem State.modLap_m1 (g : Lap → Lap) : (s.modLap g).m1 = s.m1 := rfl
@[simp] theorem State.modLap_m2 (g : Lap → Lap) : (s.modLap g).m2 = s.m2 := rfl
@[simp] theorem State.modLap_m3 (g : Lap → Lap) : (s.modLap g).m3 = s.m3 := rfl
@[simp] theorem State.modLap_m4 (g : Lap → Lap) : (s.modLap g).m4 = s.m4 := rfl
@[simp] theorem State.modLap_adc (g : Lap → Lap) : (s.modLap g).adc = s.adc := rfl
@[simp] theorem State.modLap_wmHi (g : Lap → Lap) : (s.modLap g).wmHi = s.wmHi := rfl
@[simp] theorem State.modLap_wmLo (g : Lap → Lap) : (s.modLap g).wmLo = s.wmLo := rfl
@[simp] theorem State.modLap_wmSetHi (g : Lap → Lap) : (s.modLap g).wmSetHi = s.wmSetHi := rfl
@[simp] theorem State.modLap_wmSetLo (g : Lap → Lap) : (s.modLap g).wmSetLo = s.wmSetLo := rfl
@[simp] theorem State.modLap_svc (g : Lap → Lap) : (s.modLap g).svc = s.svc := rfl
@[simp] theorem State.modLap_gpio (g : Lap → Lap) : (s.modLap g).gpio = s.gpio := rfl
@[simp] theorem State.modLap_posts (g : Lap → Lap) : (s.modLap g).posts = s.posts := rfl
@[simp] theorem State.modLap_todo (g : Lap → Lap) : (s.modLap g).todo = s.todo := rfl
@[simp] theorem State.modLap_draws (g : Lap → Lap) : (s.modLap g).draws = s.draws := rfl
@[simp] theorem State.modLap_pending (g : Lap → Lap) : (s.modLap g).pending = s.pending := rfl

/-! ### `modAdc` -/

@[simp] theorem State.modAdc_mode (g : Adc → Adc) : (s.modAdc g).mode = s.mode := rfl
@[simp] theorem State.modAdc_cycles (g : Adc → Adc) : (s.modAdc g).cycles = s.cycles := rfl
@[simp] theorem State.modAdc_nextTick (g : Adc → Adc) : (s.modAdc g).nextTick = s.nextTick := rfl
@[simp] theorem State.modAdc_clkStopped (g : Adc → Adc) : (s.modAdc g).clkStopped = s.clkStopped := rfl
@[simp] theorem State.modAdc_tmode (g : Adc → Adc) : (s.modAdc g).tmode = s.tmode := rfl
@[simp] theorem State.modAdc_tickOld (g : Adc → Adc) : (s.modAdc g).tickOld = s.tickOld := rfl
@[simp] theorem State.modAdc_burst (g : Adc → Adc) : (s.modAdc g).burst = s.burst := rfl
@[simp] theorem State.modAdc_awaits (g : Adc → Adc) : (s.modAdc g).awaits = s.awaits := rfl
@[simp] theorem State.modAdc_mon (g : Adc → Adc) : (s.modAdc g).mon = s.mon := rfl
@[simp] theorem State.modAdc_dbBoot (g : Adc → Adc) : (s.modAdc g).dbBoot = s.dbBoot := rfl
@[simp] theorem State.modAdc_bootPort (g : Adc → Adc) : (s.modAdc g).bootPort = s.bootPort := rfl
@[simp] theorem State.modAdc_imgAuth (g : Adc → Adc) : (s.modAdc g).imgAuth = s.imgAuth := rfl
@[simp] theorem State.modAdc_bow (g : Adc → Adc) : (s.modAdc g).bow = s.bow := rfl
@[simp] theorem State.modAdc_bootSlot (g : Adc → Adc) : (s.modAdc g).bootSlot = s.bootSlot := rfl
@[simp] theorem State.modAdc_vbusOk (g : Adc → Adc) : (s.modAdc g).vbusOk = s.vbusOk := rfl
@[simp] theorem State.modAdc_batOk (g : Adc → Adc) : (s.modAdc g).batOk = s.batOk := rfl
@[simp] theorem State.modAdc_auxOk (g : Adc → Adc) : (s.modAdc g).auxOk = s.auxOk := rfl
@[simp] theorem State.modAdc_tsd (g : Adc → Adc) : (s.modAdc g).tsd = s.tsd := rfl
@[simp] theorem State.modAdc_sentEntry (g : Adc → Adc) : (s.modAdc g).sentEntry = s.sentEntry := rfl
@[simp] theorem State.modAdc_lastWake (g : Adc → Adc) : (s.modAdc g).lastWake = s.lastWake := rfl
@[simp] theorem State.modAdc_wakes (g : Adc → Adc) : (s.modAdc g).wakes = s.wakes := rfl
@[simp] theorem State.modAdc_sense (g : Adc → Adc) : (s.modAdc g).sense = s.sense := rfl
@[simp] theorem State.modAdc_regs (g : Adc → Adc) : (s.modAdc g).regs = s.regs := rfl
@[simp] theorem State.modAdc_fa (g : Adc → Adc) : (s.modAdc g).fa = s.fa := rfl
@[simp] theorem State.modAdc_fb (g : Adc → Adc) : (s.modAdc g).fb = s.fb := rfl
@[simp] theorem State.modAdc_fc (g : Adc → Adc) : (s.modAdc g).fc = s.fc := rfl
@[simp] theorem State.modAdc_fd (g : Adc → Adc) : (s.modAdc g).fd = s.fd := rfl
@[simp] theorem State.modAdc_hub (g : Adc → Adc) : (s.modAdc g).hub = s.hub := rfl
@[simp] theorem State.modAdc_flt0 (g : Adc → Adc) : (s.modAdc g).flt0 = s.flt0 := rfl
@[simp] theorem State.modAdc_flt1 (g : Adc → Adc) : (s.modAdc g).flt1 = s.flt1 := rfl
@[simp] theorem State.modAdc_flt2 (g : Adc → Adc) : (s.modAdc g).flt2 = s.flt2 := rfl
@[simp] theorem State.modAdc_flt3 (g : Adc → Adc) : (s.modAdc g).flt3 = s.flt3 := rfl
@[simp] theorem State.modAdc_flt4 (g : Adc → Adc) : (s.modAdc g).flt4 = s.flt4 := rfl
@[simp] theorem State.modAdc_flt5 (g : Adc → Adc) : (s.modAdc g).flt5 = s.flt5 := rfl
@[simp] theorem State.modAdc_fltCfg (g : Adc → Adc) : (s.modAdc g).fltCfg = s.fltCfg := rfl
@[simp] theorem State.modAdc_ldr (g : Adc → Adc) : (s.modAdc g).ldr = s.ldr := rfl
@[simp] theorem State.modAdc_onx (g : Adc → Adc) : (s.modAdc g).onx = s.onx := rfl
@[simp] theorem State.modAdc_nvm (g : Adc → Adc) : (s.modAdc g).nvm = s.nvm := rfl
@[simp] theorem State.modAdc_lap (g : Adc → Adc) : (s.modAdc g).lap = s.lap := rfl
@[simp] theorem State.modAdc_q0 (g : Adc → Adc) : (s.modAdc g).q0 = s.q0 := rfl
@[simp] theorem State.modAdc_q1 (g : Adc → Adc) : (s.modAdc g).q1 = s.q1 := rfl
@[simp] theorem State.modAdc_q2 (g : Adc → Adc) : (s.modAdc g).q2 = s.q2 := rfl
@[simp] theorem State.modAdc_q3 (g : Adc → Adc) : (s.modAdc g).q3 = s.q3 := rfl
@[simp] theorem State.modAdc_q4 (g : Adc → Adc) : (s.modAdc g).q4 = s.q4 := rfl
@[simp] theorem State.modAdc_m0 (g : Adc → Adc) : (s.modAdc g).m0 = s.m0 := rfl
@[simp] theorem State.modAdc_m1 (g : Adc → Adc) : (s.modAdc g).m1 = s.m1 := rfl
@[simp] theorem State.modAdc_m2 (g : Adc → Adc) : (s.modAdc g).m2 = s.m2 := rfl
@[simp] theorem State.modAdc_m3 (g : Adc → Adc) : (s.modAdc g).m3 = s.m3 := rfl
@[simp] theorem State.modAdc_m4 (g : Adc → Adc) : (s.modAdc g).m4 = s.m4 := rfl
@[simp] theorem State.modAdc_wmHi (g : Adc → Adc) : (s.modAdc g).wmHi = s.wmHi := rfl
@[simp] theorem State.modAdc_wmLo (g : Adc → Adc) : (s.modAdc g).wmLo = s.wmLo := rfl
@[simp] theorem State.modAdc_wmSetHi (g : Adc → Adc) : (s.modAdc g).wmSetHi = s.wmSetHi := rfl
@[simp] theorem State.modAdc_wmSetLo (g : Adc → Adc) : (s.modAdc g).wmSetLo = s.wmSetLo := rfl
@[simp] theorem State.modAdc_svc (g : Adc → Adc) : (s.modAdc g).svc = s.svc := rfl
@[simp] theorem State.modAdc_gpio (g : Adc → Adc) : (s.modAdc g).gpio = s.gpio := rfl
@[simp] theorem State.modAdc_posts (g : Adc → Adc) : (s.modAdc g).posts = s.posts := rfl
@[simp] theorem State.modAdc_todo (g : Adc → Adc) : (s.modAdc g).todo = s.todo := rfl
@[simp] theorem State.modAdc_draws (g : Adc → Adc) : (s.modAdc g).draws = s.draws := rfl
@[simp] theorem State.modAdc_pending (g : Adc → Adc) : (s.modAdc g).pending = s.pending := rfl

/-! ### `modSvc` -/

@[simp] theorem State.modSvc_mode (g : Svc → Svc) : (s.modSvc g).mode = s.mode := rfl
@[simp] theorem State.modSvc_cycles (g : Svc → Svc) : (s.modSvc g).cycles = s.cycles := rfl
@[simp] theorem State.modSvc_nextTick (g : Svc → Svc) : (s.modSvc g).nextTick = s.nextTick := rfl
@[simp] theorem State.modSvc_clkStopped (g : Svc → Svc) : (s.modSvc g).clkStopped = s.clkStopped := rfl
@[simp] theorem State.modSvc_tmode (g : Svc → Svc) : (s.modSvc g).tmode = s.tmode := rfl
@[simp] theorem State.modSvc_tickOld (g : Svc → Svc) : (s.modSvc g).tickOld = s.tickOld := rfl
@[simp] theorem State.modSvc_burst (g : Svc → Svc) : (s.modSvc g).burst = s.burst := rfl
@[simp] theorem State.modSvc_awaits (g : Svc → Svc) : (s.modSvc g).awaits = s.awaits := rfl
@[simp] theorem State.modSvc_mon (g : Svc → Svc) : (s.modSvc g).mon = s.mon := rfl
@[simp] theorem State.modSvc_dbBoot (g : Svc → Svc) : (s.modSvc g).dbBoot = s.dbBoot := rfl
@[simp] theorem State.modSvc_bootPort (g : Svc → Svc) : (s.modSvc g).bootPort = s.bootPort := rfl
@[simp] theorem State.modSvc_imgAuth (g : Svc → Svc) : (s.modSvc g).imgAuth = s.imgAuth := rfl
@[simp] theorem State.modSvc_bow (g : Svc → Svc) : (s.modSvc g).bow = s.bow := rfl
@[simp] theorem State.modSvc_bootSlot (g : Svc → Svc) : (s.modSvc g).bootSlot = s.bootSlot := rfl
@[simp] theorem State.modSvc_vbusOk (g : Svc → Svc) : (s.modSvc g).vbusOk = s.vbusOk := rfl
@[simp] theorem State.modSvc_batOk (g : Svc → Svc) : (s.modSvc g).batOk = s.batOk := rfl
@[simp] theorem State.modSvc_auxOk (g : Svc → Svc) : (s.modSvc g).auxOk = s.auxOk := rfl
@[simp] theorem State.modSvc_tsd (g : Svc → Svc) : (s.modSvc g).tsd = s.tsd := rfl
@[simp] theorem State.modSvc_sentEntry (g : Svc → Svc) : (s.modSvc g).sentEntry = s.sentEntry := rfl
@[simp] theorem State.modSvc_lastWake (g : Svc → Svc) : (s.modSvc g).lastWake = s.lastWake := rfl
@[simp] theorem State.modSvc_wakes (g : Svc → Svc) : (s.modSvc g).wakes = s.wakes := rfl
@[simp] theorem State.modSvc_sense (g : Svc → Svc) : (s.modSvc g).sense = s.sense := rfl
@[simp] theorem State.modSvc_regs (g : Svc → Svc) : (s.modSvc g).regs = s.regs := rfl
@[simp] theorem State.modSvc_fa (g : Svc → Svc) : (s.modSvc g).fa = s.fa := rfl
@[simp] theorem State.modSvc_fb (g : Svc → Svc) : (s.modSvc g).fb = s.fb := rfl
@[simp] theorem State.modSvc_fc (g : Svc → Svc) : (s.modSvc g).fc = s.fc := rfl
@[simp] theorem State.modSvc_fd (g : Svc → Svc) : (s.modSvc g).fd = s.fd := rfl
@[simp] theorem State.modSvc_hub (g : Svc → Svc) : (s.modSvc g).hub = s.hub := rfl
@[simp] theorem State.modSvc_flt0 (g : Svc → Svc) : (s.modSvc g).flt0 = s.flt0 := rfl
@[simp] theorem State.modSvc_flt1 (g : Svc → Svc) : (s.modSvc g).flt1 = s.flt1 := rfl
@[simp] theorem State.modSvc_flt2 (g : Svc → Svc) : (s.modSvc g).flt2 = s.flt2 := rfl
@[simp] theorem State.modSvc_flt3 (g : Svc → Svc) : (s.modSvc g).flt3 = s.flt3 := rfl
@[simp] theorem State.modSvc_flt4 (g : Svc → Svc) : (s.modSvc g).flt4 = s.flt4 := rfl
@[simp] theorem State.modSvc_flt5 (g : Svc → Svc) : (s.modSvc g).flt5 = s.flt5 := rfl
@[simp] theorem State.modSvc_fltCfg (g : Svc → Svc) : (s.modSvc g).fltCfg = s.fltCfg := rfl
@[simp] theorem State.modSvc_ldr (g : Svc → Svc) : (s.modSvc g).ldr = s.ldr := rfl
@[simp] theorem State.modSvc_onx (g : Svc → Svc) : (s.modSvc g).onx = s.onx := rfl
@[simp] theorem State.modSvc_nvm (g : Svc → Svc) : (s.modSvc g).nvm = s.nvm := rfl
@[simp] theorem State.modSvc_lap (g : Svc → Svc) : (s.modSvc g).lap = s.lap := rfl
@[simp] theorem State.modSvc_q0 (g : Svc → Svc) : (s.modSvc g).q0 = s.q0 := rfl
@[simp] theorem State.modSvc_q1 (g : Svc → Svc) : (s.modSvc g).q1 = s.q1 := rfl
@[simp] theorem State.modSvc_q2 (g : Svc → Svc) : (s.modSvc g).q2 = s.q2 := rfl
@[simp] theorem State.modSvc_q3 (g : Svc → Svc) : (s.modSvc g).q3 = s.q3 := rfl
@[simp] theorem State.modSvc_q4 (g : Svc → Svc) : (s.modSvc g).q4 = s.q4 := rfl
@[simp] theorem State.modSvc_m0 (g : Svc → Svc) : (s.modSvc g).m0 = s.m0 := rfl
@[simp] theorem State.modSvc_m1 (g : Svc → Svc) : (s.modSvc g).m1 = s.m1 := rfl
@[simp] theorem State.modSvc_m2 (g : Svc → Svc) : (s.modSvc g).m2 = s.m2 := rfl
@[simp] theorem State.modSvc_m3 (g : Svc → Svc) : (s.modSvc g).m3 = s.m3 := rfl
@[simp] theorem State.modSvc_m4 (g : Svc → Svc) : (s.modSvc g).m4 = s.m4 := rfl
@[simp] theorem State.modSvc_adc (g : Svc → Svc) : (s.modSvc g).adc = s.adc := rfl
@[simp] theorem State.modSvc_wmHi (g : Svc → Svc) : (s.modSvc g).wmHi = s.wmHi := rfl
@[simp] theorem State.modSvc_wmLo (g : Svc → Svc) : (s.modSvc g).wmLo = s.wmLo := rfl
@[simp] theorem State.modSvc_wmSetHi (g : Svc → Svc) : (s.modSvc g).wmSetHi = s.wmSetHi := rfl
@[simp] theorem State.modSvc_wmSetLo (g : Svc → Svc) : (s.modSvc g).wmSetLo = s.wmSetLo := rfl
@[simp] theorem State.modSvc_gpio (g : Svc → Svc) : (s.modSvc g).gpio = s.gpio := rfl
@[simp] theorem State.modSvc_posts (g : Svc → Svc) : (s.modSvc g).posts = s.posts := rfl
@[simp] theorem State.modSvc_todo (g : Svc → Svc) : (s.modSvc g).todo = s.todo := rfl
@[simp] theorem State.modSvc_draws (g : Svc → Svc) : (s.modSvc g).draws = s.draws := rfl
@[simp] theorem State.modSvc_pending (g : Svc → Svc) : (s.modSvc g).pending = s.pending := rfl

/-! ### `modGpio` -/

@[simp] theorem State.modGpio_mode (g : Gpio → Gpio) : (s.modGpio g).mode = s.mode := rfl
@[simp] theorem State.modGpio_cycles (g : Gpio → Gpio) : (s.modGpio g).cycles = s.cycles := rfl
@[simp] theorem State.modGpio_nextTick (g : Gpio → Gpio) : (s.modGpio g).nextTick = s.nextTick := rfl
@[simp] theorem State.modGpio_clkStopped (g : Gpio → Gpio) : (s.modGpio g).clkStopped = s.clkStopped := rfl
@[simp] theorem State.modGpio_tmode (g : Gpio → Gpio) : (s.modGpio g).tmode = s.tmode := rfl
@[simp] theorem State.modGpio_tickOld (g : Gpio → Gpio) : (s.modGpio g).tickOld = s.tickOld := rfl
@[simp] theorem State.modGpio_burst (g : Gpio → Gpio) : (s.modGpio g).burst = s.burst := rfl
@[simp] theorem State.modGpio_awaits (g : Gpio → Gpio) : (s.modGpio g).awaits = s.awaits := rfl
@[simp] theorem State.modGpio_mon (g : Gpio → Gpio) : (s.modGpio g).mon = s.mon := rfl
@[simp] theorem State.modGpio_dbBoot (g : Gpio → Gpio) : (s.modGpio g).dbBoot = s.dbBoot := rfl
@[simp] theorem State.modGpio_bootPort (g : Gpio → Gpio) : (s.modGpio g).bootPort = s.bootPort := rfl
@[simp] theorem State.modGpio_imgAuth (g : Gpio → Gpio) : (s.modGpio g).imgAuth = s.imgAuth := rfl
@[simp] theorem State.modGpio_bow (g : Gpio → Gpio) : (s.modGpio g).bow = s.bow := rfl
@[simp] theorem State.modGpio_bootSlot (g : Gpio → Gpio) : (s.modGpio g).bootSlot = s.bootSlot := rfl
@[simp] theorem State.modGpio_vbusOk (g : Gpio → Gpio) : (s.modGpio g).vbusOk = s.vbusOk := rfl
@[simp] theorem State.modGpio_batOk (g : Gpio → Gpio) : (s.modGpio g).batOk = s.batOk := rfl
@[simp] theorem State.modGpio_auxOk (g : Gpio → Gpio) : (s.modGpio g).auxOk = s.auxOk := rfl
@[simp] theorem State.modGpio_tsd (g : Gpio → Gpio) : (s.modGpio g).tsd = s.tsd := rfl
@[simp] theorem State.modGpio_sentEntry (g : Gpio → Gpio) : (s.modGpio g).sentEntry = s.sentEntry := rfl
@[simp] theorem State.modGpio_lastWake (g : Gpio → Gpio) : (s.modGpio g).lastWake = s.lastWake := rfl
@[simp] theorem State.modGpio_wakes (g : Gpio → Gpio) : (s.modGpio g).wakes = s.wakes := rfl
@[simp] theorem State.modGpio_sense (g : Gpio → Gpio) : (s.modGpio g).sense = s.sense := rfl
@[simp] theorem State.modGpio_regs (g : Gpio → Gpio) : (s.modGpio g).regs = s.regs := rfl
@[simp] theorem State.modGpio_fa (g : Gpio → Gpio) : (s.modGpio g).fa = s.fa := rfl
@[simp] theorem State.modGpio_fb (g : Gpio → Gpio) : (s.modGpio g).fb = s.fb := rfl
@[simp] theorem State.modGpio_fc (g : Gpio → Gpio) : (s.modGpio g).fc = s.fc := rfl
@[simp] theorem State.modGpio_fd (g : Gpio → Gpio) : (s.modGpio g).fd = s.fd := rfl
@[simp] theorem State.modGpio_hub (g : Gpio → Gpio) : (s.modGpio g).hub = s.hub := rfl
@[simp] theorem State.modGpio_flt0 (g : Gpio → Gpio) : (s.modGpio g).flt0 = s.flt0 := rfl
@[simp] theorem State.modGpio_flt1 (g : Gpio → Gpio) : (s.modGpio g).flt1 = s.flt1 := rfl
@[simp] theorem State.modGpio_flt2 (g : Gpio → Gpio) : (s.modGpio g).flt2 = s.flt2 := rfl
@[simp] theorem State.modGpio_flt3 (g : Gpio → Gpio) : (s.modGpio g).flt3 = s.flt3 := rfl
@[simp] theorem State.modGpio_flt4 (g : Gpio → Gpio) : (s.modGpio g).flt4 = s.flt4 := rfl
@[simp] theorem State.modGpio_flt5 (g : Gpio → Gpio) : (s.modGpio g).flt5 = s.flt5 := rfl
@[simp] theorem State.modGpio_fltCfg (g : Gpio → Gpio) : (s.modGpio g).fltCfg = s.fltCfg := rfl
@[simp] theorem State.modGpio_ldr (g : Gpio → Gpio) : (s.modGpio g).ldr = s.ldr := rfl
@[simp] theorem State.modGpio_onx (g : Gpio → Gpio) : (s.modGpio g).onx = s.onx := rfl
@[simp] theorem State.modGpio_nvm (g : Gpio → Gpio) : (s.modGpio g).nvm = s.nvm := rfl
@[simp] theorem State.modGpio_lap (g : Gpio → Gpio) : (s.modGpio g).lap = s.lap := rfl
@[simp] theorem State.modGpio_q0 (g : Gpio → Gpio) : (s.modGpio g).q0 = s.q0 := rfl
@[simp] theorem State.modGpio_q1 (g : Gpio → Gpio) : (s.modGpio g).q1 = s.q1 := rfl
@[simp] theorem State.modGpio_q2 (g : Gpio → Gpio) : (s.modGpio g).q2 = s.q2 := rfl
@[simp] theorem State.modGpio_q3 (g : Gpio → Gpio) : (s.modGpio g).q3 = s.q3 := rfl
@[simp] theorem State.modGpio_q4 (g : Gpio → Gpio) : (s.modGpio g).q4 = s.q4 := rfl
@[simp] theorem State.modGpio_m0 (g : Gpio → Gpio) : (s.modGpio g).m0 = s.m0 := rfl
@[simp] theorem State.modGpio_m1 (g : Gpio → Gpio) : (s.modGpio g).m1 = s.m1 := rfl
@[simp] theorem State.modGpio_m2 (g : Gpio → Gpio) : (s.modGpio g).m2 = s.m2 := rfl
@[simp] theorem State.modGpio_m3 (g : Gpio → Gpio) : (s.modGpio g).m3 = s.m3 := rfl
@[simp] theorem State.modGpio_m4 (g : Gpio → Gpio) : (s.modGpio g).m4 = s.m4 := rfl
@[simp] theorem State.modGpio_adc (g : Gpio → Gpio) : (s.modGpio g).adc = s.adc := rfl
@[simp] theorem State.modGpio_wmHi (g : Gpio → Gpio) : (s.modGpio g).wmHi = s.wmHi := rfl
@[simp] theorem State.modGpio_wmLo (g : Gpio → Gpio) : (s.modGpio g).wmLo = s.wmLo := rfl
@[simp] theorem State.modGpio_wmSetHi (g : Gpio → Gpio) : (s.modGpio g).wmSetHi = s.wmSetHi := rfl
@[simp] theorem State.modGpio_wmSetLo (g : Gpio → Gpio) : (s.modGpio g).wmSetLo = s.wmSetLo := rfl
@[simp] theorem State.modGpio_svc (g : Gpio → Gpio) : (s.modGpio g).svc = s.svc := rfl
@[simp] theorem State.modGpio_posts (g : Gpio → Gpio) : (s.modGpio g).posts = s.posts := rfl
@[simp] theorem State.modGpio_todo (g : Gpio → Gpio) : (s.modGpio g).todo = s.todo := rfl
@[simp] theorem State.modGpio_draws (g : Gpio → Gpio) : (s.modGpio g).draws = s.draws := rfl
@[simp] theorem State.modGpio_pending (g : Gpio → Gpio) : (s.modGpio g).pending = s.pending := rfl

/-! ### `modHub` -/

@[simp] theorem State.modHub_mode (g : Hub → Hub) : (s.modHub g).mode = s.mode := rfl
@[simp] theorem State.modHub_cycles (g : Hub → Hub) : (s.modHub g).cycles = s.cycles := rfl
@[simp] theorem State.modHub_nextTick (g : Hub → Hub) : (s.modHub g).nextTick = s.nextTick := rfl
@[simp] theorem State.modHub_clkStopped (g : Hub → Hub) : (s.modHub g).clkStopped = s.clkStopped := rfl
@[simp] theorem State.modHub_tmode (g : Hub → Hub) : (s.modHub g).tmode = s.tmode := rfl
@[simp] theorem State.modHub_tickOld (g : Hub → Hub) : (s.modHub g).tickOld = s.tickOld := rfl
@[simp] theorem State.modHub_burst (g : Hub → Hub) : (s.modHub g).burst = s.burst := rfl
@[simp] theorem State.modHub_awaits (g : Hub → Hub) : (s.modHub g).awaits = s.awaits := rfl
@[simp] theorem State.modHub_mon (g : Hub → Hub) : (s.modHub g).mon = s.mon := rfl
@[simp] theorem State.modHub_dbBoot (g : Hub → Hub) : (s.modHub g).dbBoot = s.dbBoot := rfl
@[simp] theorem State.modHub_bootPort (g : Hub → Hub) : (s.modHub g).bootPort = s.bootPort := rfl
@[simp] theorem State.modHub_imgAuth (g : Hub → Hub) : (s.modHub g).imgAuth = s.imgAuth := rfl
@[simp] theorem State.modHub_bow (g : Hub → Hub) : (s.modHub g).bow = s.bow := rfl
@[simp] theorem State.modHub_bootSlot (g : Hub → Hub) : (s.modHub g).bootSlot = s.bootSlot := rfl
@[simp] theorem State.modHub_vbusOk (g : Hub → Hub) : (s.modHub g).vbusOk = s.vbusOk := rfl
@[simp] theorem State.modHub_batOk (g : Hub → Hub) : (s.modHub g).batOk = s.batOk := rfl
@[simp] theorem State.modHub_auxOk (g : Hub → Hub) : (s.modHub g).auxOk = s.auxOk := rfl
@[simp] theorem State.modHub_tsd (g : Hub → Hub) : (s.modHub g).tsd = s.tsd := rfl
@[simp] theorem State.modHub_sentEntry (g : Hub → Hub) : (s.modHub g).sentEntry = s.sentEntry := rfl
@[simp] theorem State.modHub_lastWake (g : Hub → Hub) : (s.modHub g).lastWake = s.lastWake := rfl
@[simp] theorem State.modHub_wakes (g : Hub → Hub) : (s.modHub g).wakes = s.wakes := rfl
@[simp] theorem State.modHub_sense (g : Hub → Hub) : (s.modHub g).sense = s.sense := rfl
@[simp] theorem State.modHub_regs (g : Hub → Hub) : (s.modHub g).regs = s.regs := rfl
@[simp] theorem State.modHub_fa (g : Hub → Hub) : (s.modHub g).fa = s.fa := rfl
@[simp] theorem State.modHub_fb (g : Hub → Hub) : (s.modHub g).fb = s.fb := rfl
@[simp] theorem State.modHub_fc (g : Hub → Hub) : (s.modHub g).fc = s.fc := rfl
@[simp] theorem State.modHub_fd (g : Hub → Hub) : (s.modHub g).fd = s.fd := rfl
@[simp] theorem State.modHub_flt0 (g : Hub → Hub) : (s.modHub g).flt0 = s.flt0 := rfl
@[simp] theorem State.modHub_flt1 (g : Hub → Hub) : (s.modHub g).flt1 = s.flt1 := rfl
@[simp] theorem State.modHub_flt2 (g : Hub → Hub) : (s.modHub g).flt2 = s.flt2 := rfl
@[simp] theorem State.modHub_flt3 (g : Hub → Hub) : (s.modHub g).flt3 = s.flt3 := rfl
@[simp] theorem State.modHub_flt4 (g : Hub → Hub) : (s.modHub g).flt4 = s.flt4 := rfl
@[simp] theorem State.modHub_flt5 (g : Hub → Hub) : (s.modHub g).flt5 = s.flt5 := rfl
@[simp] theorem State.modHub_fltCfg (g : Hub → Hub) : (s.modHub g).fltCfg = s.fltCfg := rfl
@[simp] theorem State.modHub_ldr (g : Hub → Hub) : (s.modHub g).ldr = s.ldr := rfl
@[simp] theorem State.modHub_onx (g : Hub → Hub) : (s.modHub g).onx = s.onx := rfl
@[simp] theorem State.modHub_nvm (g : Hub → Hub) : (s.modHub g).nvm = s.nvm := rfl
@[simp] theorem State.modHub_lap (g : Hub → Hub) : (s.modHub g).lap = s.lap := rfl
@[simp] theorem State.modHub_q0 (g : Hub → Hub) : (s.modHub g).q0 = s.q0 := rfl
@[simp] theorem State.modHub_q1 (g : Hub → Hub) : (s.modHub g).q1 = s.q1 := rfl
@[simp] theorem State.modHub_q2 (g : Hub → Hub) : (s.modHub g).q2 = s.q2 := rfl
@[simp] theorem State.modHub_q3 (g : Hub → Hub) : (s.modHub g).q3 = s.q3 := rfl
@[simp] theorem State.modHub_q4 (g : Hub → Hub) : (s.modHub g).q4 = s.q4 := rfl
@[simp] theorem State.modHub_m0 (g : Hub → Hub) : (s.modHub g).m0 = s.m0 := rfl
@[simp] theorem State.modHub_m1 (g : Hub → Hub) : (s.modHub g).m1 = s.m1 := rfl
@[simp] theorem State.modHub_m2 (g : Hub → Hub) : (s.modHub g).m2 = s.m2 := rfl
@[simp] theorem State.modHub_m3 (g : Hub → Hub) : (s.modHub g).m3 = s.m3 := rfl
@[simp] theorem State.modHub_m4 (g : Hub → Hub) : (s.modHub g).m4 = s.m4 := rfl
@[simp] theorem State.modHub_adc (g : Hub → Hub) : (s.modHub g).adc = s.adc := rfl
@[simp] theorem State.modHub_wmHi (g : Hub → Hub) : (s.modHub g).wmHi = s.wmHi := rfl
@[simp] theorem State.modHub_wmLo (g : Hub → Hub) : (s.modHub g).wmLo = s.wmLo := rfl
@[simp] theorem State.modHub_wmSetHi (g : Hub → Hub) : (s.modHub g).wmSetHi = s.wmSetHi := rfl
@[simp] theorem State.modHub_wmSetLo (g : Hub → Hub) : (s.modHub g).wmSetLo = s.wmSetLo := rfl
@[simp] theorem State.modHub_svc (g : Hub → Hub) : (s.modHub g).svc = s.svc := rfl
@[simp] theorem State.modHub_gpio (g : Hub → Hub) : (s.modHub g).gpio = s.gpio := rfl
@[simp] theorem State.modHub_posts (g : Hub → Hub) : (s.modHub g).posts = s.posts := rfl
@[simp] theorem State.modHub_todo (g : Hub → Hub) : (s.modHub g).todo = s.todo := rfl
@[simp] theorem State.modHub_draws (g : Hub → Hub) : (s.modHub g).draws = s.draws := rfl
@[simp] theorem State.modHub_pending (g : Hub → Hub) : (s.modHub g).pending = s.pending := rfl

/-! ### `modFeed` -/

@[simp] theorem State.modFeed_mode (b : Bus) (g : FeedBus → FeedBus) : (s.modFeed b g).mode = s.mode := by cases b <;> rfl
@[simp] theorem State.modFeed_cycles (b : Bus) (g : FeedBus → FeedBus) : (s.modFeed b g).cycles = s.cycles := by cases b <;> rfl
@[simp] theorem State.modFeed_nextTick (b : Bus) (g : FeedBus → FeedBus) : (s.modFeed b g).nextTick = s.nextTick := by cases b <;> rfl
@[simp] theorem State.modFeed_clkStopped (b : Bus) (g : FeedBus → FeedBus) : (s.modFeed b g).clkStopped = s.clkStopped := by cases b <;> rfl
@[simp] theorem State.modFeed_tmode (b : Bus) (g : FeedBus → FeedBus) : (s.modFeed b g).tmode = s.tmode := by cases b <;> rfl
@[simp] theorem State.modFeed_tickOld (b : Bus) (g : FeedBus → FeedBus) : (s.modFeed b g).tickOld = s.tickOld := by cases b <;> rfl
@[simp] theorem State.modFeed_burst (b : Bus) (g : FeedBus → FeedBus) : (s.modFeed b g).burst = s.burst := by cases b <;> rfl
@[simp] theorem State.modFeed_awaits (b : Bus) (g : FeedBus → FeedBus) : (s.modFeed b g).awaits = s.awaits := by cases b <;> rfl
@[simp] theorem State.modFeed_mon (b : Bus) (g : FeedBus → FeedBus) : (s.modFeed b g).mon = s.mon := by cases b <;> rfl
@[simp] theorem State.modFeed_dbBoot (b : Bus) (g : FeedBus → FeedBus) : (s.modFeed b g).dbBoot = s.dbBoot := by cases b <;> rfl
@[simp] theorem State.modFeed_bootPort (b : Bus) (g : FeedBus → FeedBus) : (s.modFeed b g).bootPort = s.bootPort := by cases b <;> rfl
@[simp] theorem State.modFeed_imgAuth (b : Bus) (g : FeedBus → FeedBus) : (s.modFeed b g).imgAuth = s.imgAuth := by cases b <;> rfl
@[simp] theorem State.modFeed_bow (b : Bus) (g : FeedBus → FeedBus) : (s.modFeed b g).bow = s.bow := by cases b <;> rfl
@[simp] theorem State.modFeed_bootSlot (b : Bus) (g : FeedBus → FeedBus) : (s.modFeed b g).bootSlot = s.bootSlot := by cases b <;> rfl
@[simp] theorem State.modFeed_vbusOk (b : Bus) (g : FeedBus → FeedBus) : (s.modFeed b g).vbusOk = s.vbusOk := by cases b <;> rfl
@[simp] theorem State.modFeed_batOk (b : Bus) (g : FeedBus → FeedBus) : (s.modFeed b g).batOk = s.batOk := by cases b <;> rfl
@[simp] theorem State.modFeed_auxOk (b : Bus) (g : FeedBus → FeedBus) : (s.modFeed b g).auxOk = s.auxOk := by cases b <;> rfl
@[simp] theorem State.modFeed_tsd (b : Bus) (g : FeedBus → FeedBus) : (s.modFeed b g).tsd = s.tsd := by cases b <;> rfl
@[simp] theorem State.modFeed_sentEntry (b : Bus) (g : FeedBus → FeedBus) : (s.modFeed b g).sentEntry = s.sentEntry := by cases b <;> rfl
@[simp] theorem State.modFeed_lastWake (b : Bus) (g : FeedBus → FeedBus) : (s.modFeed b g).lastWake = s.lastWake := by cases b <;> rfl
@[simp] theorem State.modFeed_wakes (b : Bus) (g : FeedBus → FeedBus) : (s.modFeed b g).wakes = s.wakes := by cases b <;> rfl
@[simp] theorem State.modFeed_sense (b : Bus) (g : FeedBus → FeedBus) : (s.modFeed b g).sense = s.sense := by cases b <;> rfl
@[simp] theorem State.modFeed_regs (b : Bus) (g : FeedBus → FeedBus) : (s.modFeed b g).regs = s.regs := by cases b <;> rfl
@[simp] theorem State.modFeed_fa (b : Bus) (g : FeedBus → FeedBus) : (s.modFeed b g).fa = s.fa := by cases b <;> rfl
@[simp] theorem State.modFeed_fb (b : Bus) (g : FeedBus → FeedBus) : (s.modFeed b g).fb = s.fb := by cases b <;> rfl
@[simp] theorem State.modFeed_fc (b : Bus) (g : FeedBus → FeedBus) : (s.modFeed b g).fc = s.fc := by cases b <;> rfl
@[simp] theorem State.modFeed_fd (b : Bus) (g : FeedBus → FeedBus) : (s.modFeed b g).fd = s.fd := by cases b <;> rfl
@[simp] theorem State.modFeed_flt0 (b : Bus) (g : FeedBus → FeedBus) : (s.modFeed b g).flt0 = s.flt0 := by cases b <;> rfl
@[simp] theorem State.modFeed_flt1 (b : Bus) (g : FeedBus → FeedBus) : (s.modFeed b g).flt1 = s.flt1 := by cases b <;> rfl
@[simp] theorem State.modFeed_flt2 (b : Bus) (g : FeedBus → FeedBus) : (s.modFeed b g).flt2 = s.flt2 := by cases b <;> rfl
@[simp] theorem State.modFeed_flt3 (b : Bus) (g : FeedBus → FeedBus) : (s.modFeed b g).flt3 = s.flt3 := by cases b <;> rfl
@[simp] theorem State.modFeed_flt4 (b : Bus) (g : FeedBus → FeedBus) : (s.modFeed b g).flt4 = s.flt4 := by cases b <;> rfl
@[simp] theorem State.modFeed_flt5 (b : Bus) (g : FeedBus → FeedBus) : (s.modFeed b g).flt5 = s.flt5 := by cases b <;> rfl
@[simp] theorem State.modFeed_fltCfg (b : Bus) (g : FeedBus → FeedBus) : (s.modFeed b g).fltCfg = s.fltCfg := by cases b <;> rfl
@[simp] theorem State.modFeed_ldr (b : Bus) (g : FeedBus → FeedBus) : (s.modFeed b g).ldr = s.ldr := by cases b <;> rfl
@[simp] theorem State.modFeed_onx (b : Bus) (g : FeedBus → FeedBus) : (s.modFeed b g).onx = s.onx := by cases b <;> rfl
@[simp] theorem State.modFeed_nvm (b : Bus) (g : FeedBus → FeedBus) : (s.modFeed b g).nvm = s.nvm := by cases b <;> rfl
@[simp] theorem State.modFeed_lap (b : Bus) (g : FeedBus → FeedBus) : (s.modFeed b g).lap = s.lap := by cases b <;> rfl
@[simp] theorem State.modFeed_q0 (b : Bus) (g : FeedBus → FeedBus) : (s.modFeed b g).q0 = s.q0 := by cases b <;> rfl
@[simp] theorem State.modFeed_q1 (b : Bus) (g : FeedBus → FeedBus) : (s.modFeed b g).q1 = s.q1 := by cases b <;> rfl
@[simp] theorem State.modFeed_q2 (b : Bus) (g : FeedBus → FeedBus) : (s.modFeed b g).q2 = s.q2 := by cases b <;> rfl
@[simp] theorem State.modFeed_q3 (b : Bus) (g : FeedBus → FeedBus) : (s.modFeed b g).q3 = s.q3 := by cases b <;> rfl
@[simp] theorem State.modFeed_q4 (b : Bus) (g : FeedBus → FeedBus) : (s.modFeed b g).q4 = s.q4 := by cases b <;> rfl
@[simp] theorem State.modFeed_m0 (b : Bus) (g : FeedBus → FeedBus) : (s.modFeed b g).m0 = s.m0 := by cases b <;> rfl
@[simp] theorem State.modFeed_m1 (b : Bus) (g : FeedBus → FeedBus) : (s.modFeed b g).m1 = s.m1 := by cases b <;> rfl
@[simp] theorem State.modFeed_m2 (b : Bus) (g : FeedBus → FeedBus) : (s.modFeed b g).m2 = s.m2 := by cases b <;> rfl
@[simp] theorem State.modFeed_m3 (b : Bus) (g : FeedBus → FeedBus) : (s.modFeed b g).m3 = s.m3 := by cases b <;> rfl
@[simp] theorem State.modFeed_m4 (b : Bus) (g : FeedBus → FeedBus) : (s.modFeed b g).m4 = s.m4 := by cases b <;> rfl
@[simp] theorem State.modFeed_adc (b : Bus) (g : FeedBus → FeedBus) : (s.modFeed b g).adc = s.adc := by cases b <;> rfl
@[simp] theorem State.modFeed_wmHi (b : Bus) (g : FeedBus → FeedBus) : (s.modFeed b g).wmHi = s.wmHi := by cases b <;> rfl
@[simp] theorem State.modFeed_wmLo (b : Bus) (g : FeedBus → FeedBus) : (s.modFeed b g).wmLo = s.wmLo := by cases b <;> rfl
@[simp] theorem State.modFeed_wmSetHi (b : Bus) (g : FeedBus → FeedBus) : (s.modFeed b g).wmSetHi = s.wmSetHi := by cases b <;> rfl
@[simp] theorem State.modFeed_wmSetLo (b : Bus) (g : FeedBus → FeedBus) : (s.modFeed b g).wmSetLo = s.wmSetLo := by cases b <;> rfl
@[simp] theorem State.modFeed_svc (b : Bus) (g : FeedBus → FeedBus) : (s.modFeed b g).svc = s.svc := by cases b <;> rfl
@[simp] theorem State.modFeed_gpio (b : Bus) (g : FeedBus → FeedBus) : (s.modFeed b g).gpio = s.gpio := by cases b <;> rfl
@[simp] theorem State.modFeed_posts (b : Bus) (g : FeedBus → FeedBus) : (s.modFeed b g).posts = s.posts := by cases b <;> rfl
@[simp] theorem State.modFeed_todo (b : Bus) (g : FeedBus → FeedBus) : (s.modFeed b g).todo = s.todo := by cases b <;> rfl
@[simp] theorem State.modFeed_draws (b : Bus) (g : FeedBus → FeedBus) : (s.modFeed b g).draws = s.draws := by cases b <;> rfl
@[simp] theorem State.modFeed_pending (b : Bus) (g : FeedBus → FeedBus) : (s.modFeed b g).pending = s.pending := by cases b <;> rfl

/-! ### `setFacet` -/

@[simp] theorem State.setFacet_mode (p : Port) (f : Facet) : (s.setFacet p f).mode = s.mode := by cases p <;> rfl
@[simp] theorem State.setFacet_cycles (p : Port) (f : Facet) : (s.setFacet p f).cycles = s.cycles := by cases p <;> rfl
@[simp] theorem State.setFacet_nextTick (p : Port) (f : Facet) : (s.setFacet p f).nextTick = s.nextTick := by cases p <;> rfl
@[simp] theorem State.setFacet_clkStopped (p : Port) (f : Facet) : (s.setFacet p f).clkStopped = s.clkStopped := by cases p <;> rfl
@[simp] theorem State.setFacet_tmode (p : Port) (f : Facet) : (s.setFacet p f).tmode = s.tmode := by cases p <;> rfl
@[simp] theorem State.setFacet_tickOld (p : Port) (f : Facet) : (s.setFacet p f).tickOld = s.tickOld := by cases p <;> rfl
@[simp] theorem State.setFacet_burst (p : Port) (f : Facet) : (s.setFacet p f).burst = s.burst := by cases p <;> rfl
@[simp] theorem State.setFacet_awaits (p : Port) (f : Facet) : (s.setFacet p f).awaits = s.awaits := by cases p <;> rfl
@[simp] theorem State.setFacet_mon (p : Port) (f : Facet) : (s.setFacet p f).mon = s.mon := by cases p <;> rfl
@[simp] theorem State.setFacet_dbBoot (p : Port) (f : Facet) : (s.setFacet p f).dbBoot = s.dbBoot := by cases p <;> rfl
@[simp] theorem State.setFacet_bootPort (p : Port) (f : Facet) : (s.setFacet p f).bootPort = s.bootPort := by cases p <;> rfl
@[simp] theorem State.setFacet_imgAuth (p : Port) (f : Facet) : (s.setFacet p f).imgAuth = s.imgAuth := by cases p <;> rfl
@[simp] theorem State.setFacet_bow (p : Port) (f : Facet) : (s.setFacet p f).bow = s.bow := by cases p <;> rfl
@[simp] theorem State.setFacet_bootSlot (p : Port) (f : Facet) : (s.setFacet p f).bootSlot = s.bootSlot := by cases p <;> rfl
@[simp] theorem State.setFacet_vbusOk (p : Port) (f : Facet) : (s.setFacet p f).vbusOk = s.vbusOk := by cases p <;> rfl
@[simp] theorem State.setFacet_batOk (p : Port) (f : Facet) : (s.setFacet p f).batOk = s.batOk := by cases p <;> rfl
@[simp] theorem State.setFacet_auxOk (p : Port) (f : Facet) : (s.setFacet p f).auxOk = s.auxOk := by cases p <;> rfl
@[simp] theorem State.setFacet_tsd (p : Port) (f : Facet) : (s.setFacet p f).tsd = s.tsd := by cases p <;> rfl
@[simp] theorem State.setFacet_sentEntry (p : Port) (f : Facet) : (s.setFacet p f).sentEntry = s.sentEntry := by cases p <;> rfl
@[simp] theorem State.setFacet_lastWake (p : Port) (f : Facet) : (s.setFacet p f).lastWake = s.lastWake := by cases p <;> rfl
@[simp] theorem State.setFacet_wakes (p : Port) (f : Facet) : (s.setFacet p f).wakes = s.wakes := by cases p <;> rfl
@[simp] theorem State.setFacet_sense (p : Port) (f : Facet) : (s.setFacet p f).sense = s.sense := by cases p <;> rfl
@[simp] theorem State.setFacet_regs (p : Port) (f : Facet) : (s.setFacet p f).regs = s.regs := by cases p <;> rfl
@[simp] theorem State.setFacet_hub (p : Port) (f : Facet) : (s.setFacet p f).hub = s.hub := by cases p <;> rfl
@[simp] theorem State.setFacet_flt0 (p : Port) (f : Facet) : (s.setFacet p f).flt0 = s.flt0 := by cases p <;> rfl
@[simp] theorem State.setFacet_flt1 (p : Port) (f : Facet) : (s.setFacet p f).flt1 = s.flt1 := by cases p <;> rfl
@[simp] theorem State.setFacet_flt2 (p : Port) (f : Facet) : (s.setFacet p f).flt2 = s.flt2 := by cases p <;> rfl
@[simp] theorem State.setFacet_flt3 (p : Port) (f : Facet) : (s.setFacet p f).flt3 = s.flt3 := by cases p <;> rfl
@[simp] theorem State.setFacet_flt4 (p : Port) (f : Facet) : (s.setFacet p f).flt4 = s.flt4 := by cases p <;> rfl
@[simp] theorem State.setFacet_flt5 (p : Port) (f : Facet) : (s.setFacet p f).flt5 = s.flt5 := by cases p <;> rfl
@[simp] theorem State.setFacet_fltCfg (p : Port) (f : Facet) : (s.setFacet p f).fltCfg = s.fltCfg := by cases p <;> rfl
@[simp] theorem State.setFacet_ldr (p : Port) (f : Facet) : (s.setFacet p f).ldr = s.ldr := by cases p <;> rfl
@[simp] theorem State.setFacet_onx (p : Port) (f : Facet) : (s.setFacet p f).onx = s.onx := by cases p <;> rfl
@[simp] theorem State.setFacet_nvm (p : Port) (f : Facet) : (s.setFacet p f).nvm = s.nvm := by cases p <;> rfl
@[simp] theorem State.setFacet_lap (p : Port) (f : Facet) : (s.setFacet p f).lap = s.lap := by cases p <;> rfl
@[simp] theorem State.setFacet_q0 (p : Port) (f : Facet) : (s.setFacet p f).q0 = s.q0 := by cases p <;> rfl
@[simp] theorem State.setFacet_q1 (p : Port) (f : Facet) : (s.setFacet p f).q1 = s.q1 := by cases p <;> rfl
@[simp] theorem State.setFacet_q2 (p : Port) (f : Facet) : (s.setFacet p f).q2 = s.q2 := by cases p <;> rfl
@[simp] theorem State.setFacet_q3 (p : Port) (f : Facet) : (s.setFacet p f).q3 = s.q3 := by cases p <;> rfl
@[simp] theorem State.setFacet_q4 (p : Port) (f : Facet) : (s.setFacet p f).q4 = s.q4 := by cases p <;> rfl
@[simp] theorem State.setFacet_m0 (p : Port) (f : Facet) : (s.setFacet p f).m0 = s.m0 := by cases p <;> rfl
@[simp] theorem State.setFacet_m1 (p : Port) (f : Facet) : (s.setFacet p f).m1 = s.m1 := by cases p <;> rfl
@[simp] theorem State.setFacet_m2 (p : Port) (f : Facet) : (s.setFacet p f).m2 = s.m2 := by cases p <;> rfl
@[simp] theorem State.setFacet_m3 (p : Port) (f : Facet) : (s.setFacet p f).m3 = s.m3 := by cases p <;> rfl
@[simp] theorem State.setFacet_m4 (p : Port) (f : Facet) : (s.setFacet p f).m4 = s.m4 := by cases p <;> rfl
@[simp] theorem State.setFacet_adc (p : Port) (f : Facet) : (s.setFacet p f).adc = s.adc := by cases p <;> rfl
@[simp] theorem State.setFacet_wmHi (p : Port) (f : Facet) : (s.setFacet p f).wmHi = s.wmHi := by cases p <;> rfl
@[simp] theorem State.setFacet_wmLo (p : Port) (f : Facet) : (s.setFacet p f).wmLo = s.wmLo := by cases p <;> rfl
@[simp] theorem State.setFacet_wmSetHi (p : Port) (f : Facet) : (s.setFacet p f).wmSetHi = s.wmSetHi := by cases p <;> rfl
@[simp] theorem State.setFacet_wmSetLo (p : Port) (f : Facet) : (s.setFacet p f).wmSetLo = s.wmSetLo := by cases p <;> rfl
@[simp] theorem State.setFacet_svc (p : Port) (f : Facet) : (s.setFacet p f).svc = s.svc := by cases p <;> rfl
@[simp] theorem State.setFacet_gpio (p : Port) (f : Facet) : (s.setFacet p f).gpio = s.gpio := by cases p <;> rfl
@[simp] theorem State.setFacet_posts (p : Port) (f : Facet) : (s.setFacet p f).posts = s.posts := by cases p <;> rfl
@[simp] theorem State.setFacet_todo (p : Port) (f : Facet) : (s.setFacet p f).todo = s.todo := by cases p <;> rfl
@[simp] theorem State.setFacet_draws (p : Port) (f : Facet) : (s.setFacet p f).draws = s.draws := by cases p <;> rfl
@[simp] theorem State.setFacet_pending (p : Port) (f : Facet) : (s.setFacet p f).pending = s.pending := by cases p <;> rfl

/-! ### `modF` -/

@[simp] theorem State.modF_mode (p : Port) (g : Facet → Facet) : (s.modF p g).mode = s.mode := by cases p <;> rfl
@[simp] theorem State.modF_cycles (p : Port) (g : Facet → Facet) : (s.modF p g).cycles = s.cycles := by cases p <;> rfl
@[simp] theorem State.modF_nextTick (p : Port) (g : Facet → Facet) : (s.modF p g).nextTick = s.nextTick := by cases p <;> rfl
@[simp] theorem State.modF_clkStopped (p : Port) (g : Facet → Facet) : (s.modF p g).clkStopped = s.clkStopped := by cases p <;> rfl
@[simp] theorem State.modF_tmode (p : Port) (g : Facet → Facet) : (s.modF p g).tmode = s.tmode := by cases p <;> rfl
@[simp] theorem State.modF_tickOld (p : Port) (g : Facet → Facet) : (s.modF p g).tickOld = s.tickOld := by cases p <;> rfl
@[simp] theorem State.modF_burst (p : Port) (g : Facet → Facet) : (s.modF p g).burst = s.burst := by cases p <;> rfl
@[simp] theorem State.modF_awaits (p : Port) (g : Facet → Facet) : (s.modF p g).awaits = s.awaits := by cases p <;> rfl
@[simp] theorem State.modF_mon (p : Port) (g : Facet → Facet) : (s.modF p g).mon = s.mon := by cases p <;> rfl
@[simp] theorem State.modF_dbBoot (p : Port) (g : Facet → Facet) : (s.modF p g).dbBoot = s.dbBoot := by cases p <;> rfl
@[simp] theorem State.modF_bootPort (p : Port) (g : Facet → Facet) : (s.modF p g).bootPort = s.bootPort := by cases p <;> rfl
@[simp] theorem State.modF_imgAuth (p : Port) (g : Facet → Facet) : (s.modF p g).imgAuth = s.imgAuth := by cases p <;> rfl
@[simp] theorem State.modF_bow (p : Port) (g : Facet → Facet) : (s.modF p g).bow = s.bow := by cases p <;> rfl
@[simp] theorem State.modF_bootSlot (p : Port) (g : Facet → Facet) : (s.modF p g).bootSlot = s.bootSlot := by cases p <;> rfl
@[simp] theorem State.modF_vbusOk (p : Port) (g : Facet → Facet) : (s.modF p g).vbusOk = s.vbusOk := by cases p <;> rfl
@[simp] theorem State.modF_batOk (p : Port) (g : Facet → Facet) : (s.modF p g).batOk = s.batOk := by cases p <;> rfl
@[simp] theorem State.modF_auxOk (p : Port) (g : Facet → Facet) : (s.modF p g).auxOk = s.auxOk := by cases p <;> rfl
@[simp] theorem State.modF_tsd (p : Port) (g : Facet → Facet) : (s.modF p g).tsd = s.tsd := by cases p <;> rfl
@[simp] theorem State.modF_sentEntry (p : Port) (g : Facet → Facet) : (s.modF p g).sentEntry = s.sentEntry := by cases p <;> rfl
@[simp] theorem State.modF_lastWake (p : Port) (g : Facet → Facet) : (s.modF p g).lastWake = s.lastWake := by cases p <;> rfl
@[simp] theorem State.modF_wakes (p : Port) (g : Facet → Facet) : (s.modF p g).wakes = s.wakes := by cases p <;> rfl
@[simp] theorem State.modF_sense (p : Port) (g : Facet → Facet) : (s.modF p g).sense = s.sense := by cases p <;> rfl
@[simp] theorem State.modF_regs (p : Port) (g : Facet → Facet) : (s.modF p g).regs = s.regs := by cases p <;> rfl
@[simp] theorem State.modF_hub (p : Port) (g : Facet → Facet) : (s.modF p g).hub = s.hub := by cases p <;> rfl
@[simp] theorem State.modF_flt0 (p : Port) (g : Facet → Facet) : (s.modF p g).flt0 = s.flt0 := by cases p <;> rfl
@[simp] theorem State.modF_flt1 (p : Port) (g : Facet → Facet) : (s.modF p g).flt1 = s.flt1 := by cases p <;> rfl
@[simp] theorem State.modF_flt2 (p : Port) (g : Facet → Facet) : (s.modF p g).flt2 = s.flt2 := by cases p <;> rfl
@[simp] theorem State.modF_flt3 (p : Port) (g : Facet → Facet) : (s.modF p g).flt3 = s.flt3 := by cases p <;> rfl
@[simp] theorem State.modF_flt4 (p : Port) (g : Facet → Facet) : (s.modF p g).flt4 = s.flt4 := by cases p <;> rfl
@[simp] theorem State.modF_flt5 (p : Port) (g : Facet → Facet) : (s.modF p g).flt5 = s.flt5 := by cases p <;> rfl
@[simp] theorem State.modF_fltCfg (p : Port) (g : Facet → Facet) : (s.modF p g).fltCfg = s.fltCfg := by cases p <;> rfl
@[simp] theorem State.modF_ldr (p : Port) (g : Facet → Facet) : (s.modF p g).ldr = s.ldr := by cases p <;> rfl
@[simp] theorem State.modF_onx (p : Port) (g : Facet → Facet) : (s.modF p g).onx = s.onx := by cases p <;> rfl
@[simp] theorem State.modF_nvm (p : Port) (g : Facet → Facet) : (s.modF p g).nvm = s.nvm := by cases p <;> rfl
@[simp] theorem State.modF_lap (p : Port) (g : Facet → Facet) : (s.modF p g).lap = s.lap := by cases p <;> rfl
@[simp] theorem State.modF_q0 (p : Port) (g : Facet → Facet) : (s.modF p g).q0 = s.q0 := by cases p <;> rfl
@[simp] theorem State.modF_q1 (p : Port) (g : Facet → Facet) : (s.modF p g).q1 = s.q1 := by cases p <;> rfl
@[simp] theorem State.modF_q2 (p : Port) (g : Facet → Facet) : (s.modF p g).q2 = s.q2 := by cases p <;> rfl
@[simp] theorem State.modF_q3 (p : Port) (g : Facet → Facet) : (s.modF p g).q3 = s.q3 := by cases p <;> rfl
@[simp] theorem State.modF_q4 (p : Port) (g : Facet → Facet) : (s.modF p g).q4 = s.q4 := by cases p <;> rfl
@[simp] theorem State.modF_m0 (p : Port) (g : Facet → Facet) : (s.modF p g).m0 = s.m0 := by cases p <;> rfl
@[simp] theorem State.modF_m1 (p : Port) (g : Facet → Facet) : (s.modF p g).m1 = s.m1 := by cases p <;> rfl
@[simp] theorem State.modF_m2 (p : Port) (g : Facet → Facet) : (s.modF p g).m2 = s.m2 := by cases p <;> rfl
@[simp] theorem State.modF_m3 (p : Port) (g : Facet → Facet) : (s.modF p g).m3 = s.m3 := by cases p <;> rfl
@[simp] theorem State.modF_m4 (p : Port) (g : Facet → Facet) : (s.modF p g).m4 = s.m4 := by cases p <;> rfl
@[simp] theorem State.modF_adc (p : Port) (g : Facet → Facet) : (s.modF p g).adc = s.adc := by cases p <;> rfl
@[simp] theorem State.modF_wmHi (p : Port) (g : Facet → Facet) : (s.modF p g).wmHi = s.wmHi := by cases p <;> rfl
@[simp] theorem State.modF_wmLo (p : Port) (g : Facet → Facet) : (s.modF p g).wmLo = s.wmLo := by cases p <;> rfl
@[simp] theorem State.modF_wmSetHi (p : Port) (g : Facet → Facet) : (s.modF p g).wmSetHi = s.wmSetHi := by cases p <;> rfl
@[simp] theorem State.modF_wmSetLo (p : Port) (g : Facet → Facet) : (s.modF p g).wmSetLo = s.wmSetLo := by cases p <;> rfl
@[simp] theorem State.modF_svc (p : Port) (g : Facet → Facet) : (s.modF p g).svc = s.svc := by cases p <;> rfl
@[simp] theorem State.modF_gpio (p : Port) (g : Facet → Facet) : (s.modF p g).gpio = s.gpio := by cases p <;> rfl
@[simp] theorem State.modF_posts (p : Port) (g : Facet → Facet) : (s.modF p g).posts = s.posts := by cases p <;> rfl
@[simp] theorem State.modF_todo (p : Port) (g : Facet → Facet) : (s.modF p g).todo = s.todo := by cases p <;> rfl
@[simp] theorem State.modF_draws (p : Port) (g : Facet → Facet) : (s.modF p g).draws = s.draws := by cases p <;> rfl
@[simp] theorem State.modF_pending (p : Port) (g : Facet → Facet) : (s.modF p g).pending = s.pending := by cases p <;> rfl

/-! ### `setEvq` -/

@[simp] theorem State.setEvq_mode (q : Nat) (e : Evq) : (s.setEvq q e).mode = s.mode := by unfold State.setEvq; split <;> rfl
@[simp] theorem State.setEvq_cycles (q : Nat) (e : Evq) : (s.setEvq q e).cycles = s.cycles := by unfold State.setEvq; split <;> rfl
@[simp] theorem State.setEvq_nextTick (q : Nat) (e : Evq) : (s.setEvq q e).nextTick = s.nextTick := by unfold State.setEvq; split <;> rfl
@[simp] theorem State.setEvq_clkStopped (q : Nat) (e : Evq) : (s.setEvq q e).clkStopped = s.clkStopped := by unfold State.setEvq; split <;> rfl
@[simp] theorem State.setEvq_tmode (q : Nat) (e : Evq) : (s.setEvq q e).tmode = s.tmode := by unfold State.setEvq; split <;> rfl
@[simp] theorem State.setEvq_tickOld (q : Nat) (e : Evq) : (s.setEvq q e).tickOld = s.tickOld := by unfold State.setEvq; split <;> rfl
@[simp] theorem State.setEvq_burst (q : Nat) (e : Evq) : (s.setEvq q e).burst = s.burst := by unfold State.setEvq; split <;> rfl
@[simp] theorem State.setEvq_awaits (q : Nat) (e : Evq) : (s.setEvq q e).awaits = s.awaits := by unfold State.setEvq; split <;> rfl
@[simp] theorem State.setEvq_mon (q : Nat) (e : Evq) : (s.setEvq q e).mon = s.mon := by unfold State.setEvq; split <;> rfl
@[simp] theorem State.setEvq_dbBoot (q : Nat) (e : Evq) : (s.setEvq q e).dbBoot = s.dbBoot := by unfold State.setEvq; split <;> rfl
@[simp] theorem State.setEvq_bootPort (q : Nat) (e : Evq) : (s.setEvq q e).bootPort = s.bootPort := by unfold State.setEvq; split <;> rfl
@[simp] theorem State.setEvq_imgAuth (q : Nat) (e : Evq) : (s.setEvq q e).imgAuth = s.imgAuth := by unfold State.setEvq; split <;> rfl
@[simp] theorem State.setEvq_bow (q : Nat) (e : Evq) : (s.setEvq q e).bow = s.bow := by unfold State.setEvq; split <;> rfl
@[simp] theorem State.setEvq_bootSlot (q : Nat) (e : Evq) : (s.setEvq q e).bootSlot = s.bootSlot := by unfold State.setEvq; split <;> rfl
@[simp] theorem State.setEvq_vbusOk (q : Nat) (e : Evq) : (s.setEvq q e).vbusOk = s.vbusOk := by unfold State.setEvq; split <;> rfl
@[simp] theorem State.setEvq_batOk (q : Nat) (e : Evq) : (s.setEvq q e).batOk = s.batOk := by unfold State.setEvq; split <;> rfl
@[simp] theorem State.setEvq_auxOk (q : Nat) (e : Evq) : (s.setEvq q e).auxOk = s.auxOk := by unfold State.setEvq; split <;> rfl
@[simp] theorem State.setEvq_tsd (q : Nat) (e : Evq) : (s.setEvq q e).tsd = s.tsd := by unfold State.setEvq; split <;> rfl
@[simp] theorem State.setEvq_sentEntry (q : Nat) (e : Evq) : (s.setEvq q e).sentEntry = s.sentEntry := by unfold State.setEvq; split <;> rfl
@[simp] theorem State.setEvq_lastWake (q : Nat) (e : Evq) : (s.setEvq q e).lastWake = s.lastWake := by unfold State.setEvq; split <;> rfl
@[simp] theorem State.setEvq_wakes (q : Nat) (e : Evq) : (s.setEvq q e).wakes = s.wakes := by unfold State.setEvq; split <;> rfl
@[simp] theorem State.setEvq_sense (q : Nat) (e : Evq) : (s.setEvq q e).sense = s.sense := by unfold State.setEvq; split <;> rfl
@[simp] theorem State.setEvq_regs (q : Nat) (e : Evq) : (s.setEvq q e).regs = s.regs := by unfold State.setEvq; split <;> rfl
@[simp] theorem State.setEvq_fa (q : Nat) (e : Evq) : (s.setEvq q e).fa = s.fa := by unfold State.setEvq; split <;> rfl
@[simp] theorem State.setEvq_fb (q : Nat) (e : Evq) : (s.setEvq q e).fb = s.fb := by unfold State.setEvq; split <;> rfl
@[simp] theorem State.setEvq_fc (q : Nat) (e : Evq) : (s.setEvq q e).fc = s.fc := by unfold State.setEvq; split <;> rfl
@[simp] theorem State.setEvq_fd (q : Nat) (e : Evq) : (s.setEvq q e).fd = s.fd := by unfold State.setEvq; split <;> rfl
@[simp] theorem State.setEvq_hub (q : Nat) (e : Evq) : (s.setEvq q e).hub = s.hub := by unfold State.setEvq; split <;> rfl
@[simp] theorem State.setEvq_flt0 (q : Nat) (e : Evq) : (s.setEvq q e).flt0 = s.flt0 := by unfold State.setEvq; split <;> rfl
@[simp] theorem State.setEvq_flt1 (q : Nat) (e : Evq) : (s.setEvq q e).flt1 = s.flt1 := by unfold State.setEvq; split <;> rfl
@[simp] theorem State.setEvq_flt2 (q : Nat) (e : Evq) : (s.setEvq q e).flt2 = s.flt2 := by unfold State.setEvq; split <;> rfl
@[simp] theorem State.setEvq_flt3 (q : Nat) (e : Evq) : (s.setEvq q e).flt3 = s.flt3 := by unfold State.setEvq; split <;> rfl
@[simp] theorem State.setEvq_flt4 (q : Nat) (e : Evq) : (s.setEvq q e).flt4 = s.flt4 := by unfold State.setEvq; split <;> rfl
@[simp] theorem State.setEvq_flt5 (q : Nat) (e : Evq) : (s.setEvq q e).flt5 = s.flt5 := by unfold State.setEvq; split <;> rfl
@[simp] theorem State.setEvq_fltCfg (q : Nat) (e : Evq) : (s.setEvq q e).fltCfg = s.fltCfg := by unfold State.setEvq; split <;> rfl
@[simp] theorem State.setEvq_ldr (q : Nat) (e : Evq) : (s.setEvq q e).ldr = s.ldr := by unfold State.setEvq; split <;> rfl
@[simp] theorem State.setEvq_onx (q : Nat) (e : Evq) : (s.setEvq q e).onx = s.onx := by unfold State.setEvq; split <;> rfl
@[simp] theorem State.setEvq_nvm (q : Nat) (e : Evq) : (s.setEvq q e).nvm = s.nvm := by unfold State.setEvq; split <;> rfl
@[simp] theorem State.setEvq_lap (q : Nat) (e : Evq) : (s.setEvq q e).lap = s.lap := by unfold State.setEvq; split <;> rfl
@[simp] theorem State.setEvq_m0 (q : Nat) (e : Evq) : (s.setEvq q e).m0 = s.m0 := by unfold State.setEvq; split <;> rfl
@[simp] theorem State.setEvq_m1 (q : Nat) (e : Evq) : (s.setEvq q e).m1 = s.m1 := by unfold State.setEvq; split <;> rfl
@[simp] theorem State.setEvq_m2 (q : Nat) (e : Evq) : (s.setEvq q e).m2 = s.m2 := by unfold State.setEvq; split <;> rfl
@[simp] theorem State.setEvq_m3 (q : Nat) (e : Evq) : (s.setEvq q e).m3 = s.m3 := by unfold State.setEvq; split <;> rfl
@[simp] theorem State.setEvq_m4 (q : Nat) (e : Evq) : (s.setEvq q e).m4 = s.m4 := by unfold State.setEvq; split <;> rfl
@[simp] theorem State.setEvq_adc (q : Nat) (e : Evq) : (s.setEvq q e).adc = s.adc := by unfold State.setEvq; split <;> rfl
@[simp] theorem State.setEvq_wmHi (q : Nat) (e : Evq) : (s.setEvq q e).wmHi = s.wmHi := by unfold State.setEvq; split <;> rfl
@[simp] theorem State.setEvq_wmLo (q : Nat) (e : Evq) : (s.setEvq q e).wmLo = s.wmLo := by unfold State.setEvq; split <;> rfl
@[simp] theorem State.setEvq_wmSetHi (q : Nat) (e : Evq) : (s.setEvq q e).wmSetHi = s.wmSetHi := by unfold State.setEvq; split <;> rfl
@[simp] theorem State.setEvq_wmSetLo (q : Nat) (e : Evq) : (s.setEvq q e).wmSetLo = s.wmSetLo := by unfold State.setEvq; split <;> rfl
@[simp] theorem State.setEvq_svc (q : Nat) (e : Evq) : (s.setEvq q e).svc = s.svc := by unfold State.setEvq; split <;> rfl
@[simp] theorem State.setEvq_gpio (q : Nat) (e : Evq) : (s.setEvq q e).gpio = s.gpio := by unfold State.setEvq; split <;> rfl
@[simp] theorem State.setEvq_posts (q : Nat) (e : Evq) : (s.setEvq q e).posts = s.posts := by unfold State.setEvq; split <;> rfl
@[simp] theorem State.setEvq_todo (q : Nat) (e : Evq) : (s.setEvq q e).todo = s.todo := by unfold State.setEvq; split <;> rfl
@[simp] theorem State.setEvq_draws (q : Nat) (e : Evq) : (s.setEvq q e).draws = s.draws := by unfold State.setEvq; split <;> rfl
@[simp] theorem State.setEvq_pending (q : Nat) (e : Evq) : (s.setEvq q e).pending = s.pending := by unfold State.setEvq; split <;> rfl

/-! ### `setMbx` -/

@[simp] theorem State.setMbx_mode (m : Nat) (x : Mbx) : (s.setMbx m x).mode = s.mode := by unfold State.setMbx; split <;> rfl
@[simp] theorem State.setMbx_cycles (m : Nat) (x : Mbx) : (s.setMbx m x).cycles = s.cycles := by unfold State.setMbx; split <;> rfl
@[simp] theorem State.setMbx_nextTick (m : Nat) (x : Mbx) : (s.setMbx m x).nextTick = s.nextTick := by unfold State.setMbx; split <;> rfl
@[simp] theorem State.setMbx_clkStopped (m : Nat) (x : Mbx) : (s.setMbx m x).clkStopped = s.clkStopped := by unfold State.setMbx; split <;> rfl
@[simp] theorem State.setMbx_tmode (m : Nat) (x : Mbx) : (s.setMbx m x).tmode = s.tmode := by unfold State.setMbx; split <;> rfl
@[simp] theorem State.setMbx_tickOld (m : Nat) (x : Mbx) : (s.setMbx m x).tickOld = s.tickOld := by unfold State.setMbx; split <;> rfl
@[simp] theorem State.setMbx_burst (m : Nat) (x : Mbx) : (s.setMbx m x).burst = s.burst := by unfold State.setMbx; split <;> rfl
@[simp] theorem State.setMbx_awaits (m : Nat) (x : Mbx) : (s.setMbx m x).awaits = s.awaits := by unfold State.setMbx; split <;> rfl
@[simp] theorem State.setMbx_mon (m : Nat) (x : Mbx) : (s.setMbx m x).mon = s.mon := by unfold State.setMbx; split <;> rfl
@[simp] theorem State.setMbx_dbBoot (m : Nat) (x : Mbx) : (s.setMbx m x).dbBoot = s.dbBoot := by unfold State.setMbx; split <;> rfl
@[simp] theorem State.setMbx_bootPort (m : Nat) (x : Mbx) : (s.setMbx m x).bootPort = s.bootPort := by unfold State.setMbx; split <;> rfl
@[simp] theorem State.setMbx_imgAuth (m : Nat) (x : Mbx) : (s.setMbx m x).imgAuth = s.imgAuth := by unfold State.setMbx; split <;> rfl
@[simp] theorem State.setMbx_bow (m : Nat) (x : Mbx) : (s.setMbx m x).bow = s.bow := by unfold State.setMbx; split <;> rfl
@[simp] theorem State.setMbx_bootSlot (m : Nat) (x : Mbx) : (s.setMbx m x).bootSlot = s.bootSlot := by unfold State.setMbx; split <;> rfl
@[simp] theorem State.setMbx_vbusOk (m : Nat) (x : Mbx) : (s.setMbx m x).vbusOk = s.vbusOk := by unfold State.setMbx; split <;> rfl
@[simp] theorem State.setMbx_batOk (m : Nat) (x : Mbx) : (s.setMbx m x).batOk = s.batOk := by unfold State.setMbx; split <;> rfl
@[simp] theorem State.setMbx_auxOk (m : Nat) (x : Mbx) : (s.setMbx m x).auxOk = s.auxOk := by unfold State.setMbx; split <;> rfl
@[simp] theorem State.setMbx_tsd (m : Nat) (x : Mbx) : (s.setMbx m x).tsd = s.tsd := by unfold State.setMbx; split <;> rfl
@[simp] theorem State.setMbx_sentEntry (m : Nat) (x : Mbx) : (s.setMbx m x).sentEntry = s.sentEntry := by unfold State.setMbx; split <;> rfl
@[simp] theorem State.setMbx_lastWake (m : Nat) (x : Mbx) : (s.setMbx m x).lastWake = s.lastWake := by unfold State.setMbx; split <;> rfl
@[simp] theorem State.setMbx_wakes (m : Nat) (x : Mbx) : (s.setMbx m x).wakes = s.wakes := by unfold State.setMbx; split <;> rfl
@[simp] theorem State.setMbx_sense (m : Nat) (x : Mbx) : (s.setMbx m x).sense = s.sense := by unfold State.setMbx; split <;> rfl
@[simp] theorem State.setMbx_regs (m : Nat) (x : Mbx) : (s.setMbx m x).regs = s.regs := by unfold State.setMbx; split <;> rfl
@[simp] theorem State.setMbx_fa (m : Nat) (x : Mbx) : (s.setMbx m x).fa = s.fa := by unfold State.setMbx; split <;> rfl
@[simp] theorem State.setMbx_fb (m : Nat) (x : Mbx) : (s.setMbx m x).fb = s.fb := by unfold State.setMbx; split <;> rfl
@[simp] theorem State.setMbx_fc (m : Nat) (x : Mbx) : (s.setMbx m x).fc = s.fc := by unfold State.setMbx; split <;> rfl
@[simp] theorem State.setMbx_fd (m : Nat) (x : Mbx) : (s.setMbx m x).fd = s.fd := by unfold State.setMbx; split <;> rfl
@[simp] theorem State.setMbx_hub (m : Nat) (x : Mbx) : (s.setMbx m x).hub = s.hub := by unfold State.setMbx; split <;> rfl
@[simp] theorem State.setMbx_flt0 (m : Nat) (x : Mbx) : (s.setMbx m x).flt0 = s.flt0 := by unfold State.setMbx; split <;> rfl
@[simp] theorem State.setMbx_flt1 (m : Nat) (x : Mbx) : (s.setMbx m x).flt1 = s.flt1 := by unfold State.setMbx; split <;> rfl
@[simp] theorem State.setMbx_flt2 (m : Nat) (x : Mbx) : (s.setMbx m x).flt2 = s.flt2 := by unfold State.setMbx; split <;> rfl
@[simp] theorem State.setMbx_flt3 (m : Nat) (x : Mbx) : (s.setMbx m x).flt3 = s.flt3 := by unfold State.setMbx; split <;> rfl
@[simp] theorem State.setMbx_flt4 (m : Nat) (x : Mbx) : (s.setMbx m x).flt4 = s.flt4 := by unfold State.setMbx; split <;> rfl
@[simp] theorem State.setMbx_flt5 (m : Nat) (x : Mbx) : (s.setMbx m x).flt5 = s.flt5 := by unfold State.setMbx; split <;> rfl
@[simp] theorem State.setMbx_fltCfg (m : Nat) (x : Mbx) : (s.setMbx m x).fltCfg = s.fltCfg := by unfold State.setMbx; split <;> rfl
@[simp] theorem State.setMbx_ldr (m : Nat) (x : Mbx) : (s.setMbx m x).ldr = s.ldr := by unfold State.setMbx; split <;> rfl
@[simp] theorem State.setMbx_onx (m : Nat) (x : Mbx) : (s.setMbx m x).onx = s.onx := by unfold State.setMbx; split <;> rfl
@[simp] theorem State.setMbx_nvm (m : Nat) (x : Mbx) : (s.setMbx m x).nvm = s.nvm := by unfold State.setMbx; split <;> rfl
@[simp] theorem State.setMbx_lap (m : Nat) (x : Mbx) : (s.setMbx m x).lap = s.lap := by unfold State.setMbx; split <;> rfl
@[simp] theorem State.setMbx_q0 (m : Nat) (x : Mbx) : (s.setMbx m x).q0 = s.q0 := by unfold State.setMbx; split <;> rfl
@[simp] theorem State.setMbx_q1 (m : Nat) (x : Mbx) : (s.setMbx m x).q1 = s.q1 := by unfold State.setMbx; split <;> rfl
@[simp] theorem State.setMbx_q2 (m : Nat) (x : Mbx) : (s.setMbx m x).q2 = s.q2 := by unfold State.setMbx; split <;> rfl
@[simp] theorem State.setMbx_q3 (m : Nat) (x : Mbx) : (s.setMbx m x).q3 = s.q3 := by unfold State.setMbx; split <;> rfl
@[simp] theorem State.setMbx_q4 (m : Nat) (x : Mbx) : (s.setMbx m x).q4 = s.q4 := by unfold State.setMbx; split <;> rfl
@[simp] theorem State.setMbx_adc (m : Nat) (x : Mbx) : (s.setMbx m x).adc = s.adc := by unfold State.setMbx; split <;> rfl
@[simp] theorem State.setMbx_wmHi (m : Nat) (x : Mbx) : (s.setMbx m x).wmHi = s.wmHi := by unfold State.setMbx; split <;> rfl
@[simp] theorem State.setMbx_wmLo (m : Nat) (x : Mbx) : (s.setMbx m x).wmLo = s.wmLo := by unfold State.setMbx; split <;> rfl
@[simp] theorem State.setMbx_wmSetHi (m : Nat) (x : Mbx) : (s.setMbx m x).wmSetHi = s.wmSetHi := by unfold State.setMbx; split <;> rfl
@[simp] theorem State.setMbx_wmSetLo (m : Nat) (x : Mbx) : (s.setMbx m x).wmSetLo = s.wmSetLo := by unfold State.setMbx; split <;> rfl
@[simp] theorem State.setMbx_svc (m : Nat) (x : Mbx) : (s.setMbx m x).svc = s.svc := by unfold State.setMbx; split <;> rfl
@[simp] theorem State.setMbx_gpio (m : Nat) (x : Mbx) : (s.setMbx m x).gpio = s.gpio := by unfold State.setMbx; split <;> rfl
@[simp] theorem State.setMbx_posts (m : Nat) (x : Mbx) : (s.setMbx m x).posts = s.posts := by unfold State.setMbx; split <;> rfl
@[simp] theorem State.setMbx_todo (m : Nat) (x : Mbx) : (s.setMbx m x).todo = s.todo := by unfold State.setMbx; split <;> rfl
@[simp] theorem State.setMbx_draws (m : Nat) (x : Mbx) : (s.setMbx m x).draws = s.draws := by unfold State.setMbx; split <;> rfl
@[simp] theorem State.setMbx_pending (m : Nat) (x : Mbx) : (s.setMbx m x).pending = s.pending := by unfold State.setMbx; split <;> rfl

/-! ### `setFlt` -/

@[simp] theorem State.setFlt_mode (u : Nat) (f : FltUnit) : (s.setFlt u f).mode = s.mode := by unfold State.setFlt; split <;> rfl
@[simp] theorem State.setFlt_cycles (u : Nat) (f : FltUnit) : (s.setFlt u f).cycles = s.cycles := by unfold State.setFlt; split <;> rfl
@[simp] theorem State.setFlt_nextTick (u : Nat) (f : FltUnit) : (s.setFlt u f).nextTick = s.nextTick := by unfold State.setFlt; split <;> rfl
@[simp] theorem State.setFlt_clkStopped (u : Nat) (f : FltUnit) : (s.setFlt u f).clkStopped = s.clkStopped := by unfold State.setFlt; split <;> rfl
@[simp] theorem State.setFlt_tmode (u : Nat) (f : FltUnit) : (s.setFlt u f).tmode = s.tmode := by unfold State.setFlt; split <;> rfl
@[simp] theorem State.setFlt_tickOld (u : Nat) (f : FltUnit) : (s.setFlt u f).tickOld = s.tickOld := by unfold State.setFlt; split <;> rfl
@[simp] theorem State.setFlt_burst (u : Nat) (f : FltUnit) : (s.setFlt u f).burst = s.burst := by unfold State.setFlt; split <;> rfl
@[simp] theorem State.setFlt_awaits (u : Nat) (f : FltUnit) : (s.setFlt u f).awaits = s.awaits := by unfold State.setFlt; split <;> rfl
@[simp] theorem State.setFlt_mon (u : Nat) (f : FltUnit) : (s.setFlt u f).mon = s.mon := by unfold State.setFlt; split <;> rfl
@[simp] theorem State.setFlt_dbBoot (u : Nat) (f : FltUnit) : (s.setFlt u f).dbBoot = s.dbBoot := by unfold State.setFlt; split <;> rfl
@[simp] theorem State.setFlt_bootPort (u : Nat) (f : FltUnit) : (s.setFlt u f).bootPort = s.bootPort := by unfold State.setFlt; split <;> rfl
@[simp] theorem State.setFlt_imgAuth (u : Nat) (f : FltUnit) : (s.setFlt u f).imgAuth = s.imgAuth := by unfold State.setFlt; split <;> rfl
@[simp] theorem State.setFlt_bow (u : Nat) (f : FltUnit) : (s.setFlt u f).bow = s.bow := by unfold State.setFlt; split <;> rfl
@[simp] theorem State.setFlt_bootSlot (u : Nat) (f : FltUnit) : (s.setFlt u f).bootSlot = s.bootSlot := by unfold State.setFlt; split <;> rfl
@[simp] theorem State.setFlt_vbusOk (u : Nat) (f : FltUnit) : (s.setFlt u f).vbusOk = s.vbusOk := by unfold State.setFlt; split <;> rfl
@[simp] theorem State.setFlt_batOk (u : Nat) (f : FltUnit) : (s.setFlt u f).batOk = s.batOk := by unfold State.setFlt; split <;> rfl
@[simp] theorem State.setFlt_auxOk (u : Nat) (f : FltUnit) : (s.setFlt u f).auxOk = s.auxOk := by unfold State.setFlt; split <;> rfl
@[simp] theorem State.setFlt_tsd (u : Nat) (f : FltUnit) : (s.setFlt u f).tsd = s.tsd := by unfold State.setFlt; split <;> rfl
@[simp] theorem State.setFlt_sentEntry (u : Nat) (f : FltUnit) : (s.setFlt u f).sentEntry = s.sentEntry := by unfold State.setFlt; split <;> rfl
@[simp] theorem State.setFlt_lastWake (u : Nat) (f : FltUnit) : (s.setFlt u f).lastWake = s.lastWake := by unfold State.setFlt; split <;> rfl
@[simp] theorem State.setFlt_wakes (u : Nat) (f : FltUnit) : (s.setFlt u f).wakes = s.wakes := by unfold State.setFlt; split <;> rfl
@[simp] theorem State.setFlt_sense (u : Nat) (f : FltUnit) : (s.setFlt u f).sense = s.sense := by unfold State.setFlt; split <;> rfl
@[simp] theorem State.setFlt_regs (u : Nat) (f : FltUnit) : (s.setFlt u f).regs = s.regs := by unfold State.setFlt; split <;> rfl
@[simp] theorem State.setFlt_fa (u : Nat) (f : FltUnit) : (s.setFlt u f).fa = s.fa := by unfold State.setFlt; split <;> rfl
@[simp] theorem State.setFlt_fb (u : Nat) (f : FltUnit) : (s.setFlt u f).fb = s.fb := by unfold State.setFlt; split <;> rfl
@[simp] theorem State.setFlt_fc (u : Nat) (f : FltUnit) : (s.setFlt u f).fc = s.fc := by unfold State.setFlt; split <;> rfl
@[simp] theorem State.setFlt_fd (u : Nat) (f : FltUnit) : (s.setFlt u f).fd = s.fd := by unfold State.setFlt; split <;> rfl
@[simp] theorem State.setFlt_hub (u : Nat) (f : FltUnit) : (s.setFlt u f).hub = s.hub := by unfold State.setFlt; split <;> rfl
@[simp] theorem State.setFlt_fltCfg (u : Nat) (f : FltUnit) : (s.setFlt u f).fltCfg = s.fltCfg := by unfold State.setFlt; split <;> rfl
@[simp] theorem State.setFlt_ldr (u : Nat) (f : FltUnit) : (s.setFlt u f).ldr = s.ldr := by unfold State.setFlt; split <;> rfl
@[simp] theorem State.setFlt_onx (u : Nat) (f : FltUnit) : (s.setFlt u f).onx = s.onx := by unfold State.setFlt; split <;> rfl
@[simp] theorem State.setFlt_nvm (u : Nat) (f : FltUnit) : (s.setFlt u f).nvm = s.nvm := by unfold State.setFlt; split <;> rfl
@[simp] theorem State.setFlt_lap (u : Nat) (f : FltUnit) : (s.setFlt u f).lap = s.lap := by unfold State.setFlt; split <;> rfl
@[simp] theorem State.setFlt_q0 (u : Nat) (f : FltUnit) : (s.setFlt u f).q0 = s.q0 := by unfold State.setFlt; split <;> rfl
@[simp] theorem State.setFlt_q1 (u : Nat) (f : FltUnit) : (s.setFlt u f).q1 = s.q1 := by unfold State.setFlt; split <;> rfl
@[simp] theorem State.setFlt_q2 (u : Nat) (f : FltUnit) : (s.setFlt u f).q2 = s.q2 := by unfold State.setFlt; split <;> rfl
@[simp] theorem State.setFlt_q3 (u : Nat) (f : FltUnit) : (s.setFlt u f).q3 = s.q3 := by unfold State.setFlt; split <;> rfl
@[simp] theorem State.setFlt_q4 (u : Nat) (f : FltUnit) : (s.setFlt u f).q4 = s.q4 := by unfold State.setFlt; split <;> rfl
@[simp] theorem State.setFlt_m0 (u : Nat) (f : FltUnit) : (s.setFlt u f).m0 = s.m0 := by unfold State.setFlt; split <;> rfl
@[simp] theorem State.setFlt_m1 (u : Nat) (f : FltUnit) : (s.setFlt u f).m1 = s.m1 := by unfold State.setFlt; split <;> rfl
@[simp] theorem State.setFlt_m2 (u : Nat) (f : FltUnit) : (s.setFlt u f).m2 = s.m2 := by unfold State.setFlt; split <;> rfl
@[simp] theorem State.setFlt_m3 (u : Nat) (f : FltUnit) : (s.setFlt u f).m3 = s.m3 := by unfold State.setFlt; split <;> rfl
@[simp] theorem State.setFlt_m4 (u : Nat) (f : FltUnit) : (s.setFlt u f).m4 = s.m4 := by unfold State.setFlt; split <;> rfl
@[simp] theorem State.setFlt_adc (u : Nat) (f : FltUnit) : (s.setFlt u f).adc = s.adc := by unfold State.setFlt; split <;> rfl
@[simp] theorem State.setFlt_wmHi (u : Nat) (f : FltUnit) : (s.setFlt u f).wmHi = s.wmHi := by unfold State.setFlt; split <;> rfl
@[simp] theorem State.setFlt_wmLo (u : Nat) (f : FltUnit) : (s.setFlt u f).wmLo = s.wmLo := by unfold State.setFlt; split <;> rfl
@[simp] theorem State.setFlt_wmSetHi (u : Nat) (f : FltUnit) : (s.setFlt u f).wmSetHi = s.wmSetHi := by unfold State.setFlt; split <;> rfl
@[simp] theorem State.setFlt_wmSetLo (u : Nat) (f : FltUnit) : (s.setFlt u f).wmSetLo = s.wmSetLo := by unfold State.setFlt; split <;> rfl
@[simp] theorem State.setFlt_svc (u : Nat) (f : FltUnit) : (s.setFlt u f).svc = s.svc := by unfold State.setFlt; split <;> rfl
@[simp] theorem State.setFlt_gpio (u : Nat) (f : FltUnit) : (s.setFlt u f).gpio = s.gpio := by unfold State.setFlt; split <;> rfl
@[simp] theorem State.setFlt_posts (u : Nat) (f : FltUnit) : (s.setFlt u f).posts = s.posts := by unfold State.setFlt; split <;> rfl
@[simp] theorem State.setFlt_todo (u : Nat) (f : FltUnit) : (s.setFlt u f).todo = s.todo := by unfold State.setFlt; split <;> rfl
@[simp] theorem State.setFlt_draws (u : Nat) (f : FltUnit) : (s.setFlt u f).draws = s.draws := by unfold State.setFlt; split <;> rfl
@[simp] theorem State.setFlt_pending (u : Nat) (f : FltUnit) : (s.setFlt u f).pending = s.pending := by unfold State.setFlt; split <;> rfl

/-! ### `elapse` -/

@[simp] theorem State.elapse_mode (n : Nat) : (s.elapse n).mode = s.mode := rfl
@[simp] theorem State.elapse_nextTick (n : Nat) : (s.elapse n).nextTick = s.nextTick := rfl
@[simp] theorem State.elapse_clkStopped (n : Nat) : (s.elapse n).clkStopped = s.clkStopped := rfl
@[simp] theorem State.elapse_tmode (n : Nat) : (s.elapse n).tmode = s.tmode := rfl
@[simp] theorem State.elapse_tickOld (n : Nat) : (s.elapse n).tickOld = s.tickOld := rfl
@[simp] theorem State.elapse_burst (n : Nat) : (s.elapse n).burst = s.burst := rfl
@[simp] theorem State.elapse_awaits (n : Nat) : (s.elapse n).awaits = s.awaits := rfl
@[simp] theorem State.elapse_mon (n : Nat) : (s.elapse n).mon = s.mon := rfl
@[simp] theorem State.elapse_dbBoot (n : Nat) : (s.elapse n).dbBoot = s.dbBoot := rfl
@[simp] theorem State.elapse_bootPort (n : Nat) : (s.elapse n).bootPort = s.bootPort := rfl
@[simp] theorem State.elapse_imgAuth (n : Nat) : (s.elapse n).imgAuth = s.imgAuth := rfl
@[simp] theorem State.elapse_bow (n : Nat) : (s.elapse n).bow = s.bow := rfl
@[simp] theorem State.elapse_bootSlot (n : Nat) : (s.elapse n).bootSlot = s.bootSlot := rfl
@[simp] theorem State.elapse_vbusOk (n : Nat) : (s.elapse n).vbusOk = s.vbusOk := rfl
@[simp] theorem State.elapse_batOk (n : Nat) : (s.elapse n).batOk = s.batOk := rfl
@[simp] theorem State.elapse_auxOk (n : Nat) : (s.elapse n).auxOk = s.auxOk := rfl
@[simp] theorem State.elapse_tsd (n : Nat) : (s.elapse n).tsd = s.tsd := rfl
@[simp] theorem State.elapse_sentEntry (n : Nat) : (s.elapse n).sentEntry = s.sentEntry := rfl
@[simp] theorem State.elapse_lastWake (n : Nat) : (s.elapse n).lastWake = s.lastWake := rfl
@[simp] theorem State.elapse_wakes (n : Nat) : (s.elapse n).wakes = s.wakes := rfl
@[simp] theorem State.elapse_sense (n : Nat) : (s.elapse n).sense = s.sense := rfl
@[simp] theorem State.elapse_regs (n : Nat) : (s.elapse n).regs = s.regs := rfl
@[simp] theorem State.elapse_fa (n : Nat) : (s.elapse n).fa = s.fa := rfl
@[simp] theorem State.elapse_fb (n : Nat) : (s.elapse n).fb = s.fb := rfl
@[simp] theorem State.elapse_fc (n : Nat) : (s.elapse n).fc = s.fc := rfl
@[simp] theorem State.elapse_fd (n : Nat) : (s.elapse n).fd = s.fd := rfl
@[simp] theorem State.elapse_hub (n : Nat) : (s.elapse n).hub = s.hub := rfl
@[simp] theorem State.elapse_flt0 (n : Nat) : (s.elapse n).flt0 = s.flt0 := rfl
@[simp] theorem State.elapse_flt1 (n : Nat) : (s.elapse n).flt1 = s.flt1 := rfl
@[simp] theorem State.elapse_flt2 (n : Nat) : (s.elapse n).flt2 = s.flt2 := rfl
@[simp] theorem State.elapse_flt3 (n : Nat) : (s.elapse n).flt3 = s.flt3 := rfl
@[simp] theorem State.elapse_flt4 (n : Nat) : (s.elapse n).flt4 = s.flt4 := rfl
@[simp] theorem State.elapse_flt5 (n : Nat) : (s.elapse n).flt5 = s.flt5 := rfl
@[simp] theorem State.elapse_fltCfg (n : Nat) : (s.elapse n).fltCfg = s.fltCfg := rfl
@[simp] theorem State.elapse_ldr (n : Nat) : (s.elapse n).ldr = s.ldr := rfl
@[simp] theorem State.elapse_onx (n : Nat) : (s.elapse n).onx = s.onx := rfl
@[simp] theorem State.elapse_nvm (n : Nat) : (s.elapse n).nvm = s.nvm := rfl
@[simp] theorem State.elapse_q0 (n : Nat) : (s.elapse n).q0 = s.q0 := rfl
@[simp] theorem State.elapse_q1 (n : Nat) : (s.elapse n).q1 = s.q1 := rfl
@[simp] theorem State.elapse_q2 (n : Nat) : (s.elapse n).q2 = s.q2 := rfl
@[simp] theorem State.elapse_q3 (n : Nat) : (s.elapse n).q3 = s.q3 := rfl
@[simp] theorem State.elapse_q4 (n : Nat) : (s.elapse n).q4 = s.q4 := rfl
@[simp] theorem State.elapse_m0 (n : Nat) : (s.elapse n).m0 = s.m0 := rfl
@[simp] theorem State.elapse_m1 (n : Nat) : (s.elapse n).m1 = s.m1 := rfl
@[simp] theorem State.elapse_m2 (n : Nat) : (s.elapse n).m2 = s.m2 := rfl
@[simp] theorem State.elapse_m3 (n : Nat) : (s.elapse n).m3 = s.m3 := rfl
@[simp] theorem State.elapse_m4 (n : Nat) : (s.elapse n).m4 = s.m4 := rfl
@[simp] theorem State.elapse_adc (n : Nat) : (s.elapse n).adc = s.adc := rfl
@[simp] theorem State.elapse_wmHi (n : Nat) : (s.elapse n).wmHi = s.wmHi := rfl
@[simp] theorem State.elapse_wmLo (n : Nat) : (s.elapse n).wmLo = s.wmLo := rfl
@[simp] theorem State.elapse_wmSetHi (n : Nat) : (s.elapse n).wmSetHi = s.wmSetHi := rfl
@[simp] theorem State.elapse_wmSetLo (n : Nat) : (s.elapse n).wmSetLo = s.wmSetLo := rfl
@[simp] theorem State.elapse_svc (n : Nat) : (s.elapse n).svc = s.svc := rfl
@[simp] theorem State.elapse_gpio (n : Nat) : (s.elapse n).gpio = s.gpio := rfl
@[simp] theorem State.elapse_posts (n : Nat) : (s.elapse n).posts = s.posts := rfl
@[simp] theorem State.elapse_todo (n : Nat) : (s.elapse n).todo = s.todo := rfl
@[simp] theorem State.elapse_draws (n : Nat) : (s.elapse n).draws = s.draws := rfl
@[simp] theorem State.elapse_pending (n : Nat) : (s.elapse n).pending = s.pending := rfl

/-! ### Facets under updates of other parts -/

@[simp] theorem State.facet_orReg (i : Nat) (w : Word) (p : Port) : (s.orReg i w).facet p = s.facet p := by cases p <;> rfl
@[simp] theorem State.facet_clrReg (i : Nat) (w : Word) (p : Port) : (s.clrReg i w).facet p = s.facet p := by cases p <;> rfl
@[simp] theorem State.facet_setFld (i lo n v : Nat) (p : Port) : (s.setFld i lo n v).facet p = s.facet p := by cases p <;> rfl
@[simp] theorem State.facet_count (i lo n : Nat) (p : Port) : (s.count i lo n).facet p = s.facet p := by cases p <;> rfl
@[simp] theorem State.facet_post (q : Nat) (c : Byte) (a : Half) (p : Port) : (s.post q c a).facet p = s.facet p := by cases p <;> rfl
@[simp] theorem State.facet_postH (c : Byte) (a : Half) (p : Port) : (s.postH c a).facet p = s.facet p := by cases p <;> rfl
@[simp] theorem State.facet_owe (a : Act) (p : Port) : (s.owe a).facet p = s.facet p := by cases p <;> rfl
@[simp] theorem State.facet_modNvm (g : Nvm → Nvm) (p : Port) : (s.modNvm g).facet p = s.facet p := by cases p <;> rfl
@[simp] theorem State.facet_modOnx (g : Onx → Onx) (p : Port) : (s.modOnx g).facet p = s.facet p := by cases p <;> rfl
@[simp] theorem State.facet_modLdr (g : Ldr → Ldr) (p : Port) : (s.modLdr g).facet p = s.facet p := by cases p <;> rfl
@[simp] theorem State.facet_modLap (g : Lap → Lap) (p : Port) : (s.modLap g).facet p = s.facet p := by cases p <;> rfl
@[simp] theorem State.facet_modAdc (g : Adc → Adc) (p : Port) : (s.modAdc g).facet p = s.facet p := by cases p <;> rfl
@[simp] theorem State.facet_modSvc (g : Svc → Svc) (p : Port) : (s.modSvc g).facet p = s.facet p := by cases p <;> rfl
@[simp] theorem State.facet_modGpio (g : Gpio → Gpio) (p : Port) : (s.modGpio g).facet p = s.facet p := by cases p <;> rfl
@[simp] theorem State.facet_modHub (g : Hub → Hub) (p : Port) : (s.modHub g).facet p = s.facet p := by cases p <;> rfl
@[simp] theorem State.facet_elapse (n : Nat) (p : Port) : (s.elapse n).facet p = s.facet p := by cases p <;> rfl
@[simp] theorem State.facet_nvmQueue (x : NvmOp) (p : Port) : (s.nvmQueue x).facet p = s.facet p := by cases p <;> rfl

/-! ### The parts an update writes -/

@[simp] theorem State.modNvm_nvm (g : Nvm → Nvm) : (s.modNvm g).nvm = g s.nvm := rfl
@[simp] theorem State.modOnx_onx (g : Onx → Onx) : (s.modOnx g).onx = g s.onx := rfl
@[simp] theorem State.modLdr_ldr (g : Ldr → Ldr) : (s.modLdr g).ldr = g s.ldr := rfl
@[simp] theorem State.modLap_lap (g : Lap → Lap) : (s.modLap g).lap = g s.lap := rfl
@[simp] theorem State.modAdc_adc (g : Adc → Adc) : (s.modAdc g).adc = g s.adc := rfl
@[simp] theorem State.modSvc_svc (g : Svc → Svc) : (s.modSvc g).svc = g s.svc := rfl
@[simp] theorem State.modGpio_gpio (g : Gpio → Gpio) : (s.modGpio g).gpio = g s.gpio := rfl
@[simp] theorem State.elapse_cycles (n : Nat) : (s.elapse n).cycles = s.cycles + n := rfl
@[simp] theorem State.elapse_sram (n : Nat) : (s.elapse n).lap.sram = s.lap.sram := rfl
@[simp] theorem State.elapse_xs (n : Nat) : (s.elapse n).lap.xs = s.lap.xs := rfl
@[simp] theorem State.elapse_pc (n : Nat) : (s.elapse n).lap.pc = s.lap.pc := rfl
@[simp] theorem State.elapse_run (n : Nat) : (s.elapse n).lap.run = s.lap.run := rfl

/-! ### Facets, queues and mailboxes -/

@[simp] theorem State.facet_setReg (i : Nat) (w : Word) (p : Port) : (s.setReg i w).facet p = s.facet p := by
  cases p <;> rfl
@[simp] theorem State.facet_setFacet (p : Port) (f : Facet) : (s.setFacet p f).facet p = f := by cases p <;> rfl
theorem State.facet_setFacet_ne (p q : Port) (f : Facet) (h : q ≠ p) : (s.setFacet p f).facet q = s.facet q := by
  cases p <;> cases q <;> first | rfl | exact absurd rfl h
theorem State.facet_modF_ne (p q : Port) (g : Facet → Facet) (h : q ≠ p) : (s.modF p g).facet q = s.facet q :=
  State.facet_setFacet_ne s p q _ h
@[simp] theorem State.evq_setEvq (q : Nat) (e : Evq) : (s.setEvq q e).evq q = e := by
  unfold State.setEvq State.evq; split <;> simp_all

theorem State.evq_setEvq_ne (p q : Nat) (e : Evq) (hp : p < 5) (hq : q < 5) (h : q ≠ p) :
    (s.setEvq p e).evq q = s.evq q := by
  match p, hp, q, hq with
  | 0, _, 1, _ | 0, _, 2, _ | 0, _, 3, _ | 0, _, 4, _ | 1, _, 0, _ | 1, _, 2, _ | 1, _, 3, _ | 1, _, 4, _
  | 2, _, 0, _ | 2, _, 1, _ | 2, _, 3, _ | 2, _, 4, _ | 3, _, 0, _ | 3, _, 1, _ | 3, _, 2, _ | 3, _, 4, _
  | 4, _, 0, _ | 4, _, 1, _ | 4, _, 2, _ | 4, _, 3, _ => rfl
  | 0, _, 0, _ | 1, _, 1, _ | 2, _, 2, _ | 3, _, 3, _ | 4, _, 4, _ => exact absurd rfl h

/-! ### Changing a facet -/

/-- An advance changes epoch, pending mark, time of the last advance and the fresh mark alone. -/
theorem Facet.advance_rest (now : Nat) (f : Facet) :
    (f.advance now).fstate = f.fstate ∧ (f.advance now).cfg = f.cfg ∧ (f.advance now).pdo = f.pdo ∧ (f.advance now).vdm = f.vdm
      ∧ (f.advance now).cc = f.cc ∧ (f.advance now).pd = f.pd ∧ (f.advance now).ct = f.ct ∧ (f.advance now).pp = f.pp
      ∧ (f.advance now).lk = f.lk ∧ (f.advance now).rc = f.rc ∧ (f.advance now).clampIlim = f.clampIlim
      ∧ (f.advance now).qPending = f.qPending ∧ (f.advance now).qRecord = f.qRecord := by
  unfold Facet.advance
  split
  · simp
  · split
    · simp
    · split <;> simp

/-- What `modF` writes: the change, and where a property of R41 changed, the advance of the epoch. -/
theorem State.facet_modF (p : Port) (g : Facet → Facet) :
    (s.modF p g).facet p = if (g (s.facet p)).key = (s.facet p).key then g (s.facet p) else (g (s.facet p)).advance s.cycles :=
  State.facet_setFacet s p _

@[simp] theorem State.modF_fstate (p : Port) (g : Facet → Facet) : ((s.modF p g).facet p).fstate = (g (s.facet p)).fstate := by
  rw [State.facet_modF]; split
  · rfl
  · exact (Facet.advance_rest _ _).1
@[simp] theorem State.modF_cc (p : Port) (g : Facet → Facet) : ((s.modF p g).facet p).cc = (g (s.facet p)).cc := by
  rw [State.facet_modF]; split
  · rfl
  · exact (Facet.advance_rest _ _).2.2.2.2.1
@[simp] theorem State.modF_pd (p : Port) (g : Facet → Facet) : ((s.modF p g).facet p).pd = (g (s.facet p)).pd := by
  rw [State.facet_modF]; split
  · rfl
  · exact (Facet.advance_rest _ _).2.2.2.2.2.1
@[simp] theorem State.modF_ct (p : Port) (g : Facet → Facet) : ((s.modF p g).facet p).ct = (g (s.facet p)).ct := by
  rw [State.facet_modF]; split
  · rfl
  · exact (Facet.advance_rest _ _).2.2.2.2.2.2.1
@[simp] theorem State.modF_pp (p : Port) (g : Facet → Facet) : ((s.modF p g).facet p).pp = (g (s.facet p)).pp := by
  rw [State.facet_modF]; split
  · rfl
  · exact (Facet.advance_rest _ _).2.2.2.2.2.2.2.1
@[simp] theorem State.modF_lk (p : Port) (g : Facet → Facet) : ((s.modF p g).facet p).lk = (g (s.facet p)).lk := by
  rw [State.facet_modF]; split
  · rfl
  · exact (Facet.advance_rest _ _).2.2.2.2.2.2.2.2.1
@[simp] theorem State.modF_rc (p : Port) (g : Facet → Facet) : ((s.modF p g).facet p).rc = (g (s.facet p)).rc := by
  rw [State.facet_modF]; split
  · rfl
  · exact (Facet.advance_rest _ _).2.2.2.2.2.2.2.2.2.1
@[simp] theorem State.modF_cfg (p : Port) (g : Facet → Facet) : ((s.modF p g).facet p).cfg = (g (s.facet p)).cfg := by
  rw [State.facet_modF]; split
  · rfl
  · exact (Facet.advance_rest _ _).2.1

@[simp] theorem State.facet_postF (p q : Port) (c : Byte) (a : Half) : (s.postF p c a).facet q = s.facet q := by
  unfold State.postF; dsimp only; split <;> cases q <;> rfl
@[simp] theorem State.facet_modFeed (b : Bus) (g : FeedBus → FeedBus) (q : Port) : (s.modFeed b g).facet q = s.facet q := by
  cases b <;> cases q <;> rfl
@[simp] theorem State.facet_setFlt (u : Nat) (f : FltUnit) (q : Port) : (s.setFlt u f).facet q = s.facet q := by
  cases q <;> simp [State.facet]
@[simp] theorem State.facet_setEvq (k : Nat) (e : Evq) (q : Port) : (s.setEvq k e).facet q = s.facet q := by
  cases q <;> simp [State.facet]
@[simp] theorem State.facet_setMbx (k : Nat) (x : Mbx) (q : Port) : (s.setMbx k x).facet q = s.facet q := by
  cases q <;> simp [State.facet]

/-- A change of one facet as any facet sees it: the power path. -/
theorem State.pp_modF (p q : Port) (g : Facet → Facet) :
    ((s.modF p g).facet q).pp = if q = p then (g (s.facet p)).pp else (s.facet q).pp := by
  by_cases h : q = p
  · subst h; simp
  · rw [if_neg h, State.facet_modF_ne s p q g h]

/-- A change of one facet as any facet sees it: the facet state. -/
theorem State.fstate_modF (p q : Port) (g : Facet → Facet) :
    ((s.modF p g).facet q).fstate = if q = p then (g (s.facet p)).fstate else (s.facet q).fstate := by
  by_cases h : q = p
  · subst h; simp
  · rw [if_neg h, State.facet_modF_ne s p q g h]

/-! ### Registers -/

/-- A register read after a register write. -/
theorem State.reg_setReg (i j : Nat) (w : Word) (h : spWf resetWord s.regs = true) :
    (s.setReg i w).reg j = if j = i then w else s.reg j := spGet_spPut resetWord s.regs i w h j

/-- A register write keeps the canonical form of the register store. -/
theorem State.setReg_wf (i : Nat) (w : Word) (h : spWf resetWord s.regs = true) :
    spWf resetWord (s.setReg i w).regs = true := spPut_wf resetWord s.regs i w h

/-- `orReg`, `clrReg`, `setFld` and `count` write one register. -/
theorem State.orReg_wf (i : Nat) (m : Word) (h : spWf resetWord s.regs = true) :
    spWf resetWord (s.orReg i m).regs = true := s.setReg_wf i _ h
theorem State.clrReg_wf (i : Nat) (m : Word) (h : spWf resetWord s.regs = true) :
    spWf resetWord (s.clrReg i m).regs = true := s.setReg_wf i _ h
theorem State.setFld_wf (i lo n v : Nat) (h : spWf resetWord s.regs = true) :
    spWf resetWord (s.setFld i lo n v).regs = true := s.setReg_wf i _ h
theorem State.count_wf (i lo n : Nat) (h : spWf resetWord s.regs = true) :
    spWf resetWord (s.count i lo n).regs = true := s.setReg_wf i _ h
/-- A counter write keeps the canonical form of the counters. -/
theorem State.setCtr_wf (n v : Nat) (h : spWf (fun _ => 0) s.onx.counters = true) :
    spWf (fun _ => 0) (s.setCtr n v).onx.counters = true := spPut_wf _ _ n v h


end Sys2Proof.Machine
end

