-- ==== Sys2Proof/Laws/Frames.lean ====
section
/-! SUPPORT. What the shared operations leave as it was: journal records, fault events, the refreshes of effective values,
and the switch of a port. -/
namespace Sys2Proof.Machine

variable (s : State)

/-! ### Journal records and fault events -/

/-- A projection that a raw record leaves. -/
theorem State.jrnRaw_keep {α : Sort*} (f : State → α) (hO : ∀ s g, f (State.modOnx s g) = f s)
    (hN : ∀ s g, f (State.modNvm s g) = f s) (typ fl : Nat) (l : List Byte) (s : State) : f (s.jrnRaw typ fl l) = f s := by
  unfold State.jrnRaw State.nvmQueue
  exact (hN _ _).trans (hO _ _)

theorem State.jrnSeal_keep {α : Sort*} (f : State → α) (hO : ∀ s g, f (State.modOnx s g) = f s)
    (hN : ∀ s g, f (State.modNvm s g) = f s) (s : State) : f s.jrnSeal = f s := by
  unfold State.jrnSeal
  cases s.onx.jk with
  | none => rfl
  | some k => exact (hO _ _).trans (State.jrnRaw_keep f hO hN _ _ _ _)

/-- A journal record touches Onyx and the NVM's operations only. -/
theorem State.jrn_keep {α : Sort*} (f : State → α) (hO : ∀ s g, f (State.modOnx s g) = f s)
    (hN : ∀ s g, f (State.modNvm s g) = f s) (typ : Nat) (l : List Byte) (fw : Bool) (s : State) :
    f (s.jrn typ l fw) = f s := by
  unfold State.jrn
  have e := State.jrnRaw_keep f hO hN typ (if fw then 2 else 0) l s
  generalize s.jrnRaw typ (if fw then 2 else 0) l = t at e
  split
  · dsimp only
    split
    · exact (State.jrnSeal_keep f hO hN t).trans e
    · exact e
  · rfl

/-- A posted event touches the posted events and the owed actions only. -/
theorem State.postF_keep {α : Sort*} (f : State → α) (hP : ∀ (s : State) l, f { s with posts := l } = f s)
    (hT : ∀ (s : State) l, f { s with todo := l } = f s) (p : Port) (c : Byte) (a : Half) (s : State) :
    f (s.postF p c a) = f s := by
  unfold State.postF
  dsimp only
  split
  · exact hP _ _
  · exact (hT (s.post _ _ _) _).trans (hP _ _)

/-- A fault event touches its unit, a counter register, the queues of posted events and owed actions, and the journal. -/
theorem State.fault_keep {α : Sort*} (f : State → α) (hF : ∀ s u x, f (State.setFlt s u x) = f s)
    (hR : ∀ s i w, f (State.setReg s i w) = f s) (hP : ∀ (s : State) l, f { s with posts := l } = f s)
    (hT : ∀ (s : State) l, f { s with todo := l } = f s) (hO : ∀ s g, f (State.modOnx s g) = f s)
    (hN : ∀ s g, f (State.modNvm s g) = f s) (u src v : Nat) (l3 : Bool) (s : State) : f (s.fault u src v l3) = f s := by
  unfold State.fault
  split
  · rfl
  · lift_lets
    extract_lets f0 c pend pl bus
    generalize countWindow (decide (s.fltCfg.reactions ≠ [])) c (BitVec.ofNat 8 src) f0.windows = r
    obtain ⟨ws, prom⟩ := r
    dsimp -zeta only
    extract_lets l esc raises w0 f1 s1 s2 s3 arg s4 s5 s6
    have e2 : f s2 = f s := (hR _ _ _).trans (hF _ _ _)
    have e3 : f s3 = f s := by
      unfold s3; split
      · exact (hR _ _ _).trans e2
      · exact e2
    have e4 : f s4 = f s := by
      unfold s4; split
      · exact e3
      · split
        · exact (State.postF_keep f hP hT _ _ _ _).trans e3
        · split
          · exact (hP _ _).trans e3
          · exact e3
    have e5 : f s5 = f s := by
      unfold s5; split
      · exact (State.jrn_keep f hO hN _ _ _ _).trans e4
      · exact e4
    have e6 : f s6 = f s := by
      unfold s6; split
      · exact (hT _ _).trans e5
      · exact e5
    split
    · exact (hT _ _).trans e6
    · exact e6

@[simp] theorem State.facet_fault (u src v : Nat) (l3 : Bool) (p : Port) : (s.fault u src v l3).facet p = s.facet p :=
  State.fault_keep (fun s => s.facet p) (fun _ _ _ => by simp) (fun _ _ _ => by simp) (fun _ _ => by cases p <;> rfl)
    (fun _ _ => by cases p <;> rfl) (fun _ _ => by simp) (fun _ _ => by simp) u src v l3 s
@[simp] theorem State.hub_fault (u src v : Nat) (l3 : Bool) : (s.fault u src v l3).hub = s.hub :=
  State.fault_keep State.hub (fun _ _ _ => by simp) (fun _ _ _ => rfl) (fun _ _ => rfl) (fun _ _ => rfl) (fun _ _ => rfl)
    (fun _ _ => rfl) u src v l3 s
@[simp] theorem State.lap_fault (u src v : Nat) (l3 : Bool) : (s.fault u src v l3).lap = s.lap :=
  State.fault_keep State.lap (fun _ _ _ => by simp) (fun _ _ _ => rfl) (fun _ _ => rfl) (fun _ _ => rfl) (fun _ _ => rfl)
    (fun _ _ => rfl) u src v l3 s
@[simp] theorem State.ldr_fault (u src v : Nat) (l3 : Bool) : (s.fault u src v l3).ldr = s.ldr :=
  State.fault_keep State.ldr (fun _ _ _ => by simp) (fun _ _ _ => rfl) (fun _ _ => rfl) (fun _ _ => rfl) (fun _ _ => rfl)
    (fun _ _ => rfl) u src v l3 s
@[simp] theorem State.mode_fault (u src v : Nat) (l3 : Bool) : (s.fault u src v l3).mode = s.mode :=
  State.fault_keep State.mode (fun _ _ _ => by simp) (fun _ _ _ => rfl) (fun _ _ => rfl) (fun _ _ => rfl) (fun _ _ => rfl)
    (fun _ _ => rfl) u src v l3 s
@[simp] theorem State.clkStopped_fault (u src v : Nat) (l3 : Bool) : (s.fault u src v l3).clkStopped = s.clkStopped :=
  State.fault_keep State.clkStopped (fun _ _ _ => by simp) (fun _ _ _ => rfl) (fun _ _ => rfl) (fun _ _ => rfl) (fun _ _ => rfl)
    (fun _ _ => rfl) u src v l3 s
@[simp] theorem State.wmHi_fault (u src v : Nat) (l3 : Bool) : (s.fault u src v l3).wmHi = s.wmHi :=
  State.fault_keep State.wmHi (fun _ _ _ => by simp) (fun _ _ _ => rfl) (fun _ _ => rfl) (fun _ _ => rfl) (fun _ _ => rfl)
    (fun _ _ => rfl) u src v l3 s
@[simp] theorem State.wmLo_fault (u src v : Nat) (l3 : Bool) : (s.fault u src v l3).wmLo = s.wmLo :=
  State.fault_keep State.wmLo (fun _ _ _ => by simp) (fun _ _ _ => rfl) (fun _ _ => rfl) (fun _ _ => rfl) (fun _ _ => rfl)
    (fun _ _ => rfl) u src v l3 s
/-! ### The hub -/

/-- An epoch's advance touches the epoch only. -/
theorem Hub.advance_rest (h : Hub) (n : Nat) :
    h.advance n = { h with epoch := (h.advance n).epoch, epPend := (h.advance n).epPend
                           epLast := (h.advance n).epLast, fresh := (h.advance n).fresh } := by
  unfold Hub.advance
  split
  · rfl
  · split
    · rfl
    · split <;> rfl

theorem State.hub_modHub_keep {α : Sort*} (f : Hub → α) (hf : ∀ (h : Hub) n, f (h.advance n) = f h) (g : Hub → Hub) :
    f (s.modHub g).hub = f (g s.hub) := by
  unfold State.modHub
  dsimp only
  split
  · rfl
  · exact hf _ _

@[simp] theorem State.bat_modHub (g : Hub → Hub) : (s.modHub g).hub.bat = (g s.hub).bat :=
  s.hub_modHub_keep Hub.bat (fun h n => by rw [h.advance_rest n]) g
@[simp] theorem State.cv1_modHub (g : Hub → Hub) : (s.modHub g).hub.cv1 = (g s.hub).cv1 :=
  s.hub_modHub_keep Hub.cv1 (fun h n => by rw [h.advance_rest n]) g
@[simp] theorem State.cv2_modHub (g : Hub → Hub) : (s.modHub g).hub.cv2 = (g s.hub).cv2 :=
  s.hub_modHub_keep Hub.cv2 (fun h n => by rw [h.advance_rest n]) g
@[simp] theorem State.feed1_modHub (g : Hub → Hub) : (s.modHub g).hub.feed1 = (g s.hub).feed1 :=
  s.hub_modHub_keep Hub.feed1 (fun h n => by rw [h.advance_rest n]) g
@[simp] theorem State.feed2_modHub (g : Hub → Hub) : (s.modHub g).hub.feed2 = (g s.hub).feed2 :=
  s.hub_modHub_keep Hub.feed2 (fun h n => by rw [h.advance_rest n]) g
@[simp] theorem State.rc_modHub (g : Hub → Hub) : (s.modHub g).hub.rc = (g s.hub).rc :=
  s.hub_modHub_keep Hub.rc (fun h n => by rw [h.advance_rest n]) g
@[simp] theorem State.fstate_modHub (g : Hub → Hub) : (s.modHub g).hub.fstate = (g s.hub).fstate :=
  s.hub_modHub_keep Hub.fstate (fun h n => by rw [h.advance_rest n]) g
@[simp] theorem State.frozen_modHub (g : Hub → Hub) : (s.modHub g).hub.frozen = (g s.hub).frozen :=
  s.hub_modHub_keep Hub.frozen (fun h n => by rw [h.advance_rest n]) g

@[simp] theorem State.bat_modBat (g : Bat → Bat) : (s.modBat g).hub.bat = g s.hub.bat := by simp [State.modBat]
@[simp] theorem State.bat_modCv (c : Conv) (g : Cv → Cv) : (s.modCv c g).hub.bat = s.hub.bat := by
  cases c <;> simp [State.modCv]
@[simp] theorem State.cv_modCv (c : Conv) (g : Cv → Cv) : (s.modCv c g).cv c = g (s.cv c) := by
  cases c <;> simp [State.modCv, State.cv]
@[simp] theorem State.facet_modCv (c : Conv) (g : Cv → Cv) (p : Port) : (s.modCv c g).facet p = s.facet p := by
  simp [State.modCv]
@[simp] theorem State.facet_modBat (g : Bat → Bat) (p : Port) : (s.modBat g).facet p = s.facet p := by simp [State.modBat]
@[simp] theorem State.hub_postF (p : Port) (c : Byte) (a : Half) : (s.postF p c a).hub = s.hub :=
  State.postF_keep State.hub (fun _ _ => rfl) (fun _ _ => rfl) p c a s

/-- A charge phase takes the value it is given, and the battery's state stays (R349). -/
@[simp] theorem State.phase_setPhase (x : ChgPhase) : (s.setPhase x).hub.bat.phase = x := by
  unfold State.setPhase
  split
  · assumption
  · simp [State.postH, State.post, Bat.phaseTo]
@[simp] theorem State.st_setPhase (x : ChgPhase) : (s.setPhase x).hub.bat.st = s.hub.bat.st := by
  unfold State.setPhase
  split
  · rfl
  · simp [State.postH, State.post, Bat.phaseTo]
@[simp] theorem State.phase_stopCharge (x : ChgPhase) : (s.stopCharge x).hub.bat.phase = x := by simp [State.stopCharge]
@[simp] theorem State.st_stopCharge (x : ChgPhase) : (s.stopCharge x).hub.bat.st = s.hub.bat.st := by simp [State.stopCharge]
@[simp] theorem State.hub_setReg (i : Nat) (w : Word) : (s.setReg i w).hub = s.hub := rfl
theorem State.st_judgeCharge : s.judgeCharge.hub.bat.st = s.hub.bat.st := by
  unfold State.judgeCharge
  dsimp only
  split
  · simp
  · split
    · simp
    · rfl
theorem State.bat_hubClamp (k : Nat) (b : Bool) : (s.hubClamp k b).hub.bat = s.hub.bat := by
  unfold State.hubClamp
  dsimp only
  split
  · simp [State.postH, State.post]
    split <;> rfl
  · simp
    split <;> rfl
theorem State.bat_refreshBat : s.refreshBat.hub.bat = s.hub.bat := by
  unfold State.refreshBat
  dsimp only
  rw [State.bat_hubClamp, State.bat_hubClamp, State.bat_hubClamp]
  rfl
theorem State.st_gaugeRecord : s.gaugeRecord.hub.bat.st = s.hub.bat.st := by simp [State.gaugeRecord, State.nvmQueue]
/-- The battery takes the state it is given (R345). -/
theorem State.st_setBat (x : BatState) : (s.setBat x).hub.bat.st = x := by
  unfold State.setBat
  split
  · assumption
  · dsimp only
    rw [State.bat_refreshBat, State.st_judgeCharge, State.st_gaugeRecord]
    simp [State.postH, State.post]

/-! ### The switch of a port -/

theorem State.facet_makeConv (b : Bus) (p : Port) : (s.makeFeed b 6).facet p = s.facet p := by
  unfold State.makeFeed State.unlose
  simp only [show ¬ (1 ≤ 6 ∧ 6 ≤ 4) by omega, show ¬ (6 = 5) by omega, if_false]
  split
  · split
    · split <;> simp
    · simp
  · simp
theorem State.facet_breakBus (b : Bus) (p : Port) : (s.breakBus b).facet p = s.facet p := by
  unfold State.breakBus
  split
  · rfl
  · exact s.facet_makeConv b p
  · simp
@[simp] theorem State.facet_setPhase (x : ChgPhase) (p : Port) : (s.setPhase x).facet p = s.facet p := by
  unfold State.setPhase
  split
  · rfl
  · simp [State.postH]
theorem State.facet_chargeToBus (b : Bus) (p : Port) : (s.chargeToBus b).facet p = s.facet p := by
  unfold State.chargeToBus
  split
  · rfl
  · dsimp only
    split
    · split <;> simp
    · rfl
/-- The end of a feed touches no facet. -/
@[simp] theorem State.facet_feedEnd (b : Bus) (c : Nat) (p : Port) : (s.feedEnd b c).facet p = s.facet p := by
  unfold State.feedEnd
  dsimp only
  split
  · rw [State.facet_chargeToBus, State.facet_breakBus]
  · rw [State.facet_chargeToBus]


@[simp] theorem State.fstate_modPp (p q : Port) (g : Pp → Pp) : ((s.modPp p g).facet q).fstate = (s.facet q).fstate := by
  rw [State.modPp, State.fstate_modF]
  split
  · next h => rw [h]
  · rfl
theorem State.pp_modPp (p q : Port) (g : Pp → Pp) :
    ((s.modPp p g).facet q).pp = if q = p then g (s.facet p).pp else (s.facet q).pp := by rw [State.modPp, State.pp_modF]
@[simp] theorem State.pp_modPp_same (p : Port) (g : Pp → Pp) : ((s.modPp p g).facet p).pp = g (s.facet p).pp := by
  rw [State.pp_modPp, if_pos rfl]
@[simp] theorem State.fstate_refreshRp (p q : Port) : ((s.refreshRp p).facet q).fstate = (s.facet q).fstate := by
  unfold State.refreshRp
  split
  · rfl
  · rw [State.modCc, State.fstate_modF]
    split
    · next h => rw [h]
    · rfl
@[simp] theorem State.pp_refreshRp (p q : Port) : ((s.refreshRp p).facet q).pp = (s.facet q).pp := by
  unfold State.refreshRp
  split
  · rfl
  · rw [State.modCc, State.pp_modF]
    split
    · next h => rw [h]
    · rfl
theorem State.fstate_pgDown (p q : Port) : ((s.pgDown p).facet q).fstate = (s.facet q).fstate := by
  unfold State.pgDown; split
  · simp
  · rfl
theorem State.swCmd_pgDown (p : Port) : ((s.pgDown p).facet p).pp.swCmd = (s.facet p).pp.swCmd := by
  unfold State.pgDown; split
  · simp
  · rfl
/-- An opened switch is commanded open with its gates off, and its facet keeps its state (R276). -/
theorem State.swCmd_openSwitch (p : Port) : ((s.openSwitch p).facet p).pp.swCmd = false := by
  have g : ((s.gates p false).facet p).pp.swCmd = false := by
    unfold State.gates
    dsimp only
    rw [State.swCmd_pgDown, State.pp_modPp_same, State.pp_modPp_same]
  unfold State.openSwitch
  dsimp only
  split
  · rw [State.facet_feedEnd]; exact g
  · exact g
theorem State.fstate_openSwitch (p q : Port) : ((s.openSwitch p).facet q).fstate = (s.facet q).fstate := by
  have g : ((s.gates p false).facet q).fstate = (s.facet q).fstate := by
    unfold State.gates
    dsimp only
    rw [State.fstate_pgDown, State.fstate_modPp, State.fstate_modPp]
  unfold State.openSwitch
  dsimp only
  split
  · rw [State.facet_feedEnd]; exact g
  · exact g

end Sys2Proof.Machine
end

