-- ==== Sys2Proof/Laws/Settle.lean ====
section
/-! SUPPORT. What the end of a cycle leaves, whatever state it starts from: nothing posted, nothing owed while `CLK` runs,
no epoch marked fresh, and no STANDBY with an enabled interrupt line up. -/
namespace Sys2Proof.Machine

variable (s : State)

/-! ### Delivery -/

theorem deliverAll_rest (l : List Post) (s : State) :
    (deliverAll s l).posts = s.posts ∧ (deliverAll s l).todo = s.todo ∧ (deliverAll s l).mode = s.mode
      ∧ (deliverAll s l).clkStopped = s.clkStopped ∧ (deliverAll s l).fa = s.fa ∧ (deliverAll s l).fb = s.fb
      ∧ (deliverAll s l).fc = s.fc ∧ (deliverAll s l).fd = s.fd ∧ (deliverAll s l).hub = s.hub := by
  induction l generalizing s with
  | nil => simp [deliverAll]
  | cons x xs ih => simpa [deliverAll, State.deliver] using ih (s.deliver x)

theorem State.flushPosts_posts : s.flushPosts.posts = [] := (deliverAll_rest _ _).1

/-! ### The end of a cycle -/

theorem State.standbyEnd_rest :
    s.standbyEnd.posts = s.posts ∧ s.standbyEnd.todo = s.todo ∧ s.standbyEnd.clkStopped = s.clkStopped
      ∧ s.standbyEnd.fa = s.fa ∧ s.standbyEnd.fb = s.fb ∧ s.standbyEnd.fc = s.fc ∧ s.standbyEnd.fd = s.fd
      ∧ s.standbyEnd.hub = s.hub := by
  unfold State.standbyEnd; split <;> simp

theorem State.standbyEnd_meip (h : s.standbyEnd.mode = .standby) : s.standbyEnd.meip = false := by
  unfold State.standbyEnd at h ⊢
  split
  · rename_i hc; rw [if_pos hc] at h; cases h
  · rename_i hc; rw [if_neg hc] at h
    cases hm : s.meip with
    | false => rfl
    | true => exact absurd ⟨h, hm⟩ hc

theorem State.standbyEnd_stalled : s.standbyEnd.stalled = s.stalled := by
  unfold State.standbyEnd
  split
  · rename_i h; simp [State.stalled, h.1]
  · rfl

/-- The five parts of `quiet` that the end of a cycle settles. -/
theorem State.endCycle_quiet :
    s.endCycle.posts = [] ∧ s.endCycle.fa.fresh = false ∧ s.endCycle.fb.fresh = false ∧ s.endCycle.fc.fresh = false
      ∧ s.endCycle.fd.fresh = false ∧ s.endCycle.hub.fresh = false
      ∧ (s.endCycle.mode = .standby → s.endCycle.meip = false) := by
  have hr := State.standbyEnd_rest (s.sentWatch.syncFeeds.refreshFresh.clearFresh.flushPosts)
  have hd := deliverAll_rest (sortPosts [] s.sentWatch.syncFeeds.refreshFresh.clearFresh.posts)
    { s.sentWatch.syncFeeds.refreshFresh.clearFresh with posts := [] }
  refine ⟨?_, ?_, ?_, ?_, ?_, ?_, State.standbyEnd_meip _⟩
  · exact hr.1.trans (State.flushPosts_posts _)
  · exact (congrArg Facet.fresh (hr.2.2.2.1.trans hd.2.2.2.2.1)).trans rfl
  · exact (congrArg Facet.fresh (hr.2.2.2.2.1.trans hd.2.2.2.2.2.1)).trans rfl
  · exact (congrArg Facet.fresh (hr.2.2.2.2.2.1.trans hd.2.2.2.2.2.2.1)).trans rfl
  · exact (congrArg Facet.fresh (hr.2.2.2.2.2.2.1.trans hd.2.2.2.2.2.2.2.1)).trans rfl
  · exact (congrArg Hub.fresh (hr.2.2.2.2.2.2.2.trans hd.2.2.2.2.2.2.2.2)).trans rfl

/-- `quiet` in words. -/
theorem State.quiet_iff : s.quiet = true ↔
    s.posts = [] ∧ (s.todo = [] ∨ s.stalled = true) ∧ s.fa.fresh = false ∧ s.fb.fresh = false ∧ s.fc.fresh = false
      ∧ s.fd.fresh = false ∧ s.hub.fresh = false ∧ (s.mode = .standby → s.meip = false) := by
  simp only [State.quiet, Bool.and_eq_true, Bool.or_eq_true, List.isEmpty_iff, Bool.not_eq_true', Bool.and_eq_false_iff,
    decide_eq_false_iff_not, and_assoc]
  constructor
  · rintro ⟨a, b, c, d, e, f, g, h⟩
    refine ⟨a, b, c, d, e, f, g, fun hm => ?_⟩
    rcases h with h | h
    · exact absurd hm h
    · exact h
  · rintro ⟨a, b, c, d, e, f, g, h⟩
    refine ⟨a, b, c, d, e, f, g, ?_⟩
    by_cases hm : s.mode = .standby
    · exact Or.inr (h hm)
    · exact Or.inl hm

/-! ### Settling -/

/-- The interrupt lines do not look at what is owed. -/
theorem State.lineFrom_todo (l : List Act) (u c n : Nat) : ({ s with todo := l } : State).lineFrom u c n = s.lineFrom u c n := by
  induction n generalizing c with
  | zero => rfl
  | succ n ih => unfold State.lineFrom; rw [ih]; rfl

theorem State.irqLine_todo (l : List Act) (k : Nat) : ({ s with todo := l } : State).irqLine k = s.irqLine k := by
  unfold State.irqLine State.fltLine
  simp only [State.lineFrom_todo]
  rfl

theorem State.meip_todo (l : List Act) : ({ s with todo := l } : State).meip = s.meip := by
  unfold State.meip State.irqView
  rw [show ({ s with todo := l } : State).irqLine = s.irqLine from funext (s.irqLine_todo l)]
  rfl

theorem State.settleN_quiet (n : Nat) (s : State)
    (h : s.posts = [] ∧ s.fa.fresh = false ∧ s.fb.fresh = false ∧ s.fc.fresh = false ∧ s.fd.fresh = false
      ∧ s.hub.fresh = false ∧ (s.mode = .standby → s.meip = false)) : (State.settleN n s).quiet = true := by
  induction n generalizing s with
  | zero =>
    obtain ⟨a, c, d, e, f, g, i⟩ := h
    unfold State.settleN
    rw [State.quiet_iff, State.meip_todo]
    exact ⟨a, Or.inl rfl, c, d, e, f, g, i⟩
  | succ n ih =>
    unfold State.settleN
    split
    · rename_i ht
      rw [State.quiet_iff]
      obtain ⟨a, c, d, e, f, g, i⟩ := h
      exact ⟨a, Or.inl ht, c, d, e, f, g, i⟩
    · exact ih _ (State.endCycle_quiet _)

theorem putMirrors_rest (b : Nat) (e : Byte) (l : List (Nat × Word)) (s : State) :
    (s.putMirrors b e l).mode = s.mode ∧ (s.putMirrors b e l).clkStopped = s.clkStopped := by
  induction l generalizing s with
  | nil => simp [State.putMirrors]
  | cons x xs ih => obtain ⟨o, w⟩ := x; simpa [State.putMirrors] using ih (s.setReg (b + o) (mirror e w))

theorem State.refreshFacet_rest (p : Port) :
    (s.refreshFacet p).mode = s.mode ∧ (s.refreshFacet p).clkStopped = s.clkStopped := by
  unfold State.refreshFacet
  dsimp only
  split
  · simp
  · exact putMirrors_rest _ _ _ _

theorem State.refreshHub_rest : s.refreshHub.mode = s.mode ∧ s.refreshHub.clkStopped = s.clkStopped := by
  unfold State.refreshHub
  split
  · simp
  · exact putMirrors_rest _ _ _ _

theorem State.refreshCc_rest (p : Port) :
    (s.refreshCc p).mode = s.mode ∧ (s.refreshCc p).clkStopped = s.clkStopped := by
  unfold State.refreshCc
  dsimp only
  split <;> simp

theorem State.refreshFresh_rest : s.refreshFresh.mode = s.mode ∧ s.refreshFresh.clkStopped = s.clkStopped := by
  have step : ∀ (c : Bool) (s : State) (p : Port), (if c then s.refreshFacet p else s).mode = s.mode
      ∧ (if c then s.refreshFacet p else s).clkStopped = s.clkStopped := by
    intro c s p; cases c
    · simp
    · exact s.refreshFacet_rest p
  have last : ∀ (c : Bool) (s : State), (if c then s.refreshHub else s).mode = s.mode
      ∧ (if c then s.refreshHub else s).clkStopped = s.clkStopped := by
    intro c s; cases c
    · simp
    · exact s.refreshHub_rest
  unfold State.refreshFresh
  dsimp only
  have cc := State.refreshCc_rest
  refine ⟨?_, ?_⟩
  · rw [(last _ _).1, (cc _ _).1, (cc _ _).1, (cc _ _).1, (cc _ _).1, (step _ _ _).1, (step _ _ _).1, (step _ _ _).1, (step _ _ _).1]
  · rw [(last _ _).2, (cc _ _).2, (cc _ _).2, (cc _ _).2, (cc _ _).2, (step _ _ _).2, (step _ _ _).2, (step _ _ _).2, (step _ _ _).2]

theorem State.syncBus_rest (b : Bus) : (s.syncBus b).mode = s.mode ∧ (s.syncBus b).clkStopped = s.clkStopped := by
  unfold State.syncBus; split <;> simp

theorem State.syncFeeds_rest : s.syncFeeds.mode = s.mode ∧ s.syncFeeds.clkStopped = s.clkStopped := by
  unfold State.syncFeeds
  dsimp only
  split <;> simp [State.postH, State.syncBus_rest]

theorem State.sentCancel_rest : s.sentCancel.mode = s.mode ∧ s.sentCancel.clkStopped = s.clkStopped := by
  unfold State.sentCancel
  split <;> simp [State.modeResult]

theorem State.sentWatch_rest : s.sentWatch.mode = s.mode ∧ s.sentWatch.clkStopped = s.clkStopped := by
  unfold State.sentWatch
  split
  · simp
  · exact State.sentCancel_rest _

/-- The end of a cycle neither stops nor starts `CLK`. -/
theorem State.endCycle_stalled : s.endCycle.stalled = s.stalled := by
  have hd := deliverAll_rest (sortPosts [] s.sentWatch.syncFeeds.refreshFresh.clearFresh.posts)
    { s.sentWatch.syncFeeds.refreshFresh.clearFresh with posts := [] }
  have hm : s.sentWatch.syncFeeds.refreshFresh.clearFresh.flushPosts.mode = s.mode :=
    hd.2.2.1.trans ((State.refreshFresh_rest _).1.trans (s.sentWatch.syncFeeds_rest.1.trans s.sentWatch_rest.1))
  have hc : s.sentWatch.syncFeeds.refreshFresh.clearFresh.flushPosts.clkStopped = s.clkStopped :=
    hd.2.2.2.1.trans ((State.refreshFresh_rest _).2.trans (s.sentWatch.syncFeeds_rest.2.trans s.sentWatch_rest.2))
  unfold State.endCycle
  rw [State.standbyEnd_stalled]
  simp [State.stalled, hm, hc]

/-- Settling leaves the block quiet, whatever state a meaning gave. -/
theorem State.settle_quiet : s.settle.quiet = true := by
  unfold State.settle
  dsimp only
  split
  · rename_i h
    rw [State.quiet_iff]
    obtain ⟨a, c, d, e, f, g, i⟩ := s.pdDueAll.evaluate.endCycle_quiet
    exact ⟨a, Or.inr h, c, d, e, f, g, i⟩
  · exact State.settleN_quiet 64 _ (State.endCycle_quiet _)

end Sys2Proof.Machine
end

