-- ==== Sys2Proof/Laws/UnitFrames.lean ====
section
/-! SUPPORT. The frames of Safety.lean over the shared operations: each keeps `PortFrame` or `UnitFrame` of its port. -/
namespace Sys2Proof.Machine

variable {p : Port} {s t u : State} {ps : List Port}

theorem PortFrame.refl : PortFrame p s s := ⟨fun _ _ => rfl, rfl⟩
theorem PortFrame.trans (h : PortFrame p s t) (k : PortFrame p t u) : PortFrame p s u :=
  ⟨fun q n => (k.1 q n).trans (h.1 q n), k.2.trans (congrArg (fun x : State =>
    { x with fa := u.fa, fb := u.fb, fc := u.fc, fd := u.fd, regs := u.regs, posts := u.posts, todo := u.todo }) h.2)⟩
theorem PortFrame.modF (h : PortFrame p s t) (g : Facet → Facet) : PortFrame p s (t.modF p g) :=
  PortFrame.trans h ⟨fun q n => State.facet_modF_ne t p q g n, by unfold State.modF; cases p <;> rfl⟩
theorem PortFrame.modPp (h : PortFrame p s t) (g) : PortFrame p s (t.modPp p g) := PortFrame.modF h _
theorem PortFrame.modPd (h : PortFrame p s t) (g) : PortFrame p s (t.modPd p g) := PortFrame.modF h _
theorem PortFrame.modCc (h : PortFrame p s t) (g) : PortFrame p s (t.modCc p g) := PortFrame.modF h _
theorem PortFrame.modCt (h : PortFrame p s t) (g) : PortFrame p s (t.modCt p g) := PortFrame.modF h _
theorem PortFrame.modLk (h : PortFrame p s t) (g) : PortFrame p s (t.modLk p g) := PortFrame.modF h _
theorem PortFrame.modRc (h : PortFrame p s t) (g) : PortFrame p s (t.modRc p g) := PortFrame.modF h _
theorem PortFrame.setReg (h : PortFrame p s t) (i : Nat) (w : Word) : PortFrame p s (t.setReg i w) :=
  PortFrame.trans h ⟨fun q _ => by cases q <;> rfl, rfl⟩
theorem PortFrame.orReg (h : PortFrame p s t) (i : Nat) (w : Word) : PortFrame p s (t.orReg i w) := PortFrame.setReg h i _
theorem PortFrame.count (h : PortFrame p s t) (i lo n : Nat) : PortFrame p s (t.count i lo n) := by
  unfold State.count State.setFld; exact PortFrame.setReg h ..
theorem PortFrame.clrReg (h : PortFrame p s t) (i : Nat) (w : Word) : PortFrame p s (t.clrReg i w) := PortFrame.setReg h i _
theorem PortFrame.setFld (h : PortFrame p s t) (i lo n v : Nat) : PortFrame p s (t.setFld i lo n v) := by
  unfold State.setFld; exact PortFrame.setReg h ..
theorem PortFrame.foldl {α : Type} (g : State → α → State) (hg : ∀ x a, PortFrame p s x → PortFrame p s (g x a)) (l : List α)
    (h : PortFrame p s t) : PortFrame p s (l.foldl g t) := by
  induction l generalizing t with
  | nil => exact h
  | cons a l ih => exact ih (hg _ a h)
theorem PortFrame.posts (h : PortFrame p s t) (l) (k) : PortFrame p s { t with posts := l, todo := k } :=
  PortFrame.trans h ⟨fun q _ => by cases q <;> rfl, rfl⟩
theorem PortFrame.postF (h : PortFrame p s t) (q : Port) (c : Byte) (a : Half) : PortFrame p s (t.postF q c a) := by
  unfold State.postF; dsimp only; split <;> exact PortFrame.posts h ..
theorem PortFrame.postH (h : PortFrame p s t) (c : Byte) (a : Half) : PortFrame p s (t.postH c a) := PortFrame.posts h _ t.todo

theorem UnitFrame.refl : UnitFrame ps s s := ⟨fun _ _ => rfl, rfl, rfl⟩
theorem UnitFrame.trans (h : UnitFrame ps s t) (k : UnitFrame ps t u) : UnitFrame ps s u :=
  ⟨fun q n => (k.1 q n).trans (h.1 q n), k.2.1.trans h.2.1, k.2.2.trans (congrArg (fun x : State =>
    { x with fa := u.fa, fb := u.fb, fc := u.fc, fd := u.fd, hub := u.hub, regs := u.regs, posts := u.posts
             todo := u.todo, flt0 := u.flt0, flt1 := u.flt1, flt2 := u.flt2, flt3 := u.flt3, flt4 := u.flt4
             flt5 := u.flt5, onx := u.onx, nvm := u.nvm }) h.2.2)⟩
theorem UnitFrame.ofPort (hp : p ∈ ps) (h : PortFrame p s t) : UnitFrame ps s t :=
  ⟨fun q n => h.1 q (fun e => n (e ▸ hp)), (congrArg (fun x : State => x.nvm.mem) h.2 : _), by
    obtain ⟨_, h⟩ := h
    have := congrArg State.hub h; have := congrArg State.nvm h; have := congrArg State.onx h
    have := congrArg State.flt0 h; have := congrArg State.flt1 h; have := congrArg State.flt2 h
    have := congrArg State.flt3 h; have := congrArg State.flt4 h; have := congrArg State.flt5 h
    simp only at *
    rw [h]⟩
theorem UnitFrame.modF (hp : p ∈ ps) (h : UnitFrame ps s t) (g : Facet → Facet) : UnitFrame ps s (t.modF p g) :=
  UnitFrame.trans h (UnitFrame.ofPort hp (PortFrame.modF PortFrame.refl g))
theorem UnitFrame.modPp (hp : p ∈ ps) (h : UnitFrame ps s t) (g) : UnitFrame ps s (t.modPp p g) := UnitFrame.modF hp h _
theorem UnitFrame.modPd (hp : p ∈ ps) (h : UnitFrame ps s t) (g) : UnitFrame ps s (t.modPd p g) := UnitFrame.modF hp h _
theorem UnitFrame.modCc (hp : p ∈ ps) (h : UnitFrame ps s t) (g) : UnitFrame ps s (t.modCc p g) := UnitFrame.modF hp h _
theorem UnitFrame.modCt (hp : p ∈ ps) (h : UnitFrame ps s t) (g) : UnitFrame ps s (t.modCt p g) := UnitFrame.modF hp h _
theorem UnitFrame.modLk (hp : p ∈ ps) (h : UnitFrame ps s t) (g) : UnitFrame ps s (t.modLk p g) := UnitFrame.modF hp h _
theorem UnitFrame.modRc (hp : p ∈ ps) (h : UnitFrame ps s t) (g) : UnitFrame ps s (t.modRc p g) := UnitFrame.modF hp h _
theorem UnitFrame.setReg (h : UnitFrame ps s t) (i : Nat) (w : Word) : UnitFrame ps s (t.setReg i w) :=
  UnitFrame.trans h ⟨fun q _ => by cases q <;> rfl, rfl, rfl⟩
theorem UnitFrame.orReg (h : UnitFrame ps s t) (i : Nat) (w : Word) : UnitFrame ps s (t.orReg i w) := UnitFrame.setReg h i _
theorem UnitFrame.count (h : UnitFrame ps s t) (i lo n : Nat) : UnitFrame ps s (t.count i lo n) := by
  unfold State.count State.setFld; exact UnitFrame.setReg h ..
theorem UnitFrame.clrReg (h : UnitFrame ps s t) (i : Nat) (w : Word) : UnitFrame ps s (t.clrReg i w) := UnitFrame.setReg h i _
theorem UnitFrame.setFld (h : UnitFrame ps s t) (i lo n v : Nat) : UnitFrame ps s (t.setFld i lo n v) := by
  unfold State.setFld; exact UnitFrame.setReg h ..
theorem UnitFrame.posts (h : UnitFrame ps s t) (l) (k) : UnitFrame ps s { t with posts := l, todo := k } :=
  UnitFrame.trans h ⟨fun q _ => by cases q <;> rfl, rfl, rfl⟩
theorem UnitFrame.postF (h : UnitFrame ps s t) (q : Port) (c : Byte) (a : Half) : UnitFrame ps s (t.postF q c a) := by
  unfold State.postF; dsimp only; split <;> exact UnitFrame.posts h ..
theorem UnitFrame.postH (h : UnitFrame ps s t) (c : Byte) (a : Half) : UnitFrame ps s (t.postH c a) := UnitFrame.posts h _ t.todo
theorem UnitFrame.hub (h : UnitFrame ps s t) (x : Hub) : UnitFrame ps s { t with hub := x } :=
  UnitFrame.trans h ⟨fun q _ => by cases q <;> rfl, rfl, rfl⟩
theorem UnitFrame.modHub (h : UnitFrame ps s t) (g) : UnitFrame ps s (t.modHub g) := UnitFrame.hub h _
theorem UnitFrame.modBat (h : UnitFrame ps s t) (g) : UnitFrame ps s (t.modBat g) := UnitFrame.hub h _
theorem UnitFrame.modCv (h : UnitFrame ps s t) (c g) : UnitFrame ps s (t.modCv c g) := UnitFrame.hub h _
theorem UnitFrame.onx (h : UnitFrame ps s t) (x : Onx) : UnitFrame ps s { t with onx := x } :=
  UnitFrame.trans h ⟨fun q _ => by cases q <;> rfl, rfl, rfl⟩
theorem UnitFrame.modOnx (h : UnitFrame ps s t) (g) : UnitFrame ps s (t.modOnx g) := UnitFrame.onx h _
theorem UnitFrame.nvmQueue (h : UnitFrame ps s t) (o) : UnitFrame ps s (t.nvmQueue o) :=
  UnitFrame.trans h ⟨fun q _ => by cases q <;> rfl, by unfold State.nvmQueue State.modNvm; rfl, by unfold State.nvmQueue State.modNvm; rfl⟩
theorem UnitFrame.jrnRaw (h : UnitFrame ps s t) (a b l) : UnitFrame ps s (t.jrnRaw a b l) := by
  unfold State.jrnRaw; dsimp only; repeat' (first | (with_reducible apply UnitFrame.nvmQueue) | (with_reducible apply UnitFrame.modOnx) | exact h)
theorem UnitFrame.jrnSeal (h : UnitFrame ps s t) : UnitFrame ps s t.jrnSeal := by
  unfold State.jrnSeal; dsimp only; split <;> repeat' (first | (with_reducible apply UnitFrame.jrnRaw) | (with_reducible apply UnitFrame.modOnx) | exact h)
theorem UnitFrame.jrn (h : UnitFrame ps s t) (a l b) : UnitFrame ps s (t.jrn a l b) := by
  unfold State.jrn; dsimp only; repeat' (first | (with_reducible apply UnitFrame.jrnSeal) | (with_reducible apply UnitFrame.jrnRaw) | (with_reducible apply UnitFrame.modOnx) | exact h | split)
theorem UnitFrame.setFlt (h : UnitFrame ps s t) (n x) : UnitFrame ps s (t.setFlt n x) := by
  unfold State.setFlt; split <;> exact UnitFrame.trans h ⟨fun q _ => by cases q <;> rfl, rfl, rfl⟩
theorem UnitFrame.owe (h : UnitFrame ps s t) (a) : UnitFrame ps s (t.owe a) := UnitFrame.posts h t.posts _
theorem UnitFrame.todo (h : UnitFrame ps s t) (k) : UnitFrame ps s { t with todo := k } := UnitFrame.posts h t.posts _
theorem UnitFrame.fault (h : UnitFrame ps s t) (n a b c) : UnitFrame ps s (t.fault n a b c) := by
  unfold State.fault
  split
  · exact h
  · lift_lets
    extract_lets f0 c pend pl bus
    generalize countWindow (decide (t.fltCfg.reactions ≠ [])) c (BitVec.ofNat 8 a) f0.windows = r
    obtain ⟨ws, prom⟩ := r
    dsimp -zeta only
    extract_lets l esc raises w0 f1 s1 s2 s3 arg s4 s5 s6
    have e2 : UnitFrame ps s s2 := UnitFrame.setReg (UnitFrame.setFlt h _ _) _ _
    have e3 : UnitFrame ps s s3 := by unfold s3; split; exact UnitFrame.setReg e2 _ _; exact e2
    have e4 : UnitFrame ps s s4 := by
      unfold s4; split
      · exact e3
      · split
        · exact UnitFrame.postF e3 ..
        · split
          · exact UnitFrame.posts e3 _ s3.todo
          · exact e3
    have e5 : UnitFrame ps s s5 := by unfold s5; split; exact UnitFrame.jrn e4 ..; exact e4
    have e6 : UnitFrame ps s s6 := by unfold s6; split; exact UnitFrame.todo e5 _; exact e5
    split
    · exact UnitFrame.todo e6 _
    · exact e6
theorem UnitFrame.modFeed (h : UnitFrame ps s t) (b g) : UnitFrame ps s (t.modFeed b g) := by
  unfold State.modFeed; cases b <;> first | exact UnitFrame.modHub h _ | exact UnitFrame.hub h _
theorem UnitFrame.unlose (h : UnitFrame ps s t) (b c) : UnitFrame ps s (t.unlose b c) := by unfold State.unlose; exact UnitFrame.modFeed h ..
theorem UnitFrame.markLost (h : UnitFrame ps s t) (b c) : UnitFrame ps s (t.markLost b c) := by unfold State.markLost; exact UnitFrame.modFeed (UnitFrame.unlose h ..) ..
theorem UnitFrame.port (hp : p ∈ ps) (h : UnitFrame ps s t) (k : PortFrame p t u) : UnitFrame ps s u :=
  UnitFrame.trans h (UnitFrame.ofPort hp k)
theorem UnitFrame.makeConv (h : UnitFrame ps s t) (b) : UnitFrame ps s (t.makeFeed b 6) := by
  unfold State.makeFeed
  simp only [show ¬ (1 ≤ 6 ∧ 6 ≤ 4) by omega, show ¬ (6 = 5) by omega, if_false]
  repeat' (first | exact h | (with_reducible apply UnitFrame.unlose) | (with_reducible apply UnitFrame.modCv) | split)
theorem UnitFrame.breakBus (h : UnitFrame ps s t) (b) : UnitFrame ps s (t.breakBus b) := by
  unfold State.breakBus
  repeat' (first | assumption | with_reducible apply UnitFrame.makeConv | with_reducible apply UnitFrame.modFeed | split | dsimp only)
theorem UnitFrame.setPhase (h : UnitFrame ps s t) (x) : UnitFrame ps s (t.setPhase x) := by
  unfold State.setPhase
  repeat' (first | assumption | with_reducible apply UnitFrame.modBat | with_reducible apply UnitFrame.postH | split | dsimp only)
theorem UnitFrame.chargeToBus (h : UnitFrame ps s t) (b) : UnitFrame ps s (t.chargeToBus b) := by
  unfold State.chargeToBus
  repeat' (first | assumption | with_reducible apply UnitFrame.modCv | with_reducible apply UnitFrame.setPhase | split | dsimp only)
theorem UnitFrame.feedEnd (h : UnitFrame ps s t) (b) (code) : UnitFrame ps s (t.feedEnd b code) := by
  unfold State.feedEnd
  lift_lets
  extract_lets was1 s1
  have hs1 : UnitFrame ps s s1 := by unfold s1; repeat' (first | assumption | with_reducible apply UnitFrame.breakBus | with_reducible apply UnitFrame.chargeToBus | split | dsimp only)
  repeat' (first | assumption | with_reducible apply UnitFrame.breakBus | with_reducible apply UnitFrame.chargeToBus | split | dsimp only)
theorem PortFrame.pgDown (h : PortFrame p s t) : PortFrame p s (t.pgDown p) := by
  unfold State.pgDown
  repeat' (first | assumption | with_reducible apply PortFrame.modPp | with_reducible apply PortFrame.orReg | with_reducible apply PortFrame.postF | split | dsimp only)
theorem UnitFrame.pgDown (hp : p ∈ ps) (h : UnitFrame ps s t)  : UnitFrame ps s (t.pgDown p) := UnitFrame.port hp h (PortFrame.pgDown PortFrame.refl)
theorem PortFrame.gates (h : PortFrame p s t) (cmd) : PortFrame p s (t.gates p cmd) := by
  unfold State.gates
  lift_lets
  extract_lets f1 src1 s1 s2
  have hs1 : PortFrame p s s1 := by unfold s1; repeat' (first | assumption | with_reducible apply PortFrame.modPp | with_reducible apply PortFrame.pgDown | split | dsimp only)
  have hs2 : PortFrame p s s2 := by unfold s2; repeat' (first | assumption | with_reducible apply PortFrame.modPp | with_reducible apply PortFrame.pgDown | split | dsimp only)
  repeat' (first | assumption | with_reducible apply PortFrame.modPp | with_reducible apply PortFrame.pgDown | split | dsimp only)
theorem UnitFrame.gates (hp : p ∈ ps) (h : UnitFrame ps s t) (cmd) : UnitFrame ps s (t.gates p cmd) := UnitFrame.port hp h (PortFrame.gates PortFrame.refl ..)
theorem UnitFrame.openSwitch (hp : p ∈ ps) (h : UnitFrame ps s t) : UnitFrame ps s (t.openSwitch p) := by
  unfold State.openSwitch
  lift_lets
  extract_lets f1 fed1 s1
  have hs1 : UnitFrame ps s s1 := by unfold s1; repeat' (first | assumption | with_reducible apply UnitFrame.gates hp | with_reducible apply UnitFrame.feedEnd | split | dsimp only)
  repeat' (first | assumption | with_reducible apply UnitFrame.gates hp | with_reducible apply UnitFrame.feedEnd | split | dsimp only)
theorem PortFrame.setFState (h : PortFrame p s t) (x) : PortFrame p s (t.setFState p x) := by
  unfold State.setFState
  repeat' (first | assumption | with_reducible apply PortFrame.modF | with_reducible apply PortFrame.postF | split | dsimp only)
theorem UnitFrame.setFState (hp : p ∈ ps) (h : UnitFrame ps s t) (x) : UnitFrame ps s (t.setFState p x) := UnitFrame.port hp h (PortFrame.setFState PortFrame.refl ..)
theorem UnitFrame.closeSwitch (hp : p ∈ ps) (h : UnitFrame ps s t) : UnitFrame ps s (t.closeSwitch p) := by
  unfold State.closeSwitch
  lift_lets
  extract_lets f1 b1
  repeat' (first | assumption | with_reducible apply UnitFrame.modPp hp | with_reducible apply UnitFrame.unlose | split | dsimp only)
theorem UnitFrame.feedGone (hp : p ∈ ps) (h : UnitFrame ps s t) : UnitFrame ps s (t.feedGone p) := by
  unfold State.feedGone; dsimp only; split
  · split
    · exact UnitFrame.todo (UnitFrame.markLost h ..) _
    · exact UnitFrame.markLost h ..
  · exact h
theorem UnitFrame.trip (hp : p ∈ ps) (h : UnitFrame ps s t) (cause) : UnitFrame ps s (t.trip p cause) := by
  unfold State.trip
  lift_lets
  extract_lets retry1 more1 b1 fed1 was1 s1 s2 s3 s4 s5 s6 s7
  have hs1 : UnitFrame ps s s1 := by unfold s1; repeat' (first | assumption | with_reducible apply UnitFrame.feedGone hp | with_reducible apply UnitFrame.gates hp | with_reducible apply UnitFrame.modF hp | with_reducible apply UnitFrame.orReg | with_reducible apply UnitFrame.count | with_reducible apply UnitFrame.feedEnd | with_reducible apply UnitFrame.postF | split | dsimp only)
  have hs2 : UnitFrame ps s s2 := by unfold s2; repeat' (first | assumption | with_reducible apply UnitFrame.feedGone hp | with_reducible apply UnitFrame.gates hp | with_reducible apply UnitFrame.modF hp | with_reducible apply UnitFrame.orReg | with_reducible apply UnitFrame.count | with_reducible apply UnitFrame.feedEnd | with_reducible apply UnitFrame.postF | split | dsimp only)
  have hs3 : UnitFrame ps s s3 := by unfold s3; repeat' (first | assumption | with_reducible apply UnitFrame.feedGone hp | with_reducible apply UnitFrame.gates hp | with_reducible apply UnitFrame.modF hp | with_reducible apply UnitFrame.orReg | with_reducible apply UnitFrame.count | with_reducible apply UnitFrame.feedEnd | with_reducible apply UnitFrame.postF | split | dsimp only)
  have hs4 : UnitFrame ps s s4 := by unfold s4; repeat' (first | assumption | with_reducible apply UnitFrame.feedGone hp | with_reducible apply UnitFrame.gates hp | with_reducible apply UnitFrame.modF hp | with_reducible apply UnitFrame.orReg | with_reducible apply UnitFrame.count | with_reducible apply UnitFrame.feedEnd | with_reducible apply UnitFrame.postF | split | dsimp only)
  have hs5 : UnitFrame ps s s5 := by unfold s5; repeat' (first | assumption | with_reducible apply UnitFrame.feedGone hp | with_reducible apply UnitFrame.gates hp | with_reducible apply UnitFrame.modF hp | with_reducible apply UnitFrame.orReg | with_reducible apply UnitFrame.count | with_reducible apply UnitFrame.feedEnd | with_reducible apply UnitFrame.postF | split | dsimp only)
  have hs6 : UnitFrame ps s s6 := by unfold s6; repeat' (first | assumption | with_reducible apply UnitFrame.feedGone hp | with_reducible apply UnitFrame.gates hp | with_reducible apply UnitFrame.modF hp | with_reducible apply UnitFrame.orReg | with_reducible apply UnitFrame.count | with_reducible apply UnitFrame.feedEnd | with_reducible apply UnitFrame.postF | split | dsimp only)
  have hs7 : UnitFrame ps s s7 := by unfold s7; repeat' (first | assumption | with_reducible apply UnitFrame.feedGone hp | with_reducible apply UnitFrame.gates hp | with_reducible apply UnitFrame.modF hp | with_reducible apply UnitFrame.orReg | with_reducible apply UnitFrame.count | with_reducible apply UnitFrame.feedEnd | with_reducible apply UnitFrame.postF | split | dsimp only)
  repeat' (first | assumption | with_reducible apply UnitFrame.feedGone hp | with_reducible apply UnitFrame.gates hp | with_reducible apply UnitFrame.modF hp | with_reducible apply UnitFrame.orReg | with_reducible apply UnitFrame.count | with_reducible apply UnitFrame.feedEnd | with_reducible apply UnitFrame.postF | split | dsimp only)
theorem PortFrame.refreshRp (h : PortFrame p s t) : PortFrame p s (t.refreshRp p) := by
  unfold State.refreshRp
  repeat' (first | assumption | with_reducible apply PortFrame.modCc | split | dsimp only)
theorem UnitFrame.refreshRp (hp : p ∈ ps) (h : UnitFrame ps s t)  : UnitFrame ps s (t.refreshRp p) := UnitFrame.port hp h (PortFrame.refreshRp PortFrame.refl)
theorem PortFrame.refreshVconn (h : PortFrame p s t) : PortFrame p s (t.refreshVconn p) := by
  unfold State.refreshVconn
  repeat' (first | assumption | with_reducible apply PortFrame.modCc | split | dsimp only)
theorem UnitFrame.refreshVconn (hp : p ∈ ps) (h : UnitFrame ps s t)  : UnitFrame ps s (t.refreshVconn p) := UnitFrame.port hp h (PortFrame.refreshVconn PortFrame.refl)
theorem PortFrame.turnNg (h : PortFrame p s t) : PortFrame p s (t.turnNg p) := by
  unfold State.turnNg
  repeat' (first | assumption | with_reducible apply PortFrame.modPd | with_reducible apply PortFrame.refreshRp | split | dsimp only)
theorem UnitFrame.turnNg (hp : p ∈ ps) (h : UnitFrame ps s t)  : UnitFrame ps s (t.turnNg p) := UnitFrame.port hp h (PortFrame.turnNg PortFrame.refl)
theorem PortFrame.pump (h : PortFrame p s t) : PortFrame p s (t.pump p) := by
  unfold State.pump
  lift_lets
  extract_lets s1 f1
  have hs1 : PortFrame p s s1 := by unfold s1; repeat' (first | assumption | with_reducible apply PortFrame.turnNg | with_reducible apply PortFrame.modPd | split | dsimp only)
  repeat' (first | assumption | with_reducible apply PortFrame.turnNg | with_reducible apply PortFrame.modPd | split | dsimp only)
theorem UnitFrame.pump (hp : p ∈ ps) (h : UnitFrame ps s t)  : UnitFrame ps s (t.pump p) := UnitFrame.port hp h (PortFrame.pump PortFrame.refl)
theorem PortFrame.fwFailed (h : PortFrame p s t) (m) : PortFrame p s (t.fwFailed p m) := by
  unfold State.fwFailed
  repeat' (first | assumption | with_reducible apply PortFrame.modPd | split | dsimp only)
theorem UnitFrame.fwFailed (hp : p ∈ ps) (h : UnitFrame ps s t) (m) : UnitFrame ps s (t.fwFailed p m) := UnitFrame.port hp h (PortFrame.fwFailed PortFrame.refl ..)
theorem PortFrame.send (h : PortFrame p s t) (m) : PortFrame p s (t.send p m) := by
  unfold State.send
  lift_lets
  extract_lets f1
  repeat' (first | assumption | with_reducible apply PortFrame.fwFailed | with_reducible apply PortFrame.modPd | with_reducible apply PortFrame.pump | split | dsimp only)
theorem UnitFrame.send (hp : p ∈ ps) (h : UnitFrame ps s t) (m) : UnitFrame ps s (t.send p m) := UnitFrame.port hp h (PortFrame.send PortFrame.refl ..)
theorem PortFrame.setSeq (h : PortFrame p s t) (q) : PortFrame p s (t.setSeq p q) := by
  unfold State.setSeq
  repeat' (first | assumption | with_reducible apply PortFrame.modPd | split | dsimp only)
theorem UnitFrame.setSeq (hp : p ∈ ps) (h : UnitFrame ps s t) (q) : UnitFrame ps s (t.setSeq p q) := UnitFrame.port hp h (PortFrame.setSeq PortFrame.refl ..)
theorem PortFrame.endSeq (h : PortFrame p s t) : PortFrame p s (t.endSeq p) := by
  unfold State.endSeq
  repeat' (first | assumption | with_reducible apply PortFrame.setSeq | split | dsimp only)
theorem UnitFrame.endSeq (hp : p ∈ ps) (h : UnitFrame ps s t)  : UnitFrame ps s (t.endSeq p) := UnitFrame.port hp h (PortFrame.endSeq PortFrame.refl)
theorem PortFrame.restTx (h : PortFrame p s t) : PortFrame p s (t.restTx p) := by
  unfold State.restTx
  lift_lets
  extract_lets d1
  repeat' (first | assumption | with_reducible apply PortFrame.modPd | with_reducible apply PortFrame.refreshRp | split | dsimp only)
theorem UnitFrame.restTx (hp : p ∈ ps) (h : UnitFrame ps s t)  : UnitFrame ps s (t.restTx p) := UnitFrame.port hp h (PortFrame.restTx PortFrame.refl)
theorem PortFrame.postSwap (h : PortFrame p s t) (kind) (ok) : PortFrame p s (t.postSwap p kind ok) := by
  unfold State.postSwap
  repeat' (first | assumption | with_reducible apply PortFrame.postF | split | dsimp only)
theorem UnitFrame.postSwap (hp : p ∈ ps) (h : UnitFrame ps s t) (kind) (ok) : UnitFrame ps s (t.postSwap p kind ok) := UnitFrame.port hp h (PortFrame.postSwap PortFrame.refl ..)
theorem PortFrame.swapLost (h : PortFrame p s t) : PortFrame p s (t.swapLost p) := by
  unfold State.swapLost
  repeat' (first | assumption | with_reducible apply PortFrame.postSwap | split | dsimp only)
theorem UnitFrame.swapLost (hp : p ∈ ps) (h : UnitFrame ps s t)  : UnitFrame ps s (t.swapLost p) := UnitFrame.port hp h (PortFrame.swapLost PortFrame.refl)
theorem PortFrame.abandon (h : PortFrame p s t) : PortFrame p s (t.abandon p) := by
  unfold State.abandon
  lift_lets
  extract_lets s1 s2
  have hs1 : PortFrame p s s1 := by unfold s1; repeat' (first | assumption | with_reducible apply PortFrame.swapLost | with_reducible apply PortFrame.modPd | with_reducible apply PortFrame.modCt | split | dsimp only)
  have hs2 : PortFrame p s s2 := by unfold s2; repeat' (first | assumption | with_reducible apply PortFrame.swapLost | with_reducible apply PortFrame.modPd | with_reducible apply PortFrame.modCt | split | dsimp only)
  repeat' (first | assumption | with_reducible apply PortFrame.swapLost | with_reducible apply PortFrame.modPd | with_reducible apply PortFrame.modCt | split | dsimp only)
theorem UnitFrame.abandon (hp : p ∈ ps) (h : UnitFrame ps s t)  : UnitFrame ps s (t.abandon p) := UnitFrame.port hp h (PortFrame.abandon PortFrame.refl)
theorem PortFrame.abandonOn (h : PortFrame p s t) (sp) : PortFrame p s (t.abandonOn p sp) := by
  unfold State.abandonOn
  repeat' (first | assumption | with_reducible apply PortFrame.abandon | with_reducible apply PortFrame.modPd | split | dsimp only)
theorem UnitFrame.abandonOn (hp : p ∈ ps) (h : UnitFrame ps s t) (sp) : UnitFrame ps s (t.abandonOn p sp) := UnitFrame.port hp h (PortFrame.abandonOn PortFrame.refl ..)
theorem PortFrame.sendSoftReset (h : PortFrame p s t) (sp) : PortFrame p s (t.sendSoftReset p sp) := by
  unfold State.sendSoftReset; lift_lets; extract_lets s1 s2 s3
  have h1 : PortFrame p s s1 := PortFrame.abandonOn h sp
  have h2 : PortFrame p s s2 := PortFrame.foldl _ (fun x m hx => PortFrame.fwFailed hx m) _ h1
  have h3 : PortFrame p s s3 := PortFrame.modPd h2 _
  apply PortFrame.send; split
  · exact PortFrame.setSeq h3 _
  · exact h3
theorem UnitFrame.sendSoftReset (hp : p ∈ ps) (h : UnitFrame ps s t) (sp) : UnitFrame ps s (t.sendSoftReset p sp) := UnitFrame.port hp h (PortFrame.sendSoftReset PortFrame.refl ..)
theorem PortFrame.registerGrant (h : PortFrame p s t) : PortFrame p s (t.registerGrant p) := by
  unfold State.registerGrant
  repeat' (first | assumption | with_reducible apply PortFrame.modCt | split | dsimp only)
theorem UnitFrame.registerGrant (hp : p ∈ ps) (h : UnitFrame ps s t)  : UnitFrame ps s (t.registerGrant p) := UnitFrame.port hp h (PortFrame.registerGrant PortFrame.refl)
theorem PortFrame.requestGrant (h : PortFrame p s t) : PortFrame p s (t.requestGrant p) := by
  unfold State.requestGrant
  repeat' (first | assumption | with_reducible apply PortFrame.modCt | with_reducible apply PortFrame.registerGrant | split | dsimp only)
theorem UnitFrame.requestGrant (hp : p ∈ ps) (h : UnitFrame ps s t)  : UnitFrame ps s (t.requestGrant p) := UnitFrame.port hp h (PortFrame.requestGrant PortFrame.refl)
theorem PortFrame.sendCaps (h : PortFrame p s t) (init) : PortFrame p s (t.sendCaps p init) := by
  unfold State.sendCaps
  lift_lets
  extract_lets f1 code1 s1
  have hs1 : PortFrame p s s1 := by unfold s1; repeat' (first | assumption | with_reducible apply PortFrame.modCt | with_reducible apply PortFrame.modPd | with_reducible apply PortFrame.setSeq | with_reducible apply PortFrame.send | split | dsimp only)
  repeat' (first | assumption | with_reducible apply PortFrame.modCt | with_reducible apply PortFrame.modPd | with_reducible apply PortFrame.setSeq | with_reducible apply PortFrame.send | split | dsimp only)
theorem UnitFrame.sendCaps (hp : p ∈ ps) (h : UnitFrame ps s t) (init) : UnitFrame ps s (t.sendCaps p init) := UnitFrame.port hp h (PortFrame.sendCaps PortFrame.refl ..)
theorem PortFrame.sendRequest (h : PortFrame p s t) (r) (init) : PortFrame p s (t.sendRequest p r init) := by
  unfold State.sendRequest
  lift_lets
  extract_lets f1 s1 s2 m1
  have hs1 : PortFrame p s s1 := by unfold s1; repeat' (first | assumption | with_reducible apply PortFrame.setSeq | with_reducible apply PortFrame.orReg | with_reducible apply PortFrame.send | split | dsimp only)
  have hs2 : PortFrame p s s2 := by unfold s2; repeat' (first | assumption | with_reducible apply PortFrame.setSeq | with_reducible apply PortFrame.orReg | with_reducible apply PortFrame.send | split | dsimp only)
  repeat' (first | assumption | with_reducible apply PortFrame.setSeq | with_reducible apply PortFrame.orReg | with_reducible apply PortFrame.send | split | dsimp only)
theorem UnitFrame.sendRequest (hp : p ∈ ps) (h : UnitFrame ps s t) (r) (init) : UnitFrame ps s (t.sendRequest p r init) := UnitFrame.port hp h (PortFrame.sendRequest PortFrame.refl ..)
theorem PortFrame.startSeq (h : PortFrame p s t) (g : State → State) (hg : ∀ x, PortFrame p s x → PortFrame p s (g x)) :
    PortFrame p s (t.startSeq p g) := by
  unfold State.startSeq; split
  · exact hg _ h
  · exact h
theorem PortFrame.requestCmd (h : PortFrame p s t) (arg) : PortFrame p s (t.requestCmd p arg) := by
  unfold State.requestCmd
  exact PortFrame.startSeq (PortFrame.modCt h _) _ (fun x hx => PortFrame.sendRequest hx ..)
theorem UnitFrame.requestCmd (hp : p ∈ ps) (h : UnitFrame ps s t) (arg) : UnitFrame ps s (t.requestCmd p arg) := UnitFrame.port hp h (PortFrame.requestCmd PortFrame.refl ..)
theorem PortFrame.vdmRequest (h : PortFrame p s t) (svid) (pos) (cmd) (st) : PortFrame p s (t.vdmRequest p svid pos cmd st) := by
  unfold State.vdmRequest
  repeat' (first | assumption | with_reducible apply PortFrame.setSeq | with_reducible apply PortFrame.send | split | dsimp only)
theorem UnitFrame.vdmRequest (hp : p ∈ ps) (h : UnitFrame ps s t) (svid) (pos) (cmd) (st) : UnitFrame ps s (t.vdmRequest p svid pos cmd st) := UnitFrame.port hp h (PortFrame.vdmRequest PortFrame.refl ..)
theorem PortFrame.cableAsk (h : PortFrame p s t) (sp) : PortFrame p s (t.cableAsk p sp) := by
  unfold State.cableAsk
  repeat' (first | assumption | with_reducible apply PortFrame.modPd | with_reducible apply PortFrame.send | split | dsimp only)
theorem UnitFrame.cableAsk (hp : p ∈ ps) (h : UnitFrame ps s t) (sp) : UnitFrame ps s (t.cableAsk p sp) := UnitFrame.port hp h (PortFrame.cableAsk PortFrame.refl ..)
theorem PortFrame.cableIdentity (h : PortFrame p s t) : PortFrame p s (t.cableIdentity p) := by
  unfold State.cableIdentity
  repeat' (first | assumption | with_reducible apply PortFrame.count | with_reducible apply PortFrame.cableAsk | split | dsimp only)
theorem UnitFrame.cableIdentity (hp : p ∈ ps) (h : UnitFrame ps s t)  : UnitFrame ps s (t.cableIdentity p) := UnitFrame.port hp h (PortFrame.cableIdentity PortFrame.refl)
theorem PortFrame.eprEnterSend (h : PortFrame p s t) : PortFrame p s (t.eprEnterSend p) := by
  unfold State.eprEnterSend
  repeat' (first | assumption | with_reducible apply PortFrame.setSeq | with_reducible apply PortFrame.send | split | dsimp only)
theorem UnitFrame.eprEnterSend (hp : p ∈ ps) (h : UnitFrame ps s t)  : UnitFrame ps s (t.eprEnterSend p) := UnitFrame.port hp h (PortFrame.eprEnterSend PortFrame.refl)
theorem PortFrame.linkOff (h : PortFrame p s t) : PortFrame p s (t.linkOff p) := by
  unfold State.linkOff
  repeat' (first | assumption | with_reducible apply PortFrame.modF | with_reducible apply PortFrame.postF | split | dsimp only)
theorem UnitFrame.linkOff (hp : p ∈ ps) (h : UnitFrame ps s t)  : UnitFrame ps s (t.linkOff p) := UnitFrame.port hp h (PortFrame.linkOff PortFrame.refl)
theorem PortFrame.sendGetCaps (h : PortFrame p s t) : PortFrame p s (t.sendGetCaps p) := by
  unfold State.sendGetCaps
  repeat' (first | assumption | with_reducible apply PortFrame.setSeq | with_reducible apply PortFrame.send | split | dsimp only)
theorem UnitFrame.sendGetCaps (hp : p ∈ ps) (h : UnitFrame ps s t)  : UnitFrame ps s (t.sendGetCaps p) := UnitFrame.port hp h (PortFrame.sendGetCaps PortFrame.refl)
theorem PortFrame.authPassed (h : PortFrame p s t) : PortFrame p s (t.authPassed p) := by
  unfold State.authPassed
  lift_lets
  extract_lets s1
  have hs1 : PortFrame p s s1 := by unfold s1; repeat' (first | assumption | with_reducible apply PortFrame.modCt | with_reducible apply PortFrame.sendCaps | with_reducible apply PortFrame.sendGetCaps | split | dsimp only)
  repeat' (first | assumption | with_reducible apply PortFrame.modCt | with_reducible apply PortFrame.sendCaps | with_reducible apply PortFrame.sendGetCaps | split | dsimp only)
theorem UnitFrame.authPassed (hp : p ∈ ps) (h : UnitFrame ps s t)  : UnitFrame ps s (t.authPassed p) := UnitFrame.port hp h (PortFrame.authPassed PortFrame.refl)
theorem UnitFrame.authEnd (hp : p ∈ ps) (h : UnitFrame ps s t) (r) : UnitFrame ps s (t.authEnd p r) := by
  unfold State.authEnd
  lift_lets
  extract_lets s1 s2
  have hs1 : UnitFrame ps s s1 := by unfold s1; repeat' (first | assumption | with_reducible apply UnitFrame.modCt hp | with_reducible apply UnitFrame.endSeq hp | with_reducible apply UnitFrame.authPassed hp | with_reducible apply UnitFrame.postF | with_reducible apply UnitFrame.orReg | with_reducible apply UnitFrame.fault | split | dsimp only)
  have hs2 : UnitFrame ps s s2 := by unfold s2; repeat' (first | assumption | with_reducible apply UnitFrame.modCt hp | with_reducible apply UnitFrame.endSeq hp | with_reducible apply UnitFrame.authPassed hp | with_reducible apply UnitFrame.postF | with_reducible apply UnitFrame.orReg | with_reducible apply UnitFrame.fault | split | dsimp only)
  repeat' (first | assumption | with_reducible apply UnitFrame.modCt hp | with_reducible apply UnitFrame.endSeq hp | with_reducible apply UnitFrame.authPassed hp | with_reducible apply UnitFrame.postF | with_reducible apply UnitFrame.orReg | with_reducible apply UnitFrame.fault | split | dsimp only)
theorem PortFrame.authAsk (h : PortFrame p s t) (stage) (bs) : PortFrame p s (t.authAsk p stage bs) := by
  unfold State.authAsk
  lift_lets
  extract_lets s1
  have hs1 : PortFrame p s s1 := by unfold s1; repeat' (first | assumption | with_reducible apply PortFrame.modCt | with_reducible apply PortFrame.setSeq | with_reducible apply PortFrame.send | split | dsimp only)
  repeat' (first | assumption | with_reducible apply PortFrame.modCt | with_reducible apply PortFrame.setSeq | with_reducible apply PortFrame.send | split | dsimp only)
theorem UnitFrame.authAsk (hp : p ∈ ps) (h : UnitFrame ps s t) (stage) (bs) : UnitFrame ps s (t.authAsk p stage bs) := UnitFrame.port hp h (PortFrame.authAsk PortFrame.refl ..)
theorem UnitFrame.authBegin (hp : p ∈ ps) (h : UnitFrame ps s t) : UnitFrame ps s (t.authBegin p) := by
  unfold State.authBegin
  lift_lets
  extract_lets s1
  have hs1 : UnitFrame ps s s1 := by unfold s1; repeat' (first | assumption | with_reducible apply UnitFrame.modCt hp | with_reducible apply UnitFrame.authEnd hp | with_reducible apply UnitFrame.authAsk hp | split | dsimp only)
  repeat' (first | assumption | with_reducible apply UnitFrame.modCt hp | with_reducible apply UnitFrame.authEnd hp | with_reducible apply UnitFrame.authAsk hp | split | dsimp only)
theorem PortFrame.keeper (h : PortFrame p s t) (m) : PortFrame p s (t.keeper p m) := by
  unfold State.keeper
  repeat' (first | assumption | with_reducible apply PortFrame.endSeq | with_reducible apply PortFrame.send | with_reducible apply PortFrame.modRc | split | dsimp only)
theorem UnitFrame.keeper (hp : p ∈ ps) (h : UnitFrame ps s t) (m) : UnitFrame ps s (t.keeper p m) := UnitFrame.port hp h (PortFrame.keeper PortFrame.refl ..)
theorem PortFrame.endContract (h : PortFrame p s t) : PortFrame p s (t.endContract p) := by
  unfold State.endContract
  repeat' (first | assumption | with_reducible apply PortFrame.modCt | with_reducible apply PortFrame.refreshRp | with_reducible apply PortFrame.postF | split | dsimp only)
theorem UnitFrame.endContract (hp : p ∈ ps) (h : UnitFrame ps s t)  : UnitFrame ps s (t.endContract p) := UnitFrame.port hp h (PortFrame.endContract PortFrame.refl)
theorem PortFrame.refreshDisch (h : PortFrame p s t) : PortFrame p s (t.refreshDisch p) := by
  unfold State.refreshDisch
  lift_lets
  extract_lets f1
  repeat' (first | assumption | with_reducible apply PortFrame.modPp | split | dsimp only)
theorem UnitFrame.refreshDisch (hp : p ∈ ps) (h : UnitFrame ps s t)  : UnitFrame ps s (t.refreshDisch p) := UnitFrame.port hp h (PortFrame.refreshDisch PortFrame.refl)
theorem PortFrame.setTc (h : PortFrame p s t) (t') : PortFrame p s (t.setTc p t') := by
  unfold State.setTc
  lift_lets
  extract_lets s1
  have hs1 : PortFrame p s s1 := by unfold s1; repeat' (first | assumption | with_reducible apply PortFrame.modCc | with_reducible apply PortFrame.refreshRp | with_reducible apply PortFrame.refreshDisch | split | dsimp only)
  repeat' (first | assumption | with_reducible apply PortFrame.modCc | with_reducible apply PortFrame.refreshRp | with_reducible apply PortFrame.refreshDisch | split | dsimp only)
theorem UnitFrame.setTc (hp : p ∈ ps) (h : UnitFrame ps s t) (t') : UnitFrame ps s (t.setTc p t') := UnitFrame.port hp h (PortFrame.setTc PortFrame.refl ..)
theorem PortFrame.accEval (h : PortFrame p s t) : PortFrame p s (t.accEval p) := by
  unfold State.accEval
  lift_lets
  extract_lets a1
  repeat' (first | assumption | with_reducible apply PortFrame.modCc | split | dsimp only)
theorem UnitFrame.accEval (hp : p ∈ ps) (h : UnitFrame ps s t)  : UnitFrame ps s (t.accEval p) := UnitFrame.port hp h (PortFrame.accEval PortFrame.refl)
theorem PortFrame.partnerRpEval (h : PortFrame p s t) : PortFrame p s (t.partnerRpEval p) := by
  unfold State.partnerRpEval
  lift_lets
  extract_lets l1 r1
  repeat' (first | assumption | with_reducible apply PortFrame.modCc | with_reducible apply PortFrame.pump | split | dsimp only)
theorem UnitFrame.partnerRpEval (hp : p ∈ ps) (h : UnitFrame ps s t)  : UnitFrame ps s (t.partnerRpEval p) := UnitFrame.port hp h (PortFrame.partnerRpEval PortFrame.refl)
theorem PortFrame.raEval (h : PortFrame p s t) : PortFrame p s (t.raEval p) := by
  unfold State.raEval
  lift_lets
  extract_lets f1 other1
  repeat' (first | assumption | with_reducible apply PortFrame.modCc | with_reducible apply PortFrame.refreshVconn | split | dsimp only)
theorem UnitFrame.raEval (hp : p ∈ ps) (h : UnitFrame ps s t)  : UnitFrame ps s (t.raEval p) := UnitFrame.port hp h (PortFrame.raEval PortFrame.refl)
theorem PortFrame.latchDrp (h : PortFrame p s t) : PortFrame p s (t.latchDrp p) := by
  unfold State.latchDrp
  lift_lets
  extract_lets per1
  repeat' (first | assumption | with_reducible apply PortFrame.modCc | split | dsimp only)
theorem UnitFrame.latchDrp (hp : p ∈ ps) (h : UnitFrame ps s t)  : UnitFrame ps s (t.latchDrp p) := UnitFrame.port hp h (PortFrame.latchDrp PortFrame.refl)
theorem PortFrame.homeTc (h : PortFrame p s t) (t') : PortFrame p s (t.homeTc p t') := by
  unfold State.homeTc
  repeat' (first | assumption | with_reducible apply PortFrame.setTc | with_reducible apply PortFrame.latchDrp | split | dsimp only)
theorem UnitFrame.homeTc (hp : p ∈ ps) (h : UnitFrame ps s t) (t') : UnitFrame ps s (t.homeTc p t') := UnitFrame.port hp h (PortFrame.homeTc PortFrame.refl ..)
theorem PortFrame.ccArm (h : PortFrame p s t) : PortFrame p s (t.ccArm p) := by
  unfold State.ccArm
  lift_lets
  extract_lets f1
  repeat' (first | assumption | with_reducible apply PortFrame.accEval | with_reducible apply PortFrame.modCc | with_reducible apply PortFrame.partnerRpEval | with_reducible apply PortFrame.raEval | split | dsimp only)
theorem UnitFrame.ccArm (hp : p ∈ ps) (h : UnitFrame ps s t)  : UnitFrame ps s (t.ccArm p) := UnitFrame.port hp h (PortFrame.ccArm PortFrame.refl)
theorem PortFrame.ccEval (h : PortFrame p s t) : PortFrame p s (t.ccEval p) := by
  unfold State.ccEval; lift_lets; extract_lets f1 free1 t1
  have ht : PortFrame p s t1 := by
    unfold t1
    repeat' (first | assumption | with_reducible apply PortFrame.setTc | with_reducible apply PortFrame.homeTc | split)
  exact PortFrame.ccArm ht
theorem UnitFrame.ccEval (hp : p ∈ ps) (h : UnitFrame ps s t)  : UnitFrame ps s (t.ccEval p) := UnitFrame.port hp h (PortFrame.ccEval PortFrame.refl)
theorem PortFrame.enterTc (h : PortFrame p s t) (t') : PortFrame p s (t.enterTc p t') := by
  unfold State.enterTc
  lift_lets
  extract_lets s1 s2
  have hs1 : PortFrame p s s1 := by unfold s1; repeat' (first | assumption | with_reducible apply PortFrame.setTc | with_reducible apply PortFrame.latchDrp | with_reducible apply PortFrame.ccEval | split | dsimp only)
  have hs2 : PortFrame p s s2 := by unfold s2; repeat' (first | assumption | with_reducible apply PortFrame.setTc | with_reducible apply PortFrame.latchDrp | with_reducible apply PortFrame.ccEval | split | dsimp only)
  repeat' (first | assumption | with_reducible apply PortFrame.setTc | with_reducible apply PortFrame.latchDrp | with_reducible apply PortFrame.ccEval | split | dsimp only)
theorem UnitFrame.enterTc (hp : p ∈ ps) (h : UnitFrame ps s t) (t') : UnitFrame ps s (t.enterTc p t') := UnitFrame.port hp h (PortFrame.enterTc PortFrame.refl ..)
theorem PortFrame.attach (h : PortFrame p s t) (src) (cc2) : PortFrame p s (t.attach p src cc2) := by
  unfold State.attach
  lift_lets
  extract_lets s1 s2 s3 s4 s5
  have hs1 : PortFrame p s s1 := by unfold s1; repeat' (first | assumption | with_reducible apply PortFrame.setTc | with_reducible apply PortFrame.modF | with_reducible apply PortFrame.refreshRp | with_reducible apply PortFrame.refreshVconn | with_reducible apply PortFrame.orReg | with_reducible apply PortFrame.postF | with_reducible apply PortFrame.requestGrant | with_reducible apply PortFrame.cableIdentity | split | dsimp only)
  have hs2 : PortFrame p s s2 := by unfold s2; repeat' (first | assumption | with_reducible apply PortFrame.setTc | with_reducible apply PortFrame.modF | with_reducible apply PortFrame.refreshRp | with_reducible apply PortFrame.refreshVconn | with_reducible apply PortFrame.orReg | with_reducible apply PortFrame.postF | with_reducible apply PortFrame.requestGrant | with_reducible apply PortFrame.cableIdentity | split | dsimp only)
  have hs3 : PortFrame p s s3 := by unfold s3; repeat' (first | assumption | with_reducible apply PortFrame.setTc | with_reducible apply PortFrame.modF | with_reducible apply PortFrame.refreshRp | with_reducible apply PortFrame.refreshVconn | with_reducible apply PortFrame.orReg | with_reducible apply PortFrame.postF | with_reducible apply PortFrame.requestGrant | with_reducible apply PortFrame.cableIdentity | split | dsimp only)
  have hs4 : PortFrame p s s4 := by unfold s4; repeat' (first | assumption | with_reducible apply PortFrame.setTc | with_reducible apply PortFrame.modF | with_reducible apply PortFrame.refreshRp | with_reducible apply PortFrame.refreshVconn | with_reducible apply PortFrame.orReg | with_reducible apply PortFrame.postF | with_reducible apply PortFrame.requestGrant | with_reducible apply PortFrame.cableIdentity | split | dsimp only)
  have hs5 : PortFrame p s s5 := by unfold s5; repeat' (first | assumption | with_reducible apply PortFrame.setTc | with_reducible apply PortFrame.modF | with_reducible apply PortFrame.refreshRp | with_reducible apply PortFrame.refreshVconn | with_reducible apply PortFrame.orReg | with_reducible apply PortFrame.postF | with_reducible apply PortFrame.requestGrant | with_reducible apply PortFrame.cableIdentity | split | dsimp only)
  repeat' (first | assumption | with_reducible apply PortFrame.setTc | with_reducible apply PortFrame.modF | with_reducible apply PortFrame.refreshRp | with_reducible apply PortFrame.refreshVconn | with_reducible apply PortFrame.orReg | with_reducible apply PortFrame.postF | with_reducible apply PortFrame.requestGrant | with_reducible apply PortFrame.cableIdentity | split | dsimp only)
theorem UnitFrame.attach (hp : p ∈ ps) (h : UnitFrame ps s t) (src) (cc2) : UnitFrame ps s (t.attach p src cc2) := UnitFrame.port hp h (PortFrame.attach PortFrame.refl ..)
theorem PortFrame.attachSnk (h : PortFrame p s t) : PortFrame p s (t.attachSnk p) := by
  unfold State.attachSnk
  lift_lets
  extract_lets cc21 s1
  have hs1 : PortFrame p s s1 := by unfold s1; repeat' (first | assumption | with_reducible apply PortFrame.attach | with_reducible apply PortFrame.modCc | split | dsimp only)
  repeat' (first | assumption | with_reducible apply PortFrame.attach | with_reducible apply PortFrame.modCc | split | dsimp only)
theorem UnitFrame.attachSnk (hp : p ∈ ps) (h : UnitFrame ps s t)  : UnitFrame ps s (t.attachSnk p) := UnitFrame.port hp h (PortFrame.attachSnk PortFrame.refl)
theorem PortFrame.attachSrc (h : PortFrame p s t) : PortFrame p s (t.attachSrc p) := by
  unfold State.attachSrc
  repeat' (first | assumption | with_reducible apply PortFrame.attach | split | dsimp only)
theorem UnitFrame.attachSrc (hp : p ∈ ps) (h : UnitFrame ps s t)  : UnitFrame ps s (t.attachSrc p) := UnitFrame.port hp h (PortFrame.attachSrc PortFrame.refl)
theorem PortFrame.sinkReady (h : PortFrame p s t) : PortFrame p s (t.sinkReady p) := by
  unfold State.sinkReady
  repeat' (first | assumption | with_reducible apply PortFrame.enterTc | with_reducible apply PortFrame.attachSnk | split | dsimp only)
theorem UnitFrame.sinkReady (hp : p ∈ ps) (h : UnitFrame ps s t)  : UnitFrame ps s (t.sinkReady p) := UnitFrame.port hp h (PortFrame.sinkReady PortFrame.refl)
theorem PortFrame.sourceReady (h : PortFrame p s t) : PortFrame p s (t.sourceReady p) := by
  unfold State.sourceReady
  repeat' (first | assumption | with_reducible apply PortFrame.enterTc | with_reducible apply PortFrame.attachSrc | split | dsimp only)
theorem UnitFrame.sourceReady (hp : p ∈ ps) (h : UnitFrame ps s t)  : UnitFrame ps s (t.sourceReady p) := UnitFrame.port hp h (PortFrame.sourceReady PortFrame.refl)
theorem PortFrame.cutTx (h : PortFrame p s t) : PortFrame p s (t.cutTx p) := by
  unfold State.cutTx; lift_lets; extract_lets s1 d1 s2 s3
  have h1 : PortFrame p s s1 := PortFrame.swapLost h
  have h2 : PortFrame p s s2 := by
    unfold s2
    repeat' (first | assumption | with_reducible apply PortFrame.orReg | with_reducible apply PortFrame.fwFailed | split)
  exact PortFrame.modPd (PortFrame.foldl _ (fun x m hx => PortFrame.fwFailed hx m) _ h2) _
theorem UnitFrame.cutTx (hp : p ∈ ps) (h : UnitFrame ps s t)  : UnitFrame ps s (t.cutTx p) := UnitFrame.port hp h (PortFrame.cutTx PortFrame.refl)
theorem UnitFrame.unattach (hp : p ∈ ps) (h : UnitFrame ps s t) (t') : UnitFrame ps s (t.unattach p t') := by
  unfold State.unattach
  lift_lets
  extract_lets s1 s2 s3 s4 s5 s6 s7 s8 s9
  have hs1 : UnitFrame ps s s1 := by unfold s1; repeat' (first | assumption | with_reducible apply UnitFrame.linkOff hp | with_reducible apply UnitFrame.endContract hp | with_reducible apply UnitFrame.cutTx hp | with_reducible apply UnitFrame.abandon hp | with_reducible apply UnitFrame.feedGone hp | with_reducible apply UnitFrame.modCc hp | with_reducible apply UnitFrame.openSwitch hp | with_reducible apply UnitFrame.modF hp | with_reducible apply UnitFrame.setReg | with_reducible apply UnitFrame.setTc hp | split | dsimp only)
  have hs2 : UnitFrame ps s s2 := by unfold s2; repeat' (first | assumption | with_reducible apply UnitFrame.linkOff hp | with_reducible apply UnitFrame.endContract hp | with_reducible apply UnitFrame.cutTx hp | with_reducible apply UnitFrame.abandon hp | with_reducible apply UnitFrame.feedGone hp | with_reducible apply UnitFrame.modCc hp | with_reducible apply UnitFrame.openSwitch hp | with_reducible apply UnitFrame.modF hp | with_reducible apply UnitFrame.setReg | with_reducible apply UnitFrame.setTc hp | split | dsimp only)
  have hs3 : UnitFrame ps s s3 := by unfold s3; repeat' (first | assumption | with_reducible apply UnitFrame.linkOff hp | with_reducible apply UnitFrame.endContract hp | with_reducible apply UnitFrame.cutTx hp | with_reducible apply UnitFrame.abandon hp | with_reducible apply UnitFrame.feedGone hp | with_reducible apply UnitFrame.modCc hp | with_reducible apply UnitFrame.openSwitch hp | with_reducible apply UnitFrame.modF hp | with_reducible apply UnitFrame.setReg | with_reducible apply UnitFrame.setTc hp | split | dsimp only)
  have hs4 : UnitFrame ps s s4 := by unfold s4; repeat' (first | assumption | with_reducible apply UnitFrame.linkOff hp | with_reducible apply UnitFrame.endContract hp | with_reducible apply UnitFrame.cutTx hp | with_reducible apply UnitFrame.abandon hp | with_reducible apply UnitFrame.feedGone hp | with_reducible apply UnitFrame.modCc hp | with_reducible apply UnitFrame.openSwitch hp | with_reducible apply UnitFrame.modF hp | with_reducible apply UnitFrame.setReg | with_reducible apply UnitFrame.setTc hp | split | dsimp only)
  have hs5 : UnitFrame ps s s5 := by unfold s5; repeat' (first | assumption | with_reducible apply UnitFrame.linkOff hp | with_reducible apply UnitFrame.endContract hp | with_reducible apply UnitFrame.cutTx hp | with_reducible apply UnitFrame.abandon hp | with_reducible apply UnitFrame.feedGone hp | with_reducible apply UnitFrame.modCc hp | with_reducible apply UnitFrame.openSwitch hp | with_reducible apply UnitFrame.modF hp | with_reducible apply UnitFrame.setReg | with_reducible apply UnitFrame.setTc hp | split | dsimp only)
  have hs6 : UnitFrame ps s s6 := by unfold s6; repeat' (first | assumption | with_reducible apply UnitFrame.linkOff hp | with_reducible apply UnitFrame.endContract hp | with_reducible apply UnitFrame.cutTx hp | with_reducible apply UnitFrame.abandon hp | with_reducible apply UnitFrame.feedGone hp | with_reducible apply UnitFrame.modCc hp | with_reducible apply UnitFrame.openSwitch hp | with_reducible apply UnitFrame.modF hp | with_reducible apply UnitFrame.setReg | with_reducible apply UnitFrame.setTc hp | split | dsimp only)
  have hs7 : UnitFrame ps s s7 := by unfold s7; repeat' (first | assumption | with_reducible apply UnitFrame.linkOff hp | with_reducible apply UnitFrame.endContract hp | with_reducible apply UnitFrame.cutTx hp | with_reducible apply UnitFrame.abandon hp | with_reducible apply UnitFrame.feedGone hp | with_reducible apply UnitFrame.modCc hp | with_reducible apply UnitFrame.openSwitch hp | with_reducible apply UnitFrame.modF hp | with_reducible apply UnitFrame.setReg | with_reducible apply UnitFrame.setTc hp | split | dsimp only)
  have hs8 : UnitFrame ps s s8 := by unfold s8; repeat' (first | assumption | with_reducible apply UnitFrame.linkOff hp | with_reducible apply UnitFrame.endContract hp | with_reducible apply UnitFrame.cutTx hp | with_reducible apply UnitFrame.abandon hp | with_reducible apply UnitFrame.feedGone hp | with_reducible apply UnitFrame.modCc hp | with_reducible apply UnitFrame.openSwitch hp | with_reducible apply UnitFrame.modF hp | with_reducible apply UnitFrame.setReg | with_reducible apply UnitFrame.setTc hp | split | dsimp only)
  have hs9 : UnitFrame ps s s9 := by unfold s9; repeat' (first | assumption | with_reducible apply UnitFrame.linkOff hp | with_reducible apply UnitFrame.endContract hp | with_reducible apply UnitFrame.cutTx hp | with_reducible apply UnitFrame.abandon hp | with_reducible apply UnitFrame.feedGone hp | with_reducible apply UnitFrame.modCc hp | with_reducible apply UnitFrame.openSwitch hp | with_reducible apply UnitFrame.modF hp | with_reducible apply UnitFrame.setReg | with_reducible apply UnitFrame.setTc hp | split | dsimp only)
  repeat' (first | assumption | with_reducible apply UnitFrame.linkOff hp | with_reducible apply UnitFrame.endContract hp | with_reducible apply UnitFrame.cutTx hp | with_reducible apply UnitFrame.abandon hp | with_reducible apply UnitFrame.feedGone hp | with_reducible apply UnitFrame.modCc hp | with_reducible apply UnitFrame.openSwitch hp | with_reducible apply UnitFrame.modF hp | with_reducible apply UnitFrame.setReg | with_reducible apply UnitFrame.setTc hp | split | dsimp only)
theorem UnitFrame.detach (hp : p ∈ ps) (h : UnitFrame ps s t) (t') : UnitFrame ps s (t.detach p t') := by
  unfold State.detach
  lift_lets
  extract_lets s1
  have hs1 : UnitFrame ps s s1 := by unfold s1; repeat' (first | assumption | with_reducible apply UnitFrame.unattach hp | with_reducible apply UnitFrame.orReg | with_reducible apply UnitFrame.postF | split | dsimp only)
  repeat' (first | assumption | with_reducible apply UnitFrame.unattach hp | with_reducible apply UnitFrame.orReg | with_reducible apply UnitFrame.postF | split | dsimp only)
theorem UnitFrame.errorRecovery (hp : p ∈ ps) (h : UnitFrame ps s t) : UnitFrame ps s (t.errorRecovery p) := by
  unfold State.errorRecovery
  lift_lets
  extract_lets f1 s1 s2
  have hs1 : UnitFrame ps s s1 := by unfold s1; repeat' (first | assumption | with_reducible apply UnitFrame.fault | with_reducible apply UnitFrame.unattach hp | with_reducible apply UnitFrame.orReg | with_reducible apply UnitFrame.postF | with_reducible apply UnitFrame.setTc hp | split | dsimp only)
  have hs2 : UnitFrame ps s s2 := by unfold s2; repeat' (first | assumption | with_reducible apply UnitFrame.fault | with_reducible apply UnitFrame.unattach hp | with_reducible apply UnitFrame.orReg | with_reducible apply UnitFrame.postF | with_reducible apply UnitFrame.setTc hp | split | dsimp only)
  repeat' (first | assumption | with_reducible apply UnitFrame.fault | with_reducible apply UnitFrame.unattach hp | with_reducible apply UnitFrame.orReg | with_reducible apply UnitFrame.postF | with_reducible apply UnitFrame.setTc hp | split | dsimp only)
theorem PortFrame.refreshIlim (h : PortFrame p s t) : PortFrame p s (t.refreshIlim p) := by
  unfold State.refreshIlim
  repeat' (first | assumption | with_reducible apply PortFrame.setReg | with_reducible apply PortFrame.orReg | with_reducible apply PortFrame.modF | with_reducible apply PortFrame.postF | split | dsimp only)
theorem UnitFrame.refreshIlim (hp : p ∈ ps) (h : UnitFrame ps s t)  : UnitFrame ps s (t.refreshIlim p) := UnitFrame.port hp h (PortFrame.refreshIlim PortFrame.refl)
theorem UnitFrame.leave (hp : p ∈ ps) (h : UnitFrame ps s t) (x) : UnitFrame ps s (t.leave p x) := by
  unfold State.leave
  lift_lets
  extract_lets s1 s2 s3
  have hs1 : UnitFrame ps s s1 := by unfold s1; repeat' (first | assumption | with_reducible apply UnitFrame.unattach hp | with_reducible apply UnitFrame.openSwitch hp | with_reducible apply UnitFrame.setTc hp | with_reducible apply UnitFrame.modCc hp | with_reducible apply UnitFrame.modPd hp | with_reducible apply UnitFrame.refreshRp hp | with_reducible apply UnitFrame.setFState hp | with_reducible apply UnitFrame.refreshIlim hp | split | dsimp only)
  have hs2 : UnitFrame ps s s2 := by unfold s2; repeat' (first | assumption | with_reducible apply UnitFrame.unattach hp | with_reducible apply UnitFrame.openSwitch hp | with_reducible apply UnitFrame.setTc hp | with_reducible apply UnitFrame.modCc hp | with_reducible apply UnitFrame.modPd hp | with_reducible apply UnitFrame.refreshRp hp | with_reducible apply UnitFrame.setFState hp | with_reducible apply UnitFrame.refreshIlim hp | split | dsimp only)
  have hs3 : UnitFrame ps s s3 := by unfold s3; repeat' (first | assumption | with_reducible apply UnitFrame.unattach hp | with_reducible apply UnitFrame.openSwitch hp | with_reducible apply UnitFrame.setTc hp | with_reducible apply UnitFrame.modCc hp | with_reducible apply UnitFrame.modPd hp | with_reducible apply UnitFrame.refreshRp hp | with_reducible apply UnitFrame.setFState hp | with_reducible apply UnitFrame.refreshIlim hp | split | dsimp only)
  repeat' (first | assumption | with_reducible apply UnitFrame.unattach hp | with_reducible apply UnitFrame.openSwitch hp | with_reducible apply UnitFrame.setTc hp | with_reducible apply UnitFrame.modCc hp | with_reducible apply UnitFrame.modPd hp | with_reducible apply UnitFrame.refreshRp hp | with_reducible apply UnitFrame.setFState hp | with_reducible apply UnitFrame.refreshIlim hp | split | dsimp only)
theorem PortFrame.goLiveNow (h : PortFrame p s t) : PortFrame p s (t.goLiveNow p) := by
  unfold State.goLiveNow
  repeat' (first | assumption | with_reducible apply PortFrame.setFState | with_reducible apply PortFrame.setTc | split | dsimp only)
theorem UnitFrame.goLiveNow (hp : p ∈ ps) (h : UnitFrame ps s t)  : UnitFrame ps s (t.goLiveNow p) := UnitFrame.port hp h (PortFrame.goLiveNow PortFrame.refl)
theorem PortFrame.goLive (h : PortFrame p s t) : PortFrame p s (t.goLive p) := by
  unfold State.goLive
  lift_lets
  extract_lets s1 s2
  have hs1 : PortFrame p s s1 := by unfold s1; repeat' (first | assumption | with_reducible apply PortFrame.goLiveNow | with_reducible apply PortFrame.enterTc | with_reducible apply PortFrame.setFState | split | dsimp only)
  have hs2 : PortFrame p s s2 := by unfold s2; repeat' (first | assumption | with_reducible apply PortFrame.goLiveNow | with_reducible apply PortFrame.enterTc | with_reducible apply PortFrame.setFState | split | dsimp only)
  repeat' (first | assumption | with_reducible apply PortFrame.goLiveNow | with_reducible apply PortFrame.enterTc | with_reducible apply PortFrame.setFState | split | dsimp only)
theorem UnitFrame.goLive (hp : p ∈ ps) (h : UnitFrame ps s t)  : UnitFrame ps s (t.goLive p) := UnitFrame.port hp h (PortFrame.goLive PortFrame.refl)
theorem UnitFrame.quarantine (hp : p ∈ ps) (h : UnitFrame ps s t) : UnitFrame ps s (t.quarantine p) := by
  unfold State.quarantine
  repeat' (first | assumption | with_reducible apply UnitFrame.modF hp | with_reducible apply UnitFrame.nvmQueue | with_reducible apply UnitFrame.leave hp | split | dsimp only)
theorem UnitFrame.useGrant (h : UnitFrame ps s t) : UnitFrame ps s (t.useGrant) := by
  unfold State.useGrant
  repeat' (first | assumption | with_reducible apply UnitFrame.modOnx | split | dsimp only)
theorem PortFrame.present (h : PortFrame p s t) (t') : PortFrame p s (t.present p t') := by
  unfold State.present
  repeat' (first | assumption | with_reducible apply PortFrame.modCc | with_reducible apply PortFrame.refreshRp | split | dsimp only)
theorem UnitFrame.present (hp : p ∈ ps) (h : UnitFrame ps s t) (t') : UnitFrame ps s (t.present p t') := UnitFrame.port hp h (PortFrame.present PortFrame.refl ..)
theorem UnitFrame.repairCmd (hp : p ∈ ps) (h : UnitFrame ps s t) : UnitFrame ps s (t.repairCmd p) := by
  unfold State.repairCmd
  lift_lets
  extract_lets s1 s2
  have hs1 : UnitFrame ps s s1 := by unfold s1; repeat' (first | assumption | with_reducible apply UnitFrame.useGrant | with_reducible apply UnitFrame.present hp | with_reducible apply UnitFrame.setFState hp | with_reducible apply UnitFrame.nvmQueue | with_reducible apply UnitFrame.jrn | split | dsimp only)
  have hs2 : UnitFrame ps s s2 := by unfold s2; repeat' (first | assumption | with_reducible apply UnitFrame.useGrant | with_reducible apply UnitFrame.present hp | with_reducible apply UnitFrame.setFState hp | with_reducible apply UnitFrame.nvmQueue | with_reducible apply UnitFrame.jrn | split | dsimp only)
  repeat' (first | assumption | with_reducible apply UnitFrame.useGrant | with_reducible apply UnitFrame.present hp | with_reducible apply UnitFrame.setFState hp | with_reducible apply UnitFrame.nvmQueue | with_reducible apply UnitFrame.jrn | split | dsimp only)
theorem UnitFrame.orderHardReset (hp : p ∈ ps) (h : UnitFrame ps s t) (cause) : UnitFrame ps s (t.orderHardReset p cause) := by
  unfold State.orderHardReset; lift_lets; extract_lets f1 s1 s2 s3; split
  · exact h
  · have h1 : UnitFrame ps s s1 := by unfold s1; split; exact h; exact UnitFrame.fault h ..
    have h3 : UnitFrame ps s s3 := UnitFrame.modPd hp (UnitFrame.cutTx hp h1) _
    split
    · exact h3
    · exact UnitFrame.modPd hp (UnitFrame.openSwitch hp (UnitFrame.feedGone hp h3)) _
theorem UnitFrame.hubClamp (h : UnitFrame ps s t) (k) (act) : UnitFrame ps s (t.hubClamp k act) := by
  unfold State.hubClamp
  lift_lets
  extract_lets rose1 bitk1 s1 s2
  have hs1 : UnitFrame ps s s1 := by unfold s1; repeat' (first | assumption | with_reducible apply UnitFrame.orReg | with_reducible apply UnitFrame.modHub | with_reducible apply UnitFrame.postH | split | dsimp only)
  have hs2 : UnitFrame ps s s2 := by unfold s2; repeat' (first | assumption | with_reducible apply UnitFrame.orReg | with_reducible apply UnitFrame.modHub | with_reducible apply UnitFrame.postH | split | dsimp only)
  repeat' (first | assumption | with_reducible apply UnitFrame.orReg | with_reducible apply UnitFrame.modHub | with_reducible apply UnitFrame.postH | split | dsimp only)
theorem UnitFrame.refreshConv (h : UnitFrame ps s t) (c) (droop) : UnitFrame ps s (t.refreshConv c droop) := by
  unfold State.refreshConv
  lift_lets
  extract_lets b1 vreq1 veff1 ireq1 ieff1 atq1 s1 s2 s3 s4
  have hs1 : UnitFrame ps s s1 := by unfold s1; repeat' (first | assumption | with_reducible apply UnitFrame.modCv | with_reducible apply UnitFrame.setReg | with_reducible apply UnitFrame.hubClamp | split | dsimp only)
  have hs2 : UnitFrame ps s s2 := by unfold s2; repeat' (first | assumption | with_reducible apply UnitFrame.modCv | with_reducible apply UnitFrame.setReg | with_reducible apply UnitFrame.hubClamp | split | dsimp only)
  have hs3 : UnitFrame ps s s3 := by unfold s3; repeat' (first | assumption | with_reducible apply UnitFrame.modCv | with_reducible apply UnitFrame.setReg | with_reducible apply UnitFrame.hubClamp | split | dsimp only)
  have hs4 : UnitFrame ps s s4 := by unfold s4; repeat' (first | assumption | with_reducible apply UnitFrame.modCv | with_reducible apply UnitFrame.setReg | with_reducible apply UnitFrame.hubClamp | split | dsimp only)
  repeat' (first | assumption | with_reducible apply UnitFrame.modCv | with_reducible apply UnitFrame.setReg | with_reducible apply UnitFrame.hubClamp | split | dsimp only)
theorem UnitFrame.hubVset (h : UnitFrame ps s t) (b) (mv) : UnitFrame ps s (t.hubVset b mv) := by
  unfold State.hubVset; split
  · exact h
  · split
    · exact h
    · lift_lets; extract_lets s1 s2 s3
      have h1 : UnitFrame ps s s1 := UnitFrame.setFld h ..
      have h2 : UnitFrame ps s s2 := by unfold s2; split; exact UnitFrame.setFld h1 ..; exact h1
      have h3 : UnitFrame ps s s3 := UnitFrame.refreshConv h2 ..
      split
      · exact UnitFrame.refreshConv h3 ..
      · exact h3
theorem UnitFrame.stopRamp (hp : p ∈ ps) (h : UnitFrame ps s t) : UnitFrame ps s (t.stopRamp p) := by
  unfold State.stopRamp
  repeat' (first | assumption | with_reducible apply UnitFrame.hubVset | split | dsimp only)
theorem UnitFrame.hardResetEnd (hp : p ∈ ps) (h : UnitFrame ps s t) (sent) (received) : UnitFrame ps s (t.hardResetEnd p sent received) := by
  unfold State.hardResetEnd
  lift_lets
  extract_lets src1 late1 quiet1 s1 s2 s3 s4 s5 s6 s7 s8 s9 s10
  have hs1 : UnitFrame ps s s1 := by unfold s1; repeat' (first | assumption | with_reducible apply UnitFrame.stopRamp hp | with_reducible apply UnitFrame.cutTx hp | with_reducible apply UnitFrame.endContract hp | with_reducible apply UnitFrame.linkOff hp | with_reducible apply UnitFrame.abandon hp | with_reducible apply UnitFrame.modF hp | with_reducible apply UnitFrame.refreshRp hp | with_reducible apply UnitFrame.refreshVconn hp | with_reducible apply UnitFrame.orReg | with_reducible apply UnitFrame.postF | with_reducible apply UnitFrame.fault | with_reducible apply UnitFrame.errorRecovery hp | with_reducible apply UnitFrame.modPd hp | split | dsimp only)
  have hs2 : UnitFrame ps s s2 := by unfold s2; repeat' (first | assumption | with_reducible apply UnitFrame.stopRamp hp | with_reducible apply UnitFrame.cutTx hp | with_reducible apply UnitFrame.endContract hp | with_reducible apply UnitFrame.linkOff hp | with_reducible apply UnitFrame.abandon hp | with_reducible apply UnitFrame.modF hp | with_reducible apply UnitFrame.refreshRp hp | with_reducible apply UnitFrame.refreshVconn hp | with_reducible apply UnitFrame.orReg | with_reducible apply UnitFrame.postF | with_reducible apply UnitFrame.fault | with_reducible apply UnitFrame.errorRecovery hp | with_reducible apply UnitFrame.modPd hp | split | dsimp only)
  have hs3 : UnitFrame ps s s3 := by unfold s3; repeat' (first | assumption | with_reducible apply UnitFrame.stopRamp hp | with_reducible apply UnitFrame.cutTx hp | with_reducible apply UnitFrame.endContract hp | with_reducible apply UnitFrame.linkOff hp | with_reducible apply UnitFrame.abandon hp | with_reducible apply UnitFrame.modF hp | with_reducible apply UnitFrame.refreshRp hp | with_reducible apply UnitFrame.refreshVconn hp | with_reducible apply UnitFrame.orReg | with_reducible apply UnitFrame.postF | with_reducible apply UnitFrame.fault | with_reducible apply UnitFrame.errorRecovery hp | with_reducible apply UnitFrame.modPd hp | split | dsimp only)
  have hs4 : UnitFrame ps s s4 := by unfold s4; repeat' (first | assumption | with_reducible apply UnitFrame.stopRamp hp | with_reducible apply UnitFrame.cutTx hp | with_reducible apply UnitFrame.endContract hp | with_reducible apply UnitFrame.linkOff hp | with_reducible apply UnitFrame.abandon hp | with_reducible apply UnitFrame.modF hp | with_reducible apply UnitFrame.refreshRp hp | with_reducible apply UnitFrame.refreshVconn hp | with_reducible apply UnitFrame.orReg | with_reducible apply UnitFrame.postF | with_reducible apply UnitFrame.fault | with_reducible apply UnitFrame.errorRecovery hp | with_reducible apply UnitFrame.modPd hp | split | dsimp only)
  have hs5 : UnitFrame ps s s5 := by unfold s5; repeat' (first | assumption | with_reducible apply UnitFrame.stopRamp hp | with_reducible apply UnitFrame.cutTx hp | with_reducible apply UnitFrame.endContract hp | with_reducible apply UnitFrame.linkOff hp | with_reducible apply UnitFrame.abandon hp | with_reducible apply UnitFrame.modF hp | with_reducible apply UnitFrame.refreshRp hp | with_reducible apply UnitFrame.refreshVconn hp | with_reducible apply UnitFrame.orReg | with_reducible apply UnitFrame.postF | with_reducible apply UnitFrame.fault | with_reducible apply UnitFrame.errorRecovery hp | with_reducible apply UnitFrame.modPd hp | split | dsimp only)
  have hs6 : UnitFrame ps s s6 := by unfold s6; repeat' (first | assumption | with_reducible apply UnitFrame.stopRamp hp | with_reducible apply UnitFrame.cutTx hp | with_reducible apply UnitFrame.endContract hp | with_reducible apply UnitFrame.linkOff hp | with_reducible apply UnitFrame.abandon hp | with_reducible apply UnitFrame.modF hp | with_reducible apply UnitFrame.refreshRp hp | with_reducible apply UnitFrame.refreshVconn hp | with_reducible apply UnitFrame.orReg | with_reducible apply UnitFrame.postF | with_reducible apply UnitFrame.fault | with_reducible apply UnitFrame.errorRecovery hp | with_reducible apply UnitFrame.modPd hp | split | dsimp only)
  have hs7 : UnitFrame ps s s7 := by unfold s7; repeat' (first | assumption | with_reducible apply UnitFrame.stopRamp hp | with_reducible apply UnitFrame.cutTx hp | with_reducible apply UnitFrame.endContract hp | with_reducible apply UnitFrame.linkOff hp | with_reducible apply UnitFrame.abandon hp | with_reducible apply UnitFrame.modF hp | with_reducible apply UnitFrame.refreshRp hp | with_reducible apply UnitFrame.refreshVconn hp | with_reducible apply UnitFrame.orReg | with_reducible apply UnitFrame.postF | with_reducible apply UnitFrame.fault | with_reducible apply UnitFrame.errorRecovery hp | with_reducible apply UnitFrame.modPd hp | split | dsimp only)
  have hs8 : UnitFrame ps s s8 := by unfold s8; repeat' (first | assumption | with_reducible apply UnitFrame.stopRamp hp | with_reducible apply UnitFrame.cutTx hp | with_reducible apply UnitFrame.endContract hp | with_reducible apply UnitFrame.linkOff hp | with_reducible apply UnitFrame.abandon hp | with_reducible apply UnitFrame.modF hp | with_reducible apply UnitFrame.refreshRp hp | with_reducible apply UnitFrame.refreshVconn hp | with_reducible apply UnitFrame.orReg | with_reducible apply UnitFrame.postF | with_reducible apply UnitFrame.fault | with_reducible apply UnitFrame.errorRecovery hp | with_reducible apply UnitFrame.modPd hp | split | dsimp only)
  have hs9 : UnitFrame ps s s9 := by unfold s9; repeat' (first | assumption | with_reducible apply UnitFrame.stopRamp hp | with_reducible apply UnitFrame.cutTx hp | with_reducible apply UnitFrame.endContract hp | with_reducible apply UnitFrame.linkOff hp | with_reducible apply UnitFrame.abandon hp | with_reducible apply UnitFrame.modF hp | with_reducible apply UnitFrame.refreshRp hp | with_reducible apply UnitFrame.refreshVconn hp | with_reducible apply UnitFrame.orReg | with_reducible apply UnitFrame.postF | with_reducible apply UnitFrame.fault | with_reducible apply UnitFrame.errorRecovery hp | with_reducible apply UnitFrame.modPd hp | split | dsimp only)
  have hs10 : UnitFrame ps s s10 := by unfold s10; repeat' (first | assumption | with_reducible apply UnitFrame.stopRamp hp | with_reducible apply UnitFrame.cutTx hp | with_reducible apply UnitFrame.endContract hp | with_reducible apply UnitFrame.linkOff hp | with_reducible apply UnitFrame.abandon hp | with_reducible apply UnitFrame.modF hp | with_reducible apply UnitFrame.refreshRp hp | with_reducible apply UnitFrame.refreshVconn hp | with_reducible apply UnitFrame.orReg | with_reducible apply UnitFrame.postF | with_reducible apply UnitFrame.fault | with_reducible apply UnitFrame.errorRecovery hp | with_reducible apply UnitFrame.modPd hp | split | dsimp only)
  repeat' (first | assumption | with_reducible apply UnitFrame.stopRamp hp | with_reducible apply UnitFrame.cutTx hp | with_reducible apply UnitFrame.endContract hp | with_reducible apply UnitFrame.linkOff hp | with_reducible apply UnitFrame.abandon hp | with_reducible apply UnitFrame.modF hp | with_reducible apply UnitFrame.refreshRp hp | with_reducible apply UnitFrame.refreshVconn hp | with_reducible apply UnitFrame.orReg | with_reducible apply UnitFrame.postF | with_reducible apply UnitFrame.fault | with_reducible apply UnitFrame.errorRecovery hp | with_reducible apply UnitFrame.modPd hp | split | dsimp only)
theorem PortFrame.markStable (h : PortFrame p s t) : PortFrame p s (t.markStable p) := by
  unfold State.markStable
  repeat' (first | assumption | with_reducible apply PortFrame.modCc | split | dsimp only)
theorem UnitFrame.markStable (hp : p ∈ ps) (h : UnitFrame ps s t)  : UnitFrame ps s (t.markStable p) := UnitFrame.port hp h (PortFrame.markStable PortFrame.refl)
theorem PortFrame.ccDebounceDone (h : PortFrame p s t) : PortFrame p s (t.ccDebounceDone p) := by
  unfold State.ccDebounceDone
  lift_lets
  extract_lets f1
  repeat' (first | assumption | with_reducible apply PortFrame.modCc | with_reducible apply PortFrame.orReg | with_reducible apply PortFrame.sinkReady | with_reducible apply PortFrame.markStable | with_reducible apply PortFrame.sourceReady | with_reducible apply PortFrame.attachSnk | split | dsimp only)
theorem UnitFrame.ccDebounceDone (hp : p ∈ ps) (h : UnitFrame ps s t)  : UnitFrame ps s (t.ccDebounceDone p) := UnitFrame.port hp h (PortFrame.ccDebounceDone PortFrame.refl)
theorem PortFrame.ovLasts (h : PortFrame p s t) : PortFrame p s (t.ovLasts p) := by
  unfold State.ovLasts
  lift_lets
  extract_lets f1
  repeat' (first | assumption | with_reducible apply PortFrame.modCc | split | dsimp only)
theorem UnitFrame.ovLasts (hp : p ∈ ps) (h : UnitFrame ps s t)  : UnitFrame ps s (t.ovLasts p) := UnitFrame.port hp h (PortFrame.ovLasts PortFrame.refl)
theorem UnitFrame.pdDebounceDone (hp : p ∈ ps) (h : UnitFrame ps s t) : UnitFrame ps s (t.pdDebounceDone p) := by
  unfold State.pdDebounceDone
  lift_lets
  extract_lets f1 s1
  have hs1 : UnitFrame ps s s1 := by unfold s1; repeat' (first | assumption | with_reducible apply UnitFrame.ovLasts hp | with_reducible apply UnitFrame.modCc hp | with_reducible apply UnitFrame.enterTc hp | with_reducible apply UnitFrame.detach hp | split | dsimp only)
  repeat' (first | assumption | with_reducible apply UnitFrame.ovLasts hp | with_reducible apply UnitFrame.modCc hp | with_reducible apply UnitFrame.enterTc hp | with_reducible apply UnitFrame.detach hp | split | dsimp only)
theorem PortFrame.trySnkEnd (h : PortFrame p s t) : PortFrame p s (t.trySnkEnd p) := by
  unfold State.trySnkEnd
  lift_lets
  extract_lets f1
  repeat' (first | assumption | with_reducible apply PortFrame.enterTc | with_reducible apply PortFrame.attachSnk | with_reducible apply PortFrame.markStable | split | dsimp only)
theorem UnitFrame.trySnkEnd (hp : p ∈ ps) (h : UnitFrame ps s t)  : UnitFrame ps s (t.trySnkEnd p) := UnitFrame.port hp h (PortFrame.trySnkEnd PortFrame.refl)
theorem PortFrame.tryCcDebounceDone (h : PortFrame p s t) : PortFrame p s (t.tryCcDebounceDone p) := by
  unfold State.tryCcDebounceDone
  lift_lets
  extract_lets f1
  repeat' (first | assumption | with_reducible apply PortFrame.modCc | with_reducible apply PortFrame.attachSrc | with_reducible apply PortFrame.trySnkEnd | with_reducible apply PortFrame.markStable | split | dsimp only)
theorem UnitFrame.tryCcDebounceDone (hp : p ∈ ps) (h : UnitFrame ps s t)  : UnitFrame ps s (t.tryCcDebounceDone p) := UnitFrame.port hp h (PortFrame.tryCcDebounceDone PortFrame.refl)
theorem PortFrame.drpTryDone (h : PortFrame p s t) : PortFrame p s (t.drpTryDone p) := by
  unfold State.drpTryDone
  lift_lets
  extract_lets f1 t1
  repeat' (first | assumption | with_reducible apply PortFrame.modCc | with_reducible apply PortFrame.enterTc | with_reducible apply PortFrame.trySnkEnd | split | dsimp only)
theorem UnitFrame.drpTryDone (hp : p ∈ ps) (h : UnitFrame ps s t)  : UnitFrame ps s (t.drpTryDone p) := UnitFrame.port hp h (PortFrame.drpTryDone PortFrame.refl)
theorem PortFrame.drpPhaseDone (h : PortFrame p s t) : PortFrame p s (t.drpPhaseDone p) := by
  unfold State.drpPhaseDone
  lift_lets
  extract_lets f1
  repeat' (first | assumption | with_reducible apply PortFrame.enterTc | with_reducible apply PortFrame.setTc | with_reducible apply PortFrame.ccEval | split | dsimp only)
theorem UnitFrame.drpPhaseDone (hp : p ∈ ps) (h : UnitFrame ps s t)  : UnitFrame ps s (t.drpPhaseDone p) := UnitFrame.port hp h (PortFrame.drpPhaseDone PortFrame.refl)
theorem PortFrame.drpTryWaitDone (h : PortFrame p s t) : PortFrame p s (t.drpTryWaitDone p) := by
  unfold State.drpTryWaitDone
  repeat' (first | assumption | with_reducible apply PortFrame.enterTc | split | dsimp only)
theorem UnitFrame.drpTryWaitDone (hp : p ∈ ps) (h : UnitFrame ps s t)  : UnitFrame ps s (t.drpTryWaitDone p) := UnitFrame.port hp h (PortFrame.drpTryWaitDone PortFrame.refl)
theorem UnitFrame.vbusGone (hp : p ∈ ps) (h : UnitFrame ps s t) : UnitFrame ps s (t.vbusGone p) := by
  unfold State.vbusGone
  lift_lets
  extract_lets f1 except1
  repeat' (first | assumption | with_reducible apply UnitFrame.detach hp | with_reducible apply UnitFrame.enterTc hp | split | dsimp only)
theorem PortFrame.supplySeen (h : PortFrame p s t) : PortFrame p s (t.supplySeen p) := by
  unfold State.supplySeen
  lift_lets
  extract_lets f1
  repeat' (first | assumption | with_reducible apply PortFrame.sinkReady | with_reducible apply PortFrame.sourceReady | with_reducible apply PortFrame.attachSnk | with_reducible apply PortFrame.trySnkEnd | with_reducible apply PortFrame.attachSrc | split | dsimp only)
theorem UnitFrame.supplySeen (hp : p ∈ ps) (h : UnitFrame ps s t)  : UnitFrame ps s (t.supplySeen p) := UnitFrame.port hp h (PortFrame.supplySeen PortFrame.refl)
theorem UnitFrame.ccTimer (hp : p ∈ ps) (h : UnitFrame ps s t) (t') : UnitFrame ps s (t.ccTimer p t') := by
  unfold State.ccTimer
  repeat' (first | assumption | with_reducible apply UnitFrame.ovLasts hp | with_reducible apply UnitFrame.modRc hp | split)
  unfold State.ccTimerNow
  repeat' (first | assumption | with_reducible apply UnitFrame.ccDebounceDone hp | with_reducible apply UnitFrame.pdDebounceDone hp | with_reducible apply UnitFrame.tryCcDebounceDone hp | with_reducible apply UnitFrame.drpTryDone hp | with_reducible apply UnitFrame.drpTryWaitDone hp | with_reducible apply UnitFrame.drpPhaseDone hp | with_reducible apply UnitFrame.vbusGone hp | with_reducible apply UnitFrame.supplySeen hp | with_reducible apply UnitFrame.enterTc hp | with_reducible apply UnitFrame.modCc hp | with_reducible apply UnitFrame.orReg | split)
theorem PortFrame.ccClassify (h : PortFrame p s t) : PortFrame p s (t.ccClassify p) := by
  unfold State.ccClassify
  lift_lets
  extract_lets f1 l11 l21 s1
  have hs1 : PortFrame p s s1 := by unfold s1; repeat' (first | assumption | with_reducible apply PortFrame.modCc | with_reducible apply PortFrame.ccEval | split | dsimp only)
  repeat' (first | assumption | with_reducible apply PortFrame.modCc | with_reducible apply PortFrame.ccEval | split | dsimp only)
theorem UnitFrame.ccClassify (hp : p ∈ ps) (h : UnitFrame ps s t)  : UnitFrame ps s (t.ccClassify p) := UnitFrame.port hp h (PortFrame.ccClassify PortFrame.refl)
theorem PortFrame.ccHear (h : PortFrame p s t) : PortFrame p s (t.ccHear p) := by
  unfold State.ccHear
  repeat' (first | assumption | with_reducible apply PortFrame.ccClassify | split | dsimp only)
theorem UnitFrame.ccHear (hp : p ∈ ps) (h : UnitFrame ps s t)  : UnitFrame ps s (t.ccHear p) := UnitFrame.port hp h (PortFrame.ccHear PortFrame.refl)
theorem PortFrame.ccLevels (h : PortFrame p s t) (v) : PortFrame p s (t.ccLevels p v) := by
  unfold State.ccLevels
  lift_lets
  extract_lets s1
  have hs1 : PortFrame p s s1 := by unfold s1; repeat' (first | assumption | with_reducible apply PortFrame.modCc | with_reducible apply PortFrame.ccHear | split | dsimp only)
  repeat' (first | assumption | with_reducible apply PortFrame.modCc | with_reducible apply PortFrame.ccHear | split | dsimp only)
theorem UnitFrame.ccLevels (hp : p ∈ ps) (h : UnitFrame ps s t) (v) : UnitFrame ps s (t.ccLevels p v) := UnitFrame.port hp h (PortFrame.ccLevels PortFrame.refl ..)
theorem UnitFrame.vbusCross (hp : p ∈ ps) (h : UnitFrame ps s t) (below) : UnitFrame ps s (t.vbusCross p below) := by
  unfold State.vbusCross
  lift_lets
  extract_lets s1
  have hs1 : UnitFrame ps s s1 := by unfold s1; repeat' (first | assumption | with_reducible apply UnitFrame.modPp hp | with_reducible apply UnitFrame.ccTimer hp | split | dsimp only)
  repeat' (first | assumption | with_reducible apply UnitFrame.modPp hp | with_reducible apply UnitFrame.ccTimer hp | split | dsimp only)
theorem UnitFrame.ccOver (hp : p ∈ ps) (h : UnitFrame ps s t) (pin) : UnitFrame ps s (t.ccOver p pin) := by
  unfold State.ccOver
  lift_lets
  extract_lets two1 f1
  repeat' (first | assumption | with_reducible apply UnitFrame.modCc hp | with_reducible apply UnitFrame.orReg | with_reducible apply UnitFrame.fault | with_reducible apply UnitFrame.ccEval hp | split | dsimp only)
theorem UnitFrame.bothCv (h : UnitFrame ps s t) (c) (g) : UnitFrame ps s (t.bothCv c g) := by
  unfold State.bothCv
  repeat' (first | assumption | with_reducible apply UnitFrame.modCv | split | dsimp only)
theorem UnitFrame.stopCharge (h : UnitFrame ps s t) (x) : UnitFrame ps s (t.stopCharge x) := by
  unfold State.stopCharge
  repeat' (first | assumption | with_reducible apply UnitFrame.modCv | with_reducible apply UnitFrame.setPhase | split | dsimp only)
theorem UnitFrame.cvTo (h : UnitFrame ps s t) (c) (g) : UnitFrame ps s (t.cvTo c g) := by
  unfold State.cvTo
  lift_lets
  extract_lets b1 fed1 s1 s2
  have hs1 : UnitFrame ps s s1 := by unfold s1; repeat' (first | assumption | with_reducible apply UnitFrame.stopCharge | with_reducible apply UnitFrame.unlose | with_reducible apply UnitFrame.bothCv | with_reducible apply UnitFrame.markLost | with_reducible apply UnitFrame.feedEnd | split | dsimp only)
  have hs2 : UnitFrame ps s s2 := by unfold s2; repeat' (first | assumption | with_reducible apply UnitFrame.stopCharge | with_reducible apply UnitFrame.unlose | with_reducible apply UnitFrame.bothCv | with_reducible apply UnitFrame.markLost | with_reducible apply UnitFrame.feedEnd | split | dsimp only)
  repeat' (first | assumption | with_reducible apply UnitFrame.stopCharge | with_reducible apply UnitFrame.unlose | with_reducible apply UnitFrame.bothCv | with_reducible apply UnitFrame.markLost | with_reducible apply UnitFrame.feedEnd | split | dsimp only)
theorem UnitFrame.cvTrip (h : UnitFrame ps s t) (c) (k) (src) (ev) : UnitFrame ps s (t.cvTrip c k src ev) := by
  unfold State.cvTrip
  lift_lets
  extract_lets b1 fed1 v1 s1 s2 s3 s4 s5
  have hs1 : UnitFrame ps s s1 := by unfold s1; repeat' (first | assumption | with_reducible apply UnitFrame.stopCharge | with_reducible apply UnitFrame.bothCv | with_reducible apply UnitFrame.orReg | with_reducible apply UnitFrame.postH | with_reducible apply UnitFrame.feedEnd | with_reducible apply UnitFrame.fault | split | dsimp only)
  have hs2 : UnitFrame ps s s2 := by unfold s2; repeat' (first | assumption | with_reducible apply UnitFrame.stopCharge | with_reducible apply UnitFrame.bothCv | with_reducible apply UnitFrame.orReg | with_reducible apply UnitFrame.postH | with_reducible apply UnitFrame.feedEnd | with_reducible apply UnitFrame.fault | split | dsimp only)
  have hs3 : UnitFrame ps s s3 := by unfold s3; repeat' (first | assumption | with_reducible apply UnitFrame.stopCharge | with_reducible apply UnitFrame.bothCv | with_reducible apply UnitFrame.orReg | with_reducible apply UnitFrame.postH | with_reducible apply UnitFrame.feedEnd | with_reducible apply UnitFrame.fault | split | dsimp only)
  have hs4 : UnitFrame ps s s4 := by unfold s4; repeat' (first | assumption | with_reducible apply UnitFrame.stopCharge | with_reducible apply UnitFrame.bothCv | with_reducible apply UnitFrame.orReg | with_reducible apply UnitFrame.postH | with_reducible apply UnitFrame.feedEnd | with_reducible apply UnitFrame.fault | split | dsimp only)
  have hs5 : UnitFrame ps s s5 := by unfold s5; repeat' (first | assumption | with_reducible apply UnitFrame.stopCharge | with_reducible apply UnitFrame.bothCv | with_reducible apply UnitFrame.orReg | with_reducible apply UnitFrame.postH | with_reducible apply UnitFrame.feedEnd | with_reducible apply UnitFrame.fault | split | dsimp only)
  repeat' (first | assumption | with_reducible apply UnitFrame.stopCharge | with_reducible apply UnitFrame.bothCv | with_reducible apply UnitFrame.orReg | with_reducible apply UnitFrame.postH | with_reducible apply UnitFrame.feedEnd | with_reducible apply UnitFrame.fault | split | dsimp only)
theorem UnitFrame.refreshBat (h : UnitFrame ps s t) : UnitFrame ps s (t.refreshBat) := by
  unfold State.refreshBat
  lift_lets
  extract_lets vr1 ve1 ir1 ie1 dr1 de1 s1
  have hs1 : UnitFrame ps s s1 := by unfold s1; repeat' (first | assumption | with_reducible apply UnitFrame.setReg | with_reducible apply UnitFrame.hubClamp | split | dsimp only)
  repeat' (first | assumption | with_reducible apply UnitFrame.setReg | with_reducible apply UnitFrame.hubClamp | split | dsimp only)
theorem UnitFrame.gaugeRecord (h : UnitFrame ps s t) : UnitFrame ps s (t.gaugeRecord) := by
  unfold State.gaugeRecord
  repeat' (first | assumption | with_reducible apply UnitFrame.modBat | with_reducible apply UnitFrame.nvmQueue | split | dsimp only)
theorem UnitFrame.judgeCharge (h : UnitFrame ps s t) : UnitFrame ps s (t.judgeCharge) := by
  unfold State.judgeCharge
  lift_lets
  extract_lets ok1
  repeat' (first | assumption | with_reducible apply UnitFrame.stopCharge | split | dsimp only)
theorem UnitFrame.setBat (h : UnitFrame ps s t) (x) : UnitFrame ps s (t.setBat x) := by
  unfold State.setBat; split
  · exact h
  · exact UnitFrame.refreshBat (UnitFrame.judgeCharge (UnitFrame.gaugeRecord (UnitFrame.postH (UnitFrame.modBat h _) ..)))
theorem UnitFrame.startCharge (h : UnitFrame ps s t) (c) : UnitFrame ps s (t.startCharge c) := by
  unfold State.startCharge
  lift_lets
  extract_lets s1 s2 s3
  have hs1 : UnitFrame ps s s1 := by unfold s1; repeat' (first | assumption | with_reducible apply UnitFrame.modCv | with_reducible apply UnitFrame.modBat | with_reducible apply UnitFrame.setPhase | split | dsimp only)
  have hs2 : UnitFrame ps s s2 := by unfold s2; repeat' (first | assumption | with_reducible apply UnitFrame.modCv | with_reducible apply UnitFrame.modBat | with_reducible apply UnitFrame.setPhase | split | dsimp only)
  have hs3 : UnitFrame ps s s3 := by unfold s3; repeat' (first | assumption | with_reducible apply UnitFrame.modCv | with_reducible apply UnitFrame.modBat | with_reducible apply UnitFrame.setPhase | split | dsimp only)
  repeat' (first | assumption | with_reducible apply UnitFrame.modCv | with_reducible apply UnitFrame.modBat | with_reducible apply UnitFrame.setPhase | split | dsimp only)
theorem UnitFrame.chargeTimedOut (h : UnitFrame ps s t) : UnitFrame ps s (t.chargeTimedOut) := by
  unfold State.chargeTimedOut
  lift_lets
  extract_lets ph1
  repeat' (first | assumption | with_reducible apply UnitFrame.stopCharge | with_reducible apply UnitFrame.orReg | with_reducible apply UnitFrame.fault | split | dsimp only)
theorem UnitFrame.chargeDone (h : UnitFrame ps s t) : UnitFrame ps s (t.chargeDone) := by
  unfold State.chargeDone
  repeat' (first | assumption | with_reducible apply UnitFrame.stopCharge | with_reducible apply UnitFrame.orReg | split | dsimp only)
theorem UnitFrame.batFault (h : UnitFrame ps s t) (ov) : UnitFrame ps s (t.batFault ov) := by
  unfold State.batFault
  lift_lets
  extract_lets s1
  have hs1 : UnitFrame ps s s1 := by unfold s1; repeat' (first | assumption | with_reducible apply UnitFrame.orReg | with_reducible apply UnitFrame.setBat | with_reducible apply UnitFrame.fault | split | dsimp only)
  repeat' (first | assumption | with_reducible apply UnitFrame.orReg | with_reducible apply UnitFrame.setBat | with_reducible apply UnitFrame.fault | split | dsimp only)
theorem UnitFrame.removeConv (h : UnitFrame ps s t) (c) : UnitFrame ps s (t.removeConv c) := by
  unfold State.removeConv
  lift_lets
  extract_lets b1 fed1 s1
  have hs1 : UnitFrame ps s s1 := by unfold s1; repeat' (first | assumption | with_reducible apply UnitFrame.modCv | with_reducible apply UnitFrame.markLost | with_reducible apply UnitFrame.feedEnd | split | dsimp only)
  repeat' (first | assumption | with_reducible apply UnitFrame.modCv | with_reducible apply UnitFrame.markLost | with_reducible apply UnitFrame.feedEnd | split | dsimp only)
theorem UnitFrame.removeBat (h : UnitFrame ps s t) : UnitFrame ps s (t.removeBat) := by
  unfold State.removeBat
  lift_lets
  extract_lets ph1 s1 s2 s3 s4 s5
  have hs1 : UnitFrame ps s s1 := by unfold s1; repeat' (first | assumption | with_reducible apply UnitFrame.removeConv | with_reducible apply UnitFrame.fault | with_reducible apply UnitFrame.modBat | with_reducible apply UnitFrame.orReg | with_reducible apply UnitFrame.setBat | split | dsimp only)
  have hs2 : UnitFrame ps s s2 := by unfold s2; repeat' (first | assumption | with_reducible apply UnitFrame.removeConv | with_reducible apply UnitFrame.fault | with_reducible apply UnitFrame.modBat | with_reducible apply UnitFrame.orReg | with_reducible apply UnitFrame.setBat | split | dsimp only)
  have hs3 : UnitFrame ps s s3 := by unfold s3; repeat' (first | assumption | with_reducible apply UnitFrame.removeConv | with_reducible apply UnitFrame.fault | with_reducible apply UnitFrame.modBat | with_reducible apply UnitFrame.orReg | with_reducible apply UnitFrame.setBat | split | dsimp only)
  have hs4 : UnitFrame ps s s4 := by unfold s4; repeat' (first | assumption | with_reducible apply UnitFrame.removeConv | with_reducible apply UnitFrame.fault | with_reducible apply UnitFrame.modBat | with_reducible apply UnitFrame.orReg | with_reducible apply UnitFrame.setBat | split | dsimp only)
  have hs5 : UnitFrame ps s s5 := by unfold s5; repeat' (first | assumption | with_reducible apply UnitFrame.removeConv | with_reducible apply UnitFrame.fault | with_reducible apply UnitFrame.modBat | with_reducible apply UnitFrame.orReg | with_reducible apply UnitFrame.setBat | split | dsimp only)
  repeat' (first | assumption | with_reducible apply UnitFrame.removeConv | with_reducible apply UnitFrame.fault | with_reducible apply UnitFrame.modBat | with_reducible apply UnitFrame.orReg | with_reducible apply UnitFrame.setBat | split | dsimp only)
end Sys2Proof.Machine
end

