-- ==== Sys2Proof/WellFormed.lean ====
section
/-! DEFINITION. Which commands are well formed: operands a sender or the analog side can really show. `exec` is total
and needs none of this; the checks say which terms of `Instr` stand for something the spec describes. -/
namespace Sys2Proof

/-- A received message agrees with its header: data objects counted by Number of Data Objects, an Extended message
within 260 bytes and, when chunked, 26 bytes a chunk (R202, R210). -/
def msgOk (m : PdMsg) : Bool :=
  if m.extended then decide (m.size ≤ 260) && decide (m.objs.length ≤ if m.chunked then 7 else 65)
  else decide (m.objs.length = m.nobj)

/-- A feed code of `H_FEEDn_CFG.LIST`: 1 to 4 a port, 5 AUXIN, 6 the converter (R295). -/
def feedOk (c : BitVec 3) : Bool := decide (1 ≤ c.toNat) && decide (c.toNat ≤ 6)

/-- A fault source code of a window: one that some unit has (R404). -/
def srcOk (src : Byte) : Bool := decide (src.toNat ≤ 0x1B) || (decide (0x80 ≤ src.toNat) && decide (src.toNat ≤ 0xBF))

/-- The operands of a command are ones the spec gives it. -/
def wellFormed : Instr → Bool
  | .rpLevelWrite _ _ l => decide (l.toNat ≤ 2)
  | .bandChange b => decide (b.toNat ≤ 6)
  | .feedLost _ c => feedOk c
  | .feedReturn _ c => feedOk c
  | .faultWindowClose _ src => srcOk src
  | .scrubStep b _ => decide (b.toNat < 192)
  | .sourceCapabilitiesRx _ m => msgOk m
  | .requestRx _ m => msgOk m
  | .eprRequestRx _ m => msgOk m
  | .acceptRx _ m => msgOk m
  | .rejectRx _ m => msgOk m
  | .waitRx _ m => msgOk m
  | .psRdyRx _ m => msgOk m
  | .softResetRx _ m => msgOk m
  | .prSwapRx _ m => msgOk m
  | .drSwapRx _ m => msgOk m
  | .vconnSwapRx _ m _ => msgOk m
  | .frSwapRx _ m => msgOk m
  | .getSourceCapRx _ m => msgOk m
  | .getSinkCapRx _ m => msgOk m
  | .eprModeRx _ m => msgOk m
  | .eprKeepaliveRx _ m => msgOk m
  | .getPpsStatusRx _ m => msgOk m
  | .structuredVdmRx _ m => msgOk m
  | .vdmResponseRx _ m => msgOk m
  | .enterModeRx _ m => msgOk m
  | .exitModeRx _ m => msgOk m
  | .bistRx _ m => msgOk m
  | .getRevisionRx _ m => msgOk m
  | .securityRequestRx _ m => msgOk m
  | .firmwareMessageRx _ m => msgOk m
  | .extendedChunkRx _ m => msgOk m
  | .unchunkedExtendedRx _ m => msgOk m
  | .unsupportedMessageRx _ m => msgOk m
  | .getSourceInfoRx _ m => msgOk m
  | .linkCharacterRx _ _ _ framing _ brk => !brk || framing
  | .svcCArbitrationLost _ bit _ rd => decide (bit.toNat ≤ 8) && decide (rd.length ≤ 16)
  | .svcCDone _ _ rd => decide (rd.length ≤ 16)
  | _ => true

end Sys2Proof
end

