-- ==== Sys2Proof/Tests/Slice0.lean ====
section
/-! SUPPORT. Tests of the model: an ill-formed term for each check of WellFormed.lean, the worked examples of the spec and
values worked out by hand from its tables, each on one step from a small state, and states that meet the hypotheses of each
statement, clause by clause. -/
namespace Sys2Proof.Tests
open Sys2Proof Sys2Proof.Machine
set_option Elab.async false

/-! ### Helpers -/

/-- RUN with an authenticated image and nothing else. -/
def up : State := { State.reset with mode := .run, imgAuth := true }

/-- The state after one step that takes `c`. -/
def after (s : State) (c : Instr) : State :=
  match step { s with pending := [c] } with
  | .next t => t
  | _ => s

/-- The state after one step with nothing waiting, in which a command written to a register is evaluated (R554). -/
def afterIdle (s : State) : State :=
  match step { s with pending := [] } with
  | .next t => t
  | _ => s

/-- `up` with facet A LIVE and changed. -/
def port (g : Facet → Facet) : State := { up with fa := g { up.fa with fstate := .live } }

def withCc (g : Cc → Cc) (f : Facet) : Facet := { f with cc := g f.cc }
def withPd (g : Pd → Pd) (f : Facet) : Facet := { f with pd := g f.pd }
def withCt (g : Ct → Ct) (f : Facet) : Facet := { f with ct := g f.ct }
def withPp (g : Pp → Pp) (f : Facet) : Facet := { f with pp := g f.pp }
def withLk (g : Lk → Lk) (f : Facet) : Facet := { f with lk := g f.lk }
def withRc (g : Rcfg Bank → Rcfg Bank) (f : Facet) : Facet := { f with rc := g f.rc }

/-- `up` with the hub LIVE and changed. -/
def hub (g : Hub → Hub) : State := { up with hub := g { up.hub with fstate := .live } }
def withBat (g : Bat → Bat) (h : Hub) : Hub := { h with bat := g h.bat }
def withCv1 (x : CvState) (h : Hub) : Hub := { h with cv1 := { h.cv1 with st := x } }

def svc : Src := .direct .service

/-- Facet A LIVE with a sink attached, as source with Revision 3.x messages, and what `g` changes. -/
def source (g : Facet → Facet) : State :=
  port fun f => g (withCt (fun c => { c with prole := true, drole := true })
    (withPd (fun d => { d with rev := 2, pdEn := true }) (withCc (fun c => { c with attached := true, tc := .attachedSrc }) f)))

/-- Facet A LIVE with a source attached, as sink. -/
def sink (g : Facet → Facet) : State :=
  port fun f => g (withPd (fun d => { d with rev := 2, pdEn := true }) (withCc (fun c => { c with attached := true, tc := .attachedSnk }) f))

/-- A control message on SOP of Revision 3.x. -/
def ctl (typ id : Nat) : PdMsg := ⟨.sop, BitVec.ofNat 16 (typ + 128 + 512 * id), 0, []⟩

/-- A data message on SOP of Revision 3.x. -/
def dat (typ id : Nat) (l : List Word) : PdMsg := ⟨.sop, BitVec.ofNat 16 (typ + 128 + 512 * id + 4096 * l.length), 0, l⟩

/-! ### Hypotheses of the statements are met -/

theorem witness_EmptyQueuePassesOneCycle :
    up.pending = [] ∧ up.clkStopped = false ∧ up.mode ≠ .cold ∧ up.mode ≠ .sentinel ∧ up.waits = false
      ∧ ((up.elapse 1).pwmPass 1).owes = false
      ∧ (let z := hub fun h => { h with frozen := true }
         z.waits = false ∧ ((z.elapse 1).pwmPass 1).owes = false ∧ z.hub.frozen = true) := by decide +kernel
theorem witness_EveryStepLeavesTheBlockQuiet :
    up.quiet = true ∧ (match step up with | .next _ => true | _ => false) = true := by decide +kernel
theorem witness_SupplyValidSetsItsSupervisor :
    { up with mode := .cold }.mode = .cold ∧ up.mode ≠ .cold ∧ Supply.bat ≠ .auxin := by decide +kernel
theorem witness_PowerOnEntersBoot :
    { up with mode := .cold, batOk := true }.mode = .cold ∧ { up with mode := .cold, batOk := true }.anyInput = true
      ∧ up.mode ≠ .cold ∧ { up with mode := .cold }.anyInput = false := by decide +kernel
theorem witness_BootEndsInRunOrSafe :
    State.reset.booting = true ∧ ((State.reset.bootCounted .done).selfTested.bootScan).2 = none
      ∧ State.reset.onx.selfTest = false := by decide +kernel
theorem witness_SafeEntryStopsEverything :
    up.mode ≠ .safe ∧ up.mode ≠ .cold ∧ (up.facet .a).fstate ≠ .quarantined ∧ (up.facet .a).rc.phase ≠ .holding := by
  decide +kernel
theorem witness_BrownOutEndsInCold :
    (up.mode ≠ .cold ∧ up.mode ≠ .boot ∧ up.bow = false ∧ up.anyInput = false)
      ∧ (State.reset.mode = .boot ∧ State.reset.bow = false ∧ State.reset.anyInput = false)
      ∧ { up with bow := true }.bow = true := by decide +kernel
/-- RUN with all that SENTINEL entry asks for (R62). -/
def calm : State := { up with batOk := true }.setReg 0x0103 100
/-- A command that awaits its evaluation. -/
def one : Await := ⟨.mode .service, 1, 0, 0, true⟩
/-- SAFE with a grant for SAFE_EXIT. -/
def released : State := { up with mode := .safe, onx := { up.onx with grant := some ⟨1, 0, .service⟩ } }
theorem witness_ModeCommandsTakeEffect :
    (up.on = true ∧ up.awaits = [] ∧ up.mode = .run) ∧ (calm.awaits = [] ∧ released.awaits = []) ∧ (calm.on = true ∧ calm.mode = .run ∧ calm.sentReady = true)
      ∧ ({ up with mode := .standby }.on = true ∧ { up with mode := .standby }.mode = .standby)
      ∧ (released.on = true ∧ released.mode = .safe ∧ released.granted 1 0 .service = true) := by decide +kernel
theorem witness_RefusedModeCommandsChangeNothing :
    up.on = true ∧ up.awaits = [] ∧ { up with awaits := [one] }.on = true ∧ { up with awaits := [one] }.awaits ≠ [] ∧ (1 : Half) ≠ 0 ∧ released.on = true ∧ released.mode ≠ .run ∧ released.mode ≠ .standby
      ∧ up.mode ≠ .safe ∧ up.mode = .run ∧ up.sentReady = false ∧ released.granted 1 0 .lapidary = false := by decide +kernel
theorem witness_SentinelCountsItsIntervals :
    ({ calm with sentEntry := .calibrating .service }.sentEntry = .calibrating .service ∧ calm.mode = .run
        ∧ calm.sentReady = true ∧ up.sentReady = false)
      ∧ ({ up with mode := .sentinel }.mode = .sentinel ∧ { up with mode := .sentinel }.burst = none
        ∧ (let b : Burst := ⟨768, 1, false, 0⟩
           { up with mode := .sentinel, burst := some b }.burst = some b ∧ (b.forced = true ∨ b.cause ≠ 0)
             ∧ ¬ (({ b with cause := 0 } : Burst).forced = true ∨ ({ b with cause := 0 } : Burst).cause ≠ 0)))
      ∧ (let s := { up with mode := .sentinel, wakes := 65536 }
         s.mode = .sentinel ∧ s.wakes % 65536 = 0 ∧ 0 < s.wakes ∧ s.wf = true) := by decide +kernel
theorem witness_FloorActsWithoutClock :
    up.mode ≠ .cold ∧ ((hub (withCv1 .regulating)).cv .cv1).switching = true ∧ (up.feed .nbus1).clamped = false
      ∧ up.hub.bat.clampLatch = false
      ∧ (hub fun h => { h with feed1 := { h.feed1 with clamped := true } }).clampHolds (some .nbus1) = true
      ∧ (hub (withBat fun b => { b with clampLatch := true })).clampHolds none = true := by decide +kernel
theorem witness_ClockRowsAnswer :
    let w := { up with cycles := 2 ^ 48 - 5, nextTick := 2 ^ 48 + 100 }
    let e := port fun f => { f with epPend := true, epLast := some 0 }
    (up.on = true ∧ up.mode ≠ .sentinel ∧ up.wf = true) ∧ { up with mode := .sentinel }.on = true ∧ (w.on = true ∧ w.mode ≠ .sentinel ∧ w.wrapAt ≤ w.nextTick)
      ∧ (e.on = true ∧ (e.facet .a).epPend = true ∧ e.advanceAt (some .a) ≤ e.nextTick)
      ∧ (let h := hub fun h => { h with epPend := true, epLast := some 0 }
         h.on = true ∧ h.hub.epPend = true ∧ h.advanceAt none ≤ h.nextTick) := by decide +kernel
theorem witness_TickLengthWaitsForBoundary :
    up.wf = true ∧ up.on = true ∧ (1 ≤ fld (32 : Word) 0 6 ∧ fld (32 : Word) 0 6 ≤ 32) ∧ fld (64 : Word) 0 6 = 0 ∧ 32 < fld (33 : Word) 0 6
      ∧ up.tickOld = none ∧ { up with tickOld := some 4 }.tickOld = some 4 ∧ up.cycles < up.nextTick
      ∧ { up with cycles := 96000 }.nextTick ≤ { up with cycles := 96000 }.cycles := by decide +kernel
theorem witness_FacetCommandsAreJudgedInOrder :
    up.on = true ∧ up.awaits = [] ∧ { up with awaits := [one] }.awaits ≠ [] ∧ svc ≠ .mailbox ∧ facetRows.all (fun r => !r.argOk 8 && (r.argOk 0 || r.argOk 1)) = true
      ∧ (up.facet .a).epoch ≠ 1 ∧ (port fun f => { f with epPend := true }).fa.epPend = true
      ∧ ({ up with mode := .safe }.on = true ∧ { up with mode := .safe }.mode ≠ .standby ∧ { up with mode := .safe }.mode ≠ .run
        ∧ up.fa.epoch = 0 ∧ up.fa.epPend = false)
      ∧ (let q := port fun f => { f with fstate := .quarantined }
         q.takesF .a 0 ∧ facetRows.all (fun r => decide (r.op = 0x40 ∨ q.fa.fstate ∉ r.states)) = true)
      ∧ (up.takesF .a 0 ∧ up.fa.fstate ∉ [FState.quarantined]) := by decide +kernel
theorem witness_SwitchOnIsRefused :
    let s := port (withPp fun x => { x with leak := true })
    (s.takesF .a 0 ∧ (s.facet .a).fstate = .live ∧ (s.facet .a).pp.swCmd = false ∧ (s.facet .a).pp.leak = true)
      ∧ (let t := port id
         t.takesF .a 0 ∧ (t.facet .a).fstate = .live ∧ (t.facet .a).pp.swCmd = false ∧ (t.facet .a).pp.floorLatch = false
          ∧ t.tsd = false ∧ (t.facet .a).pp.leak = false ∧ (t.facet .a).pp.stall = false ∧ (t.facet .a).cc.attached = false) := by
  decide +kernel
theorem witness_FacetPreconditionsAreChecked :
    let s := port id
    (up.takesF .a 0 ∧ up.fa.fstate = .off ∧ up.fa.cfg.present = false)
      ∧ (s.takesF .a 0 ∧ s.fa.fstate = .live ∧ s.fa.cc.attached = false ∧ s.fa.ct.vconnSrc = false ∧ s.fa.ct.drole = false
        ∧ s.fa.ct.contract = false ∧ s.fa.cfg.auth = false ∧ s.fa.ct.prole = false ∧ s.fa.ct.epr = false ∧ s.fa.ct.linkOn = false
        ∧ s.onx.rngOk = false ∧ s.fa.listsLink = false ∧ s.fa.cfg.role ≠ 2 ∧ s.raFound .a = false)
      ∧ (1 : Half).toNat % 8 ≠ 0
      ∧ (let g := (sink (withCt fun c => { c with srcCaps := [0x0001912C#32, 0x0002D12C#32] })).setReg (fx .a 0x100) 0x100
         g.takesF .a 0 ∧ g.fa.fstate = .live ∧ g.gated .a = true ∧ isSafe5 (g.argObj .a 2) = false ∧ (2 : Half).toNat % 8 ≠ 0) := by
  decide +kernel
theorem witness_FacetStateCommandsTakeEffect :
    let here := { up with fa := { up.fa with cfg := { up.fa.cfg with present := true } } }
    let closed := port (withPp fun x => { x with swCmd := true })
    let trip := port fun f => { f with fstate := .tripped }
    let fixed := { port (fun f => { f with fstate := .quarantined }) with onx := { up.onx with grant := some ⟨2, 0, .service⟩ } }
    let ready := { (source id) with vbusOk := .all true, sense := { up.sense with nbus1 := 5000 } }
    (here.takesF .a 0 ∧ here.fa.fstate = .off ∧ here.fa.cfg.present = true)
      ∧ (closed.takesF .a 0 ∧ closed.fa.fstate = .live ∧ closed.fa.pp.swCmd = true)
      ∧ (ready.takesF .a 0 ∧ ready.fa.fstate = .live ∧ ready.fa.pp.swCmd = false ∧ ready.fa.pp.floorLatch = false ∧ ready.tsd = false
        ∧ ready.fa.pp.leak = false ∧ ready.fa.pp.stall = false ∧ ready.switchOk .a = true)
      ∧ (trip.takesF .a 0 ∧ trip.fa.fstate = .tripped)
      ∧ (fixed.takesF .a 0 ∧ fixed.fa.fstate = .quarantined ∧ fixed.granted 2 (portNo .a) (srcMaster svc) = true)
      ∧ (let q := port fun f => { f with fstate := .quarantined }
         q.takesF .a 0 ∧ q.fa.fstate = .quarantined ∧ q.granted 2 (portNo .a) (srcMaster svc) = false) := by decide +kernel
/-- A source that has a contract. -/
def inContract (g : Facet → Facet) : State := source fun f => g (withCt (fun c => { c with contract := true }) f)
/-- A source in contract whose own table names the chain link's SVID. -/
def chained (g : Facet → Facet) : State :=
  inContract fun f => g { f with vdm := some ⟨[], [⟨0x2F7A, [0]⟩]⟩ }
theorem witness_FacetProtocolCommandsTakeEffect :
    let a := source id
    let cable := (source (withCt fun c => { c with vconnSrc := true })).setReg (fx .a 0x080) 2
    let snk := sink (withCt fun c => { c with srcCaps := [0x0001912C#32] })
    let ready := { (inContract fun f => { f with cfg := { f.cfg with auth := true } }) with onx := { up.onx with rngOk := true } }
    (a.takesF .a 0 ∧ a.fa.fstate = .live ∧ a.fa.cc.attached = true ∧ a.fa.pd.pdEn = true ∧ a.fa.pd.hrPhase = 0
        ∧ a.fa.pd.hrSink = false ∧ a.fa.pd.mute = false ∧ a.fa.pd.hrSending = false ∧ a.fa.pd.hrCount ≠ 3
        ∧ a.fa.ct.prole = true ∧ a.fa.pd.capsSent = 0 ∧ a.fa.noSeq = true ∧ a.fa.ct.drole = true)
      ∧ (ready.takesF .a 0 ∧ ready.fa.cfg.auth = true ∧ ready.fa.ct.contract = true ∧ ready.fa.ct.authRun = false ∧ ready.onx.rngOk = true
        ∧ ready.fa.rev2 = false)
      ∧ (cable.takesF .a 0 ∧ cable.fa.fstate = .live ∧ cable.fa.ct.drole = true ∧ cable.fa.ct.vconnSrc = true
        ∧ cable.bit (fx .a 0x080) 1 = true ∧ cable.fa.cc.attached = true ∧ cable.fa.pd.pdEn = true ∧ cable.fa.noSeq = true)
      ∧ (snk.takesF .a 0 ∧ snk.fa.fstate = .live ∧ snk.fa.cc.attached = true ∧ snk.fa.ct.prole = false ∧ snk.fa.ct.srcCaps ≠ []
        ∧ (1 : Half).toNat % 8 ≠ 0 ∧ argPos (1 : Half).toNat ≤ snk.fa.ct.srcCaps.length
        ∧ snk.busAllows .a (snk.argObj .a (1 : Half).toNat) = true ∧ snk.gated .a = false) := by decide +kernel
theorem witness_FacetProtocolCommandsTakeEffect_more :
    let swaps := inContract fun f => withCt (fun c => { c with vconnSrc := true }) { f with cfg := { f.cfg with role := 2, auth := true } }
    let epr := inContract (withCt fun c => { c with epr := true })
    let sinkIn := sink (withCt fun c => { c with contract := true })
    (swaps.takesF .a 0 ∧ swaps.fa.fstate = .live ∧ swaps.prsAllowed .a = true ∧ swaps.vcsAllowed .a (swaps.raFound .a) = true
        ∧ swaps.fa.ct.contract = true ∧ swaps.fa.noSeq = true ∧ swaps.fa.ct.linkOn = false ∧ swaps.fa.cfg.auth = true
        ∧ swaps.fa.ct.authRun = false)
      ∧ (epr.takesF .a 0 ∧ epr.fa.fstate = .live ∧ epr.fa.noSeq = true ∧ epr.fa.ct.epr = true)
      ∧ (sinkIn.takesF .a 0 ∧ sinkIn.fa.fstate = .live ∧ sinkIn.fa.noSeq = true ∧ sinkIn.fa.cc.attached = true
        ∧ sinkIn.fa.ct.prole = false ∧ sinkIn.fa.ct.contract = true ∧ sinkIn.fa.ct.epr = false) := by decide +kernel
theorem witness_FacetProtocolCommandsTakeEffect_modes :
    let live := chained (withCt fun c => { c with partnerLink := true })
    let run := fun (r : AuthResult) => inContract (withCt fun c => { c with authRun := true, authX := { c.authX with result := some r } })
    let lnk := inContract (withCt fun c => { c with linkOn := true })
    (live.takesF .a 0 ∧ live.fa.fstate = .live ∧ live.fa.noSeq = true ∧ live.fa.ct.drole = true
        ∧ live.fa.ct.partnerLink = true ∧ live.fa.ct.linkOn = false ∧ live.fa.listsLink = true)
      ∧ (lnk.takesF .a 0 ∧ lnk.fa.fstate = .live ∧ lnk.fa.noSeq = true ∧ lnk.fa.ct.linkOn = true)
      ∧ ((run .passed).takesF .a 0 ∧ (run .passed).fa.fstate = .live ∧ (run .passed).fa.authIs .passed = true
        ∧ (run .passed).fa.authIs .failed = false) := by decide +kernel

/-- Facet A READY to apply the bank it runs with. -/
def staged (st : FState) (g : Facet → Facet) : State :=
  let s := source fun f => withRc (fun r => { r with phase := .ready, shadow := some ⟨{ f.cfg with present := true, role := 2 }, none, none, []⟩ }) (g f)
  { s with fa := { s.fa with fstate := st } }
theorem witness_ReconfigurationOpcodesTakeEffect :
    let c := staged .live (withCt fun c => { c with contract := true })
    let o := staged .off id
    (up.takesF .a 0 ∧ up.fa.fstate = .off ∧ up.liveBusy = false ∧ up.fa.rc.offApply = false ∧ up.fa.rc.phase ≠ .ready)
      ∧ (c.takesF .a 0 ∧ c.fa.fstate = .live ∧ c.fa.rc.phase = .ready ∧ c.fa.rc.offApply = false ∧ c.applyRefuse .a = 0)
      ∧ (o.takesF .a 0 ∧ o.fa.fstate = .off ∧ o.applyRefuse .a = 0) := by decide +kernel
theorem witness_ReconfigurationIsRefused :
    let h := port fun f => { f with fstate := .held }
    let c := staged .live (withCt fun c => { c with contract := true, trans := true })
    let i := staged .live fun f => withPp (fun x => { x with ilimAct := true }) (withCt (fun c => { c with contract := true }) f)
    let b := staged .live id
    let w := { up with fb := withRc (fun r => { r with phase := .holding }) up.fb }
    (h.takesF .a 0 ∧ h.fa.fstate = .held) ∧ (up.takesF .a 0 ∧ up.fa.fstate = .off ∧ up.fa.rc.phase ≠ .ready)
      ∧ (b.otherBusy (some .a) = false ∧ w.otherBusy (some .a) = true)
      ∧ (b.takesF .a 0 ∧ b.fa.fstate = .live ∧ b.fa.rc.phase = .ready ∧ b.fa.rc.shadow.isSome = true ∧ b.fa.cc.attached = true
        ∧ b.fa.ct.contract = false)
      ∧ (c.takesF .a 0 ∧ c.fa.rc.phase = .ready ∧ c.fa.cc.attached = true ∧ c.fa.ct.contract = true ∧ c.fa.noSeq = false)
      ∧ (i.takesF .a 0 ∧ i.fa.rc.phase = .ready ∧ i.fa.cc.attached = true ∧ i.fa.ct.contract = true ∧ i.fa.noSeq = true
        ∧ i.fa.pp.ilimAct = true)
      ∧ (w.takesF .a 0 ∧ w.fa.fstate = .off ∧ w.liveBusy = true) := by decide +kernel
theorem witness_ReconfigurationIsRefused_late :
    let s := fun role link => staged .live fun f => withRc (fun r => { r with shadow := r.shadow.map fun b => { b with cfg := { b.cfg with role := role } } })
      (withCt (fun c => { c with contract := true, linkOn := link }) f)
    let z := fun role link => let u := s role link
      { u with fa := withRc (fun r => { r with shadow := some ⟨{ u.fa.cfg with present := true, role := role }, none, none, []⟩ }) u.fa }
    ((z 0 false).takesF .a 0 ∧ (z 0 false).applyRefuse .a = 5) ∧ (z 2 true).applyRefuse .a = 6
      ∧ (port (withRc fun r => { r with offApply := true })).fa.rc.offApply = true := by decide +kernel
theorem witness_ReconfigurationEnds :
    (up.on = true ∧ (port (withRc fun r => { r with phase := .preparing })).rcPhase (some .a) = .preparing)
      ∧ (hub fun h => { h with rc := { h.rc with phase := .holding } }).rcPhase none = .holding
      ∧ (port (withRc fun r => { r with offApply := true, shadow := some ⟨up.fa.cfg, none, none, []⟩ })).fa.rc.offApply = true := by decide +kernel
theorem witness_HubCommandsAreJudgedInOrder :
    up.on = true ∧ up.awaits = [] ∧ { up with awaits := [one] }.awaits ≠ [] ∧ hubRows.all (fun r => !r.2.2 256 && r.2.2 0) = true ∧ up.hub.epoch ≠ 1 ∧ up.hub.epoch = 0
      ∧ (let s := { up with mode := .safe }
         s.on = true ∧ s.hub.epoch = 0 ∧ s.hub.epPend = false ∧ s.mode ≠ .standby ∧ s.mode ≠ .run)
      ∧ (let s := hub fun h => { h with fstate := .held }
         s.takesH 0 ∧ { s with hub := { s.hub with fstate := .held } }.hub.fstate = .held)
      ∧ hubRows.any (fun r => decide (r.2.1 < 0x34)) = true ∧ hubRows.any (fun r => decide (0x50 ≤ r.2.1)) = true := by
  decide +kernel
theorem witness_ConverterCommandsTakeEffect :
    let s := { (hub fun h => { h with parallel := true }) with batOk := true }
    let t := hub (withCv1 .tripped)
    (up.takesH 0 ∧ { up with hub := { up.hub with fstate := .held } }.hub.fstate ≠ .live)
      ∧ (s.takesH 0 ∧ s.hub.fstate = .live ∧ s.hub.parallel = true ∧ s.batOk = true ∧ (s.cv .cv1).st = .off)
      ∧ (t.takesH 0 ∧ t.hub.fstate = .live ∧ t.hub.parallel = false ∧ (t.cv .cv1).st = .tripped ∧ t.batOk = false) := by
  decide +kernel
theorem witness_BatteryCommandsTakeEffect :
    let s := fun x => hub (withBat fun b => { b with st := x })
    ((s .present).takesH 0 ∧ (s .present).hub.fstate = .live ∧ (s .present).hub.bat.st = .present
        ∧ (200 : Half).toNat ≤ 200 ∧ 200 < (201 : Half).toNat ∧ (201 : Half).toNat < 256)
      ∧ ((s .absent).takesH 0 ∧ (s .absent).hub.bat.st ≠ .present ∧ (s .absent).hub.bat.st ≠ .depleted
        ∧ (s .absent).hub.bat.st ≠ .fault ∧ (s .absent).hub.bat.phase ≠ .timeout)
      ∧ ((s .fault).takesH 0 ∧ (s .fault).hub.bat.st = .fault ∧ (s .fault).hub.bat.deep = false
        ∧ (s .fault).hub.bat.phase ≠ .timeout)
      ∧ (hub (withBat fun b => { b with phase := .timeout })).hub.bat.phase = .timeout
      ∧ (let c := (hub (withBat fun b => { b with phase := .cv, fcc := 1, qrem := 1000 * uAh })).setReg 0x08C6 0
         c.takesH 0 ∧ c.hub.bat.phase = .cv ∧ c.storeSoc ≤ c.hub.bat.soc) := by decide +kernel
theorem witness_HubReconfigurationTakesEffect :
    let s := hub id
    let r := hub fun h => { h with rc := { h.rc with phase := .ready, shadow := some ⟨h.prio, h.parallel, []⟩ } }
    (s.takesH 0 ∧ s.hub.fstate = .live ∧ s.liveBusy = false ∧ s.hub.rc.phase ≠ .ready)
      ∧ (r.takesH 0 ∧ r.hub.fstate = .live ∧ r.hubRefuse 0x31 = 0 ∧ r.hub.rc.phase = .ready) := by decide +kernel
theorem witness_ConvertersStartAndTrip :
    let g := hub (withCv1 .starting)
    (g.on = true ∧ (g.cv .cv1).st = .starting ∧ (g.cv .cv1).clampOff = false)
      ∧ (let a := { g with cycles := 96000000, nextTick := 96096000 }
         a.slews .cv1 = false ∧ 98 * a.vsetMv .cv1 ≤ 100 * a.vsetMv .cv1 ∧ 100 * a.vsetMv .cv1 ≤ 102 * a.vsetMv .cv1
           ∧ a.startLimit .cv1 ≤ a.nextTick ∧ (a.cv .cv1).startAt + 960000 < a.cycles)
      ∧ 16 ≤ ((hub fun h => { h with cv1 := { h.cv1 with st := .regulating, peaks := 16 } }).cv .cv1).peaks := by decide +kernel
theorem witness_PwmBoundariesTakeShadows :
    let c := hub (withCv1 .regulating)
    let g := hub fun h => { h with en0 := true, run0 := 0x0003BB80 }
    let e := hub fun h => { h with en1 := true, run1 := 0x0000FFFF }
    (c.on = true ∧ c.hub.frozen = false ∧ c.hub.chanRuns (.cv .cv1) = true ∧ c.boundaryAt (.cv .cv1) ≤ c.nextTick
        ∧ (Conv.cv1 = .cv1 ∨ c.hub.parallel = false))
      ∧ ({ g with nextTick := 1000000 }.hub.chanRuns .gpwm0 = true ∧ g.boundaryAt .gpwm0 ≤ { g with nextTick := 1000000 }.nextTick ∧ g.wf = true)
      ∧ (e.hub.chanRuns .gpwm1 = true ∧ e.hub.en0 = false ∧ e.boundaryAt .gpwm1 ≤ e.nextTick ∧ e.wf = true) ∧ up.hub.chanRuns .gpwm0 = false
      ∧ (hub fun h => { h with frozen := true }).hub.frozen = true := by decide +kernel
theorem witness_FeedsChangeOver :
    let s := hub fun h => { h with feed1 := { h.feed1 with cfg := 0x00800014, supplying := [1], gap := true } }
    (s.on = true ∧ s.supplies .nbus1 1 = true ∧ (s.feed .nbus1).gap = true)
      ∧ { (up.setReg 0x0884 1) with auxOk := true }.feedAvailable .nbus1 5 = true ∧ ((6 : BitVec 3) ≠ 0 ∧ (6 : BitVec 3) ≠ 7)
      ∧ (up.supplyingNow .nbus1 = [] ∧ (up.feed .nbus1).lost = false)
      ∧ ((s.feed .nbus1).priority = false ∧ s.hub.fstate ≠ .held) := by decide +kernel
theorem witness_CloseSequenceRuns :
    let x := fun g => port (withPp g)
    let s := fun w : SwState => x fun x => { x with sw := w, below := true, swCmd := true, swObs := true }
    let o := source (withPp fun x => { x with sw := .guardWait })
    ((s .guardWait).on = true ∧ (s .guardWait).fa.pp.sw = .guardWait ∧ (s .guardWait).energisedBelow .a = true
        ∧ (s .guardWait).fa.ct.prole = false ∧ (s .guardWait).otherFeed ((s .guardWait).busOf .a) (portNo .a + 1) = false)
      ∧ (o.fa.pp.sw = .guardWait ∧ o.energisedBelow .a = true ∧ o.fa.ct.prole = true)
      ∧ (Port.b ≠ .a ∧ (s .guardWait).fb.pp.sw ≠ .guardWait)
      ∧ ((s .ramping).fa.pp.sw = .ramping ∧ (s .ramping).fa.pp.swCmd = true ∧ (s .ramping).fa.pp.swObs = true)
      ∧ (let r := x fun x => { x with stallRun := true }
         r.on = true ∧ r.fa.pp.stallRun = true ∧ r.fa.pp.swObs = false) := by decide +kernel
theorem witness_CurrentLimitTripsAndRetries :
    let s := port (withPp fun x => { x with sw := .closed, timing := true, swObs := true })
    let h := { s with fa := { s.fa with fstate := .held } }
    let r := port fun f => withPp (fun x => { x with sw := .retryWait }) { f with fstate := .tripped }
    let d := port (withPp fun x => { x with sw := .regulating, timing := true, ftSince := some 0 })
    (s.on = true ∧ s.fa.pp.sw.conducts = true ∧ s.fa.pp.ilimAct = false ∧ s.fa.fstate = .live ∧ s.fa.pp.timing = true
        ∧ s.fa.pp.swObs = true)
      ∧ (h.on = true ∧ h.fa.fstate = .held ∧ h.fa.pp.sw.conducts = true ∧ h.fa.pp.ilimAct = false)
      ∧ (port (withPp fun x => { x with ilimAct := true })).fa.pp.ilimAct = true
      ∧ (let t := { r with fa := { r.fa with fstate := .tripped } }
         t.on = true ∧ t.fa.fstate = .tripped ∧ t.fa.pp.sw = .retryWait ∧ t.retryAt .a ≤ t.nextTick)
      ∧ (let e := { d with nextTick := 10 ^ 10 }
         e.on = true ∧ e.fa.pp.timing = true ∧ e.fa.pp.sw.conducts = true ∧ e.fa.pp.ftSince ≠ none
           ∧ ((e.faultDue .a (20 * 30)).all fun t => decide (t ≤ e.nextTick)) = true ∧ (e.faultDue .a (20 * 30)).isSome = true) := by decide +kernel
theorem witness_PowerPathEventsAct :
    let g := port (withPp fun x => { x with swObs := true, swCmd := true, pg := true, revblk := true, disch := .strong })
    let k := sink (withPp fun x => { x with sw := .closed })
    (up.on = true ∧ (source (withPp fun x => { x with swObs := true })).fa.pp.pg = false
        ∧ (source (withPp fun x => { x with swObs := true })).fa.fstate ≠ .held ∧ (source id).fa.ct.trans = false
        ∧ (source id).fa.window 5000 = true ∧ (source id).fa.window 4000 = false)
      ∧ (g.on = true ∧ g.fa.fstate ≠ .held ∧ g.fa.ct.trans = false ∧ g.fa.window 4000 = false ∧ g.fa.pp.pg = true ∧ g.fa.pp.revblk = true ∧ g.fa.pp.disch = .strong)
      ∧ (let l := port (withPp fun x => { x with disch := .bleeder })
         l.on = true ∧ l.fa.pp.swCmd = false ∧ l.fa.partnerSourcing = false ∧ l.fa.pp.disch ≠ .off)
      ∧ (k.on = true ∧ k.fa.cc.attached = true ∧ k.fa.ct.prole = false ∧ k.fa.pp.sw.conducts = true) := by decide +kernel
/-- The spec's 4S pack at 4.10 V a cell with removal code `th` on monitor 0, PRESENT at 16 V in the normal band, with a feed on
NBUS1 and 50 W of its budget left. -/
def pack (th : Nat) : State :=
  let s := hub fun h => withBat (fun b => { b with st := .present, band := 3, ntcOk := true, fcc := 1000 })
    { h with feed1 := { h.feed1 with supplying := [1] } }
  ((((({ s with batOk := true, sense := { s.sense with bat := 16000 } }.setReg 0x08C0 (fw 0 1 ||| fw 3 4 ||| flag 6 true ||| fw 16 60
    ||| fw 23 5)).setReg 0x08C1 410).setReg 0x0400 (fw 0 0x42 ||| fw 8 4 ||| fw 11 1)).setReg 0x0401 (fw 8 th)).setReg 0x0883 100).setReg
    0x08CF 0
theorem witness_ChargePhasesChange :
    let s := fun x => hub (withBat fun b => { b with phase := x })
    ((pack 210).on = true ∧ (pack 210).chargeReady = some .cv1) ∧
      ((s .precharge).on = true ∧ (s .precharge).hub.bat.phase = .precharge) ∧ (s .cc).hub.bat.phase = .cc
      ∧ (s .cv).hub.bat.phase = .cv
      ∧ (let c := hub (withBat fun b => { b with phase := .cv, full := false, fcc := 1, qrem := 1000 * uAh })
         c.on = true ∧ c.hub.bat.phase = .cv ∧ c.hub.bat.full = false ∧ c.storeSoc ≤ c.hub.bat.soc)
      ∧ (hub fun h => { h with cv1 := { h.cv1 with charge := true } }).hub.cv1.charge = true
      ∧ (let l := { (pack 210) with nextTick := 10 ^ 14 }
         l.cells * l.preMv ≤ 12000 ∧ l.packVchg ≤ 16400 ∧ l.preLimit ≤ l.nextTick ∧ l.chgLimit ≤ l.nextTick ∧ 0 + 5760000000 ≤ l.nextTick)
      ∧ (hub (withBat fun b => { b with phase := .cv, cvLow := some 0 })).hub.bat.cvLow = some 0 := by decide +kernel
theorem witness_BatteryStatesChange :
    let s := fun x => hub (withBat fun b => { b with st := x })
    ((s .present).on = true ∧ (s .present).hub.bat.st ≠ .absent ∧ (s .present).hub.bat.st ≠ .unconfigured)
      ∧ (s .absent).hub.bat.st = .absent ∧ (s .qualifying).hub.bat.st = .qualifying ∧ (s .depleted).hub.bat.st = .depleted
      ∧ ((-41 : Int) < -40 ∧ (100 : Int) < 101) ∧ (s .absent).absentReading = false
      ∧ (let l := { hub (withBat fun b => { b with st := .present, requalify := true, goneT := 3, okSince := some 5, lowT := 16, highT := 16
                                                   ovT := 3, ntcT := 3, bandSeen := 6, bandT := 16 }) with nextTick := 10 ^ 9 }
         l.on = true ∧ l.hub.bat.requalify = true ∧ 3 ≤ l.hub.bat.goneT ∧ l.hub.bat.okSince = some 5 ∧ 5 + 192000000 ≤ l.nextTick
           ∧ 16 ≤ l.hub.bat.lowT ∧ 16 ≤ l.hub.bat.highT ∧ 3 ≤ l.hub.bat.ovT ∧ 3 ≤ l.hub.bat.ntcT ∧ (6 : BitVec 3) = l.hub.bat.bandSeen
           ∧ 16 ≤ l.hub.bat.bandT ∧ (6 : BitVec 3) ≠ l.hub.bat.band)
      ∧ (let c := (s .present).setReg 0x08C0 (fw 0 1 ||| fw 3 4)
         0 < c.cells * c.damageMv) := by decide +kernel
theorem witness_GaugeCountsAndLocksOut :
    let d := (hub (withBat fun b => { b with st := .depleted })).setReg 0x08C0 0x1000
    let g := (hub (withBat fun b => { b with st := .present, fcc := 1000, qrem := 500 })).setReg 0x08C4 1000
    (up.on = true ∧ up.mode ≠ .sentinel) ∧ (d.on = true ∧ d.hub.bat.st = .depleted ∧ d.noFeedInput = true ∧ d.bit 0x08C0 12 = true
        ∧ d.bow = false)
      ∧ (g.gaugePath = true ∧ g.hub.bat.sampleAt ≤ g.nextTick)
      ∧ (let m := { (hub (withBat fun b => { b with st := .present, restSince := some 0 })).setReg 0x08C8 1000 with nextTick := 10 ^ 12 }
         m.on = true ∧ m.gaugeOn = true ∧ m.mode ≠ .sentinel ∧ m.hub.bat.restSince = some 0 ∧ 0 + 691200000000 ≤ m.nextTick)
      ∧ (0 ≤ (g.hub.bat.qrem : Int) - 400 ∧ (g.hub.bat.qrem : Int) - 400 ≤ (g.hub.bat.part 1000 : Int))
      ∧ (let l := { (hub (withBat fun b => { b with lockoutLatch := true })) with auxOk := true }
         l.hub.bat.lockoutLatch = true ∧ l.noFeedInput = false) := by decide +kernel
theorem witness_CcRowsAct :
    let t := fun x => port fun f => withCc (fun c => { c with tc := x, ccDeb := true, pdDeb := true, tryDeb := true, rpDeb := true, vconnOn := true })
      { f with cfg := { f.cfg with role := 2 } }
    ((t .trySrc).ccMuted .a = false ∧ (source (withPd fun d => { d with bistCarrier := true })).ccMuted .a = true) ∧
    ((t .trySrc).on = true ∧ (t .trySrc).mode ≠ .sentinel ∧ (t .trySrc).fa.cc.ccDeb = true ∧ (t .trySrc).fa.cc.pdDeb = true
        ∧ (t .trySrc).fa.cc.tryDeb = true ∧ (t .trySrc).fa.cc.rpDeb = true ∧ (t .trySrc).fa.cc.tc = .trySrc
        ∧ (t .trySrc).fa.cc.tryDone = false ∧ (t .trySrc).fa.cc.vconnOn = true)
      ∧ (t .tryWaitSnk).fa.cc.tc = .tryWaitSnk
      ∧ ((t .unattachedSnk).on = true ∧ (t .unattachedSnk).fa.drp = true ∧ (t .unattachedSnk).fa.cc.tc = .unattachedSnk)
      ∧ (t .errorRecovery).fa.cc.tc = .errorRecovery
      ∧ ((sink id).on = true ∧ (sink id).vbusOk.get .a = false ∧ (sink id).fa.cc.tc = .attachedSnk) := by decide +kernel
theorem witness_CcRowsAct_pins : pinsBelow .a ⟨0, 0⟩ = true := by
  simp [pinsBelow, ccOvMv, ccTh]
theorem witness_HoldFreezesCc :
    { up with fa := { up.fa with fstate := .held } }.fa.fstate = .held ∧ CcTimer.supply ≠ .drpPhase
      ∧ CcTimer.supply ≠ .pdDebounce ∧ up.fa.cc.pdDeb = false
      ∧ (withCc (fun c => { c with pdDeb := true }) up.fa).cc.pdDeb = true := by decide +kernel
theorem witness_ReceivedMessagesAreHandled :
    IsRxRow .acceptRx
      ∧ (up.on = true ∧ (up.facet .a).cc.attached = false)
      ∧ (let s := source (withPd fun d => { d with rxId := d.rxId.set .sop 3, rxSeen := d.rxSeen.set .sop true })
         s.on = true ∧ s.receives .a .sop = true ∧ (ctl 3 2).rev ≠ 0 ∧ { ctl 3 2 with hdr := 3 }.rev = 0
          ∧ (let n := ((s.hush .a).noteMsg .a (ctl 3 2)).discardQueued .a .sop
             n.fa.pd.repeats .sop 2 = false ∧ n.fa.pd.bistData = false ∧ (ctl 3 2).id = 2 ∧ (ctl 3 2).sop = .sop)
          ∧ (let n := ((s.hush .a).noteMsg .a (ctl 3 3)).discardQueued .a .sop
             n.fa.pd.repeats .sop 3 = true ∧ (ctl 3 3).id = 3 ∧ rxKind (ctl 3 3) ≠ .softReset))
      ∧ (source (withPd fun d => { d with bistData := true })).fa.pd.bistData = true
      ∧ { (source id) with fa := { (source id).fa with fstate := .held } }.fa.fstate = .held
      ∧ up.receives .a .sop = false := by
  refine ⟨?_, ?_⟩
  · simp [IsRxRow]
  · decide +kernel
theorem witness_KeeperAnswersInAHold :
    let held := fun d => port fun f => withRc (fun r => { r with deferred := d }) { f with fstate := .held }
    (ctl 3 0).sop = .sop ∧ rxKind (dat 2 0 [0x1304B12C#32]) = .request ∧ rxKind (ctl 13 0) = .softReset
      ∧ ((held (some (ctl 13 0))).fa.rc.deferred = some (ctl 13 0) ∧ rxKind (ctl 7 1) ≠ .request ∧ rxKind (ctl 7 1) ≠ .softReset
        ∧ needsAnswer (ctl 7 1) = true ∧ (held none).fa.rc.deferred = none
        ∧ (held (some (ctl 8 0))).fa.rc.deferred = some (ctl 8 0) ∧ rxKind (ctl 8 0) ≠ .softReset)
      ∧ (rxKind (ctl 3 0) ≠ .request ∧ rxKind (ctl 3 0) ≠ .softReset ∧ needsAnswer (ctl 3 0) = false)
      ∧ { ctl 3 0 with sop := .sopP }.sop ≠ .sop := by decide +kernel
theorem witness_PdTransmissionProceeds :
    let m := mkCtl .sop 3
    let s := source (withPd fun d => { d with inFlight := some m })
    (s.on = true ∧ s.fa.pd.inFlight = some m ∧ s.fa.isolated = false ∧ s.fa.pd.hrSending = false ∧ m.resends < (if s.fa.rev2 then 3 else 2) ∧ m.sop ≠ .sopP)
      ∧ (s.fa.cc.attached = true ∧ s.fa.pd.pdEn = true)
      ∧ (source (withPd fun d => { d with fwAwait := true })).fa.pd.fwAwait = true
      ∧ (source (withPd fun d => { d with chunkTx := some m })).fa.pd.chunkTx.isSome = true
      ∧ (source (withPd fun d => { d with bistCarrier := true })).fa.pd.bistCarrier = true := by decide +kernel
theorem witness_HardResetProceeds :
    let h := fun k => source (withPd fun d => { d with hrPhase := k })
    ((h 0).on = true ∧ (h 0).fa.cc.attached = true ∧ (h 0).fa.pd.pdEn = true ∧ (h 0).fa.fstate ≠ .held ∧ (h 0).fa.isolated = false
        ∧ (h 0).frsArmed .a = false ∧ { (h 0) with fa := { (h 0).fa with fstate := .held } }.fa.fstate = .held)
      ∧ (h 1).fa.pd.hrPhase = 1 ∧ (h 2).fa.pd.hrPhase = 2
      ∧ (source (withPd fun d => { d with hrSending := true })).fa.pd.hrSending = true
      ∧ (let k := { (sink (withPd fun d => { d with hrSink := true })) with vbusOk := .all true }
         k.on = true ∧ k.fa.pd.hrSink = true ∧ k.vbusOk.get .a = true) := by decide +kernel
theorem witness_PdTimersAct :
    let r : Req := ⟨1, false, false, 5000, 300, 0x1304B12C⟩
    let v := sink (withPd fun d => { d with seq := .snkSelect })
    let q := fun x => source (withPd fun d => { d with seq := x, txWait := true })
    ((q .softReset).on = true ∧ (q .softReset).fa.pd.seq = .softReset ∧ (q .none).fa.pd.seq ≠ .softReset
        ∧ (source (withPd fun d => { d with srCable := some .sopP })).fa.pd.srCable.isSome = true ∧ (q .none).fa.pd.txWait = true)
      ∧ (source (withPp fun x => { x with sw := .closed })).capsDue .a = true
      ∧ ((q .snkSelect).fa.pd.seq = .snkSelect ∧ (q (.snkRetry r)).fa.pd.seq = .snkRetry r ∧ (q (.snkAccepted r)).fa.pd.seq = .snkAccepted r
        ∧ (q (.srcWait r)).fa.pd.seq = .srcWait r ∧ (q (.srcRamp r)).fa.pd.seq = .srcRamp r
        ∧ (q (.srcRamp r)).hasSettled .a r 5000 = true ∧ v.fa.pd.seq = .snkSelect ∧ v.busAllows5 .a = true)
      ∧ (let p := source (withCt fun c => { c with contract := true, now := { r with pps := true }, epr := true })
         p.on = true ∧ p.fa.ct.prole = true ∧ p.fa.ct.contract = true ∧ p.fa.ct.now.pps = true ∧ p.fa.ct.epr = true)
      ∧ ((sink (withCt fun c => { c with epr := true })).fa.ct.epr = true ∧ (sink id).fa.ct.prole = false ∧ (sink id).fa.ct.srcCaps = [])
      ∧ ((source (withCt fun c => { c with vconnSrc := true })).setReg (fx .a 0x080) 2).cableOpen .a = true
      ∧ ((q (.prs .srcWait)).fa.pd.seq = .prs .srcWait ∧ (q (.prs .srcOff)).fa.pd.seq = .prs .srcOff
        ∧ (q (.prs .snkWait)).fa.pd.seq = .prs .snkWait ∧ (q (.vcs .waitPsRdy)).fa.pd.seq = .vcs .waitPsRdy
        ∧ (q (.frs .recognised)).fa.pd.seq = .frs .recognised) := by decide +kernel
theorem witness_MonitorsFollowTheirNets :
    let s := up.setReg 0x0400 (fw 0 0x42 ||| fw 11 1 ||| flag 16 true ||| flag 17 true)
    (s.on = true ∧ s.mode ≠ .sentinel ∧ s.wmOn 0 true = true ∧ s.wmOn 0 false = true ∧ s.wmSettling 0 true = false ∧ s.wmGrade 0 ≠ 5
        ∧ s.wmOut 0 true ≠ true ∧ s.wmMay 0 true true 30000000 = true ∧ s.wmShows 0 true true 30000000 = true)
      ∧ (let z := { (up.setReg 0x0400 (fw 0 0x42 ||| fw 11 5)) with mon := { latchAt := 100, latches := 1 } }
         z.wmGrade 0 = 5 ∧ z.latching 0 = true ∧ z.burst = none ∧ z.wmShows 0 true false 0 = true ∧ z.wmShows 0 false false 0 = true)
      ∧ { up with wmSetHi := 1 }.wmSettling 0 true = true := by decide +kernel
theorem witness_FaultUnitsAnswer :
    let s := { up with flt0 := { up.flt0 with seq := 3, pend := 1, windows := [⟨0x40, 1, 0⟩] } }
    (s.on = true ∧ (0x80000001 : Word).getLsbD 31 = true ∧ fld (0x00030001 : Word) 16 8 = (s.flt 0).seq.toNat)
      ∧ ((0x00020001 : Word).getLsbD 31 = false ∧ fld (0x00020001 : Word) 16 8 ≠ (s.flt 0).seq.toNat)
      ∧ s.windowOver 0 0x40 = true := by decide +kernel
theorem witness_AdcRowsAct :
    let s := fun (g : Adc → Adc) => { up with adc := g up.adc }
    ((s fun a => { a with running := true }).on = true ∧ (s fun a => { a with running := true }).adc.running = true)
      ∧ (let u := s fun a => { a with running := true, cStart := 1 }
         u.adc.running = true ∧ u.adc.settle.1 ≠ 0 ∧ u.adc.due ≤ u.nextTick)
      ∧ ((s fun a => { a with running := true }).adcMay 0 0 = true ∧ State.reset.imgAuth = false ∧ up.imgAuth = true)
      ∧ (up.adc.running = false ∧ up.adc.armed = false ∧ up.adc.mode ≠ 2) ∧ (s fun a => { a with mode := 2 }).adc.mode = 2
      ∧ (s fun a => { a with fifo := List.replicate 64 ⟨1, 2⟩ }).adc.fifo.length ≤ 64
      ∧ (s fun a => { a with fifo := List.replicate 62 ⟨1, 2⟩ }).adc.fifo.length < 63 ∧ up.adc.fifo = [] := by decide +kernel
theorem witness_LoaderCommandsAct :
    let r := { up with ldr := { up.ldr with cmd := some ⟨.erase, 1, 0, .service⟩ } }
    let b := port (withRc fun r => { r with phase := .preparing })
    (r.on = true ∧ r.ldr.cmd.isSome = true) ∧ (b.on = true ∧ b.ldr.cmd = none ∧ b.ldr.waiting = none ∧ b.liveBusy = true)
      ∧ (up.on = true ∧ up.ldr.cmd = none ∧ up.ldr.waiting = none ∧ up.liveBusy = false ∧ up.mode = .run)
      ∧ ((3 : Half).toNat % 4 = 3 ∧ ¬ (24 : Half).toNat < 24)
      ∧ ((1 : Half).toNat % 4 ≠ 3 ∧ (22 : Half).toNat % 4 ≠ 3 ∧ (22 : Half).toNat < 24)
      ∧ (State.reset.mode ≠ .standby ∧ State.reset.mode ≠ .run ∧ State.reset.mode ≠ .safe ∧ State.reset.liveBusy = false)
      ∧ (ldrOpOf 1 = some .erase ∧ up.cfgRefused .erase 1 0 .service = false ∧ up.cfgRefused .closeWrite 1 0 .service = true)
      ∧ up.ldr.session = none := by decide +kernel
theorem witness_NvmRowsAct :
    let s := fun (g : Nvm → Nvm) => { up with nvm := g up.nvm }
    (up.on = true ∧ up.mode = .run ∧ up.nvm.flushing = false ∧ up.nvm.buf = none ∧ (0xE100 : Half).toNat = 0xE100)
      ∧ (s fun n => { n with ops := [.flush none] }).nvm.flushing = true
      ∧ (s fun n => { n with buf := some (0xE10000, List.replicate 256 0) }).nvm.buf.isSome = true
      ∧ (s fun n => { n with ops := [.gauge] }).nvm.ops = .gauge :: []
      ∧ up.winAddr 0 < userBase ∧ (State.reset.mode = .boot ∧ (up.reg 0x0020).toNat % 8 = 0)
      ∧ (hub (withBat fun b => { b with st := .present })).hub.bat.st ≠ .unconfigured := by decide +kernel
/-- Bank 0x70 with the buffer as given: window word 0x4000 is the first of the user area. -/
def window (b : Option (Nat × List Byte)) : State := { up with nvm := { up.nvm with buf := b } }.setReg 0x0600 0x70
theorem witness_WindowGoesThroughTheBuffer :
    let page : List Byte := List.replicate 256 7
    userBase ≤ (window none).winAddr 0x4000 ∧ (window none).nvm.flushing = false ∧ (window none).nvm.buf = none
      ∧ (window (some (0xE100, page))).nvm.buf = some ((window none).winAddr 0x4000 / 256, page) ∧ page.length = 256
      ∧ (window (some (0xE101, page))).nvm.buf = some (0xE101, page) ∧ 0xE101 ≠ (window none).winAddr 0x4000 / 256 := by
  decide +kernel
theorem witness_OnyxCommandsAct :
    let o := fun (g : Onx → Onx) => { up with onx := g up.onx }
    IsOnyxRow (.onxRelease, .release) ∧ (up.on = true ∧ up.onx.owner = none ∧ up.onx.cmd = none)
      ∧ (o fun x => { x with owner := some .service }).onx.owner = some .service ∧ Master.service ≠ .lapidary
      ∧ (o fun x => { x with cmd := some ⟨.challenge, 0, .service⟩ }).onx.cmd.isSome = true
      ∧ (onxArgOk .release 1 = false ∧ onxArgOk .release 0 = true ∧ onxArgOk .ctrInc 40 = true)
      ∧ (State.reset.on = true ∧ State.reset.mode ≠ .standby ∧ State.reset.mode ≠ .run ∧ State.reset.mode ≠ .safe)
      ∧ up.mode = .run := by
  refine ⟨?_, ?_⟩
  · simp [IsOnyxRow]
  · decide +kernel
theorem witness_OnyxCommandsAct_judged :
    let mine := { up with onx := { up.onx with owner := some .service, rngOk := true, counters := [(8, 1)] } }
    mine.onxPre .jrnAttest 0 = false ∧ (mine.onxPre .release 0 = true ∧ mine.onxAuth .release 0 .service = true)
      ∧ (mine.onxPre .challenge 0 = true ∧ mine.onxAuth .challenge 0 .service = true)
      ∧ (mine.onxPre .debugUnlock 0 = true ∧ mine.onxAuth .debugUnlock 0 .service = false) := by decide +kernel
theorem witness_OnyxEventsAct :
    let s := { up with onx := { up.onx with cmd := some ⟨.challenge, 0, .service⟩, owner := some .lapidary, nonce := some [1]
                                            grant := some ⟨1, 0, .service⟩, lockout := true, rngOk := true } }
    (s.on = true ∧ s.onx.cmd = some ⟨.challenge, 0, .service⟩ ∧ s.onx.owner = some .lapidary ∧ Master.lapidary ≠ .service
        ∧ { s with nextTick := 10 ^ 10 }.onx.nonceAt + 5760000000 ≤ { s with nextTick := 10 ^ 10 }.nextTick
        ∧ s.onx.grantAt + 960000000 ≤ 10 ^ 10 ∧ s.onx.lockAt + 5760000000 ≤ 10 ^ 10 ∧ s.onx.ownerAt + 9600000 ≤ 10 ^ 10
        ∧ s.onx.rngOk = true ∧ s.onx.nonce.isSome = true ∧ s.onx.grant.isSome = true ∧ s.onx.lockout = true)
      ∧ (let t := { up with onx := { up.onx with rngOk := false, selfTest := true } }
         t.on = true ∧ t.onx.rngOk = false ∧ t.onx.selfTest = true ∧ t.onx.owner = none ∧ t.onx.cmd = none) := by decide +kernel
/-- Lapidary running from its SRAM, which holds `l` at offset 0. -/
def core (l : List Byte) (g : Lap → Lap) : State :=
  { up with lap := g { up.lap with run := .running, pc := 0x10000000, sram := spPutAll (fun _ => (0 : Byte)) up.lap.sram 0 l } }
theorem witness_LapidaryRowsAct :
    let s := core [] id
    let d := { (core [] fun l => { l with run := .halted }) with onx := { up.onx with dbgEn := true } }
    let b := core [0x73, 0, 0x10, 0] id
    (s.on = true ∧ s.mode ≠ .standby ∧ s.mode ≠ .sentinel ∧ s.lap.run = .running ∧ s.wf = true) ∧ b.lapInterrupt.atEbreak = true
      ∧ ((0x0812 : Half).toNat ∉ [0x0811, 0x0813, 0x0821, 0x0823, 0x08C1, 0x08C3, 0x08C5, 0x1141, 0x1541, 0x1941, 0x1D41]) ∧ (d.on = true ∧ d.halted = true ∧ d.onx.dbgEn = true)
      ∧ ((s.setReg 0x0705 5).lap.run = .running ∧ ({ s with lap := { s.lap with wdCount := 5 } }.setReg 0x0705 5).wdDue = true)
      ∧ { up with ldr := { up.ldr with reload := true } }.ldr.reload = true ∧ (up.setReg 0x0710 0x04000000).timerDue 0 = true
      ∧ (0x1D41 : Half).toNat ∈ [0x0811, 0x1D41] := by decide +kernel
theorem witness_EventQueueReadTakesTheOldest :
    up.on = true ∧ { up with q0 := { up.q0 with ents := [(5, 6)] } }.q0.ents = (5, 6) :: [] ∧ (up.evq 0).ents = [] ∧ (1 : Fin 5) ≠ 0 := by
  decide +kernel
theorem witness_ServicePortRowsAct :
    let s := fun (g : Svc → Svc) => { up with svc := g up.svc }
    (up.on = true ∧ up.mode = .run ∧ (0x2000 : Half).toNat < 0x2100)
      ∧ ((s fun v => { v with tx := .started }).svc.tx = .started ∧ (s fun v => { v with tx := .index }).svc.tx = .index)
      ∧ ((s fun v => { v with tx := .data }).svc.fetched = none ∧ (s fun v => { v with tx := .data, fetched := some 1 }).svc.fetched.isSome = true)
      ∧ (s fun v => { v with busBusy := true }).svc.busBusy = true ∧ up.svc.tx = .idle
      ∧ ((0x01000050 : Word).getLsbD 24 = true ∧ up.goRefused 0x01000050 = false ∧ up.goRefused 0x0100003A = true)
      ∧ ((s fun v => { v with ctl := .running }).svc.ctl = .running ∧ (s fun v => { v with ctl := .lost }).svc.ctl = .lost)
      ∧ (up.mode ≠ .sentinel ∧ up.mode ≠ .safe) := by decide +kernel
theorem witness_LinkAndPinRowsAct :
    let s := fun g => port fun f => withLk g (withCt (fun c => { c with linkOn := true }) f)
    ((s id).on = true ∧ (s id).fa.lk.connAt + 24000 ≤ (s id).nextTick ∧ (s id).fa.ct.linkOn = true ∧ (s id).fa.lk.isolated = false ∧ (s id).fa.lk.linkUp = false
        ∧ (s id).fa.lk.brkWait = false ∧ (s id).fa.lk.txActive = false ∧ (s id).fa.lk.posted = false ∧ (s id).wf = true)
      ∧ ((s fun l => { l with isolated := true }).fa.lk.isolated = true ∧ (s fun l => { l with brkWait := true }).fa.lk.brkWait = true
        ∧ (s fun l => { l with txActive := true }).fa.lk.txActive = true)
      ∧ ((((s id).setReg (fx .a 0x203) (fw 20 16)).setReg (fx .a 0x204) 1).rxRing .a).fill ≠ 0
      ∧ (((s fun l => { l with linkUp := true }).setReg (fx .a 0x205) (fw 20 16)).setReg (fx .a 0x206) (fw 16 1)).txMayStart .a = true
      ∧ (up.gpioMoves 0 true = true ∧ (up.setReg 0x0109 1).vioOn = true) := by decide +kernel
theorem witness_UnmappedAccessesAreRecorded :
    up.on = true ∧ (0x0003 : Half).toNat < 0x2100 ∧ regRow 0x08D0 = none ∧ up.wf = true ∧ up.bit 0x0651 16 = false
      ∧ up.bit 0x064A 4 = true ∧ (up.clrReg 0x064A 0x10).bit 0x064A 4 = false := by decide +kernel
theorem witness_RegisterFieldsBehaveAsTheirCodes : up.wf = true ∧ up.hub.rc.phase ≠ .holding ∧ up.on = true ∧ (0x0402 : Nat) ≠ 0x0401 ∧ (0x0402 : Nat) ≠ 0x08CF := by decide +kernel
theorem witness_NvmRowsAct_scrub :
    { up with nvm := { up.nvm with age := [(3, 200000000000)], mem := [(0x30500, 1)] } }.scrubDue 3 5 = true := by decide +kernel
theorem witness_LapidaryInstructionsKeepTheirFrame :
    let s := core [0xB3, 0x81, 0x20, 0x00] id
    s.lap.xs.length = 31 ∧ s.lap.fetch = .got (.alu .add 3 1 2) 4 0x002081B3 ∧ s.lap.pc.getLsbD 0 = false ∧ s.lapIrq = false
      ∧ spWf (fun _ => (0 : Byte)) s.lap.sram = true := by decide +kernel
/-! ### Ill-formed commands -/

theorem test_wf_rp_level : wellFormed (.rpLevelWrite .service .a 3) = false ∧ wellFormed (.rpLevelWrite .service .a 2) = true := by decide +kernel
theorem test_wf_band : wellFormed (.bandChange 7) = false ∧ wellFormed (.bandChange 6) = true := by decide +kernel
theorem test_wf_feed : wellFormed (.feedLost .nbus1 0) = false ∧ wellFormed (.feedReturn .nbus1 7) = false
    ∧ wellFormed (.feedLost .nbus1 6) = true := by decide +kernel
theorem test_wf_source : wellFormed (.faultWindowClose 0 0x40) = false ∧ wellFormed (.faultWindowClose 0 0x8F) = true := by decide +kernel
theorem test_wf_scrub : wellFormed (.scrubStep 192 0) = false ∧ wellFormed (.scrubStep 191 0) = true := by decide +kernel
theorem test_wf_message : wellFormed (.acceptRx .a ⟨.sop, 0x1083, 0, []⟩) = false ∧ wellFormed (.acceptRx .a (ctl 3 0)) = true
    ∧ wellFormed (.firmwareMessageRx .a ⟨.sop, 0x8083, 261, []⟩) = false := by decide +kernel
theorem test_wf_link : wellFormed (.linkCharacterRx .a 0 false false false true) = false
    ∧ wellFormed (.linkCharacterRx .a 0 false true false true) = true := by decide +kernel
theorem test_wf_engine : wellFormed (.svcCArbitrationLost 1 9 false []) = false
    ∧ wellFormed (.svcCDone .done 17 (List.replicate 17 0)) = false ∧ wellFormed (.svcCArbitrationLost 3 5 false []) = true := by
  decide +kernel

/-- The table gives no row a word of its own, so no word spells a command. -/
theorem test_decode_none : decodeTableWord 32 0 = none ∧ decodeTableWord 8 0xFF = none := by decide +kernel

/-! ### The step, time and modes -/

/-- An empty queue: one cycle passes (log entry 2). -/
theorem test_idle : (match step up with | .next t => decide (t = { up with cycles := 1 }) | _ => false) = true := by decide +kernel
/-- R44's example: `FB_STATE` 0x2B, and `GO_OFF` at 0x2B after the epoch became 0x2C: `FB_CMD_STAT` reads 0x032C0002. -/
theorem test_example_stale :
    let s := after { up with fb := { up.fb with fstate := .live, epoch := 0x2C } } (.registerWrite .service 0x1401 0x0000022B)
    let t := afterIdle s
    s.reg 0x1402 = 0x03000000 ∧ s.awaits ≠ [] ∧ t.reg 0x1402 = 0x032C0002 ∧ t.fb.fstate = .live := by decide +kernel
/-- The example of the register map: facet B's first power-path register is 0x1540, facet D's 0x1D40. -/
theorem test_example_facet_base : fx .b 0x140 = 0x1540 ∧ fx .d 0x140 = 0x1D40 := by decide +kernel
/-- R26: 2.00 ms is written while 1.00 ms is in force; the boundary takes it. -/
theorem test_tick_cfg :
    let t := after up (.tickCfgWrite .lapidary 8)
    t.reg 0x0010 = 0x00000448 ∧ t.tickLength.reg 0x0010 = 0x00000808
      ∧ (after up (.tickCfgWrite .lapidary 33)).reg 0x0010 = 0x00000404 := by decide +kernel
/-- R28: a read of `GLB_TIME_LO` latches the high part. -/
theorem test_time_read : (after { up with cycles := 0x1_2345_0000_0000 } (.timeLoRead .service)).reg 0x0012 = 0x00012345 := by decide +kernel
/-- R28: TIME wraps to 0 and the wrap is counted. -/
theorem test_time_wrap :
    let s := { up with cycles := 2 ^ 48 - 5, nextTick := 2 ^ 48 + 100 }
    (after s .timeWrap).time = 0 ∧ (after s .timeWrap).wraps = 1 := by decide +kernel
/-- R41: a second change within 12 500 cycles makes the advance pend. -/
theorem test_epoch_pending :
    let s := port (withCc fun c => { c with attached := true })
    let t := after { s with fa := { s.fa with epLast := some 0 } } (.goOff .a 0 0 svc)
    t.fa.epPend = true ∧ t.fa.epoch = 0 ∧ (after { t with nextTick := 96000 } (.epochAdvance (some .a))).fa.epoch = 1
      ∧ (after { t with hub := { t.hub with epPend := true, epLast := some 0 } } (.epochAdvance none)).hub.epoch = 1 := by decide +kernel
/-- R330, R333: outputs freeze while `CLK` is stopped and leave the freeze once it resumes. -/
theorem test_clock :
    let t := after up .clockStop
    t.clkStopped = true ∧ t.hub.frozen = true ∧ (after t .clockLoss).clkStopped = false ∧ (after t .clockLoss).hub.frozen = false
      ∧ after t (.enterStandby .service 0) = t := by decide +kernel
/-- R50. -/
theorem test_standby : (after up (.enterStandby .service 0)).mode = .standby
    ∧ (after { up with mode := .standby } (.enterStandby .service 0)).reg 0x0102 = 0x03000203 := by decide +kernel
/-- R556: `ARG` is judged first. -/
theorem test_mode_arg : (after { up with mode := .boot } (.enterSafe .service 1)).reg 0x0102 = 0x03000103 := by decide +kernel
theorem test_enter_safe : (after up (.enterSafe .lapidary 0)).mode = .safe
    ∧ (after up (.enterSafe .lapidary 0)).gpio.released = 0xF := by decide +kernel
theorem test_soft_reboot : (after { up with cycles := 77, vbusOk := .all true } (.softReboot .lapidary 0)).mode = .boot
    ∧ (after { up with cycles := 77, vbusOk := .all true } (.softReboot .lapidary 0)).cycles = 0 := by decide +kernel
theorem test_safe_exit :
    let s := { up with mode := .safe, vbusOk := .all true, onx := { up.onx with grant := some ⟨1, 0, .service⟩ } }
    (after s (.safeExit .service 0)).mode = .boot ∧ (after s (.safeExit .service 0)).onx.grant = none
      ∧ (after s (.safeExit .lapidary 0)).reg 0x0102 = 0x02000603 := by decide +kernel
theorem test_power_on :
    let s := { up with mode := .cold }
    (after s (.supplyValid (.vbus .c) true)).vbusOk.c = true
      ∧ (after { s with batOk := true } (.powerOnResetRelease false)).mode = .boot ∧ after s (.powerOnResetRelease false) = s := by
  decide +kernel
/-- R359: the latch holds `BAT+` invalid. -/
theorem test_lockout_holds_bat :
    (after (hub (withBat fun b => { b with lockoutLatch := true })) (.supplyValid .bat true)).batOk = false
      ∧ (after up (.supplyValid .bat true)).batOk = true := by decide +kernel
theorem test_brown_out : (after up .brownOutWarning).bow = true ∧ (after { up with bow := true } .brownOutPor).mode = .cold
    ∧ (after { up with mode := .boot } .brownOutWarning).reg 0x0108 = 0x40 := by decide +kernel
/-- R29, R67: a wake adds `EST_CYCLES` to TIME; R63: entry ends with the calibration. -/
theorem test_sentinel :
    let s := { up with mode := .sentinel, lastWake := 1000, cycles := 1000, wakes := 65535 }.setReg 0x0013 107520
    let t := s.burstStart (.all ⟨0, 0⟩) (.all ⟨0, 0⟩)
    t.cycles = 108520 ∧ t.mode = .sentinel ∧ t.wakes = 65536 ∧ (after t (.sentinelCalibration 96500)).reg 0x0013 = 96500
      ∧ (after ({ up with batOk := true, sentEntry := .calibrating .service }.setReg 0x0103 100) (.sentinelEntryComplete 96000)).mode = .sentinel := by decide +kernel
theorem test_self_test : ((State.reset.bootCounted .done).enterSafe 4 0 0).mode = .safe
    ∧ ((State.reset.bootCounted .done).enterSafe 4 0 0).reg 0x0107 = 4 := by decide +kernel

/-! ### The floor -/

theorem test_port_floor :
    let t := after (port (withPp fun x => { x with swCmd := true, swObs := true, sw := .closed })) (.portHardOvercurrent .a 1200)
    t.fa.pp.floorLatch = true ∧ t.fa.pp.swCmd = false ∧ t.fa.fstate = .tripped ∧ t.fa.pp.tripCause = 3 := by decide +kernel
theorem test_thermal :
    let t := after (hub fun h => { h with cv1 := { h.cv1 with st := .regulating } }) (.dieThermalShutdown 166)
    t.tsd = true ∧ t.hub.cv1.st = .off := by decide +kernel
theorem test_clamps :
    let h := hub (withCv1 .regulating)
    (after h (.nbusOvervoltageClamp .nbus1)).hub.feed1.clamped = true ∧ (after h .batOvervoltageClamp).hub.cv2.legsOff = true
      ∧ (after (after h (.nbusOvervoltageClamp .nbus1)) (.overvoltageClampRelease (some .nbus1))).hub.feed1.clamped = false := by
  decide +kernel
/-- R331: on a frozen converter the peak comparator latches it off; otherwise the on-time ends and the action is counted. -/
theorem test_peak :
    (after (hub (withCv1 .regulating)) (.converterPeakCurrent .cv1)).hub.cv1.peaks = 1
      ∧ (after (hub fun h => { withCv1 .regulating h with frozen := true }) (.converterPeakCurrent .cv1)).hub.cv1.peakLatch = true := by
  decide +kernel

/-- Word 0 of each entry of an event queue, oldest first. -/
def evs (s : State) (q : Nat) : List Word := (s.evq q).ents.map (·.1)

/-! ### Facets, CC and attach -/

/-- GO_LIVE: a role 2 facet starts Unattached.SNK, its epoch advances, and STATE (1, LIVE) is posted at the new epoch. -/
theorem test_go_live :
    let s := { up with fa := { up.fa with cfg := { up.fa.cfg with present := true, role := 2 } } }
    let t := after s (.goLive .a 0 0 svc)
    t.fa.fstate = .live ∧ t.fa.cc.tc = .unattachedSnk ∧ t.fa.epoch = 1 ∧ evs t 0 = [0x00010112] := by decide +kernel
/-- R24: a latched leak refuses with HARDWARE (4). -/
theorem test_switch_on_leak :
    (after (port (withPp fun x => { x with leak := true })) (.switchOn .a 0 0 svc)).reg 0x1002 = 0x03000403 := by decide +kernel
theorem test_switch_off :
    let t := after (source (withPp fun x => { x with swCmd := true, sw := .closed, swObs := true })) (.switchOff .a 0 0 svc)
    t.fa.pp.swCmd = false ∧ t.fa.pp.sw = .open ∧ t.fa.epoch = 1 ∧ t.reg 0x1002 = 0x03010001 := by decide +kernel
/-- The token example's REPAIR: `FC_CMD` = 0x0000_4017 at epoch 0x17 goes to OFF and uses the grant up. -/
theorem test_example_repair :
    let s := { up with fc := { up.fc with fstate := .quarantined, epoch := 0x17, qRecord := true }
                       onx := { up.onx with grant := some ⟨2, 2, .service⟩ } }
    let t := afterIdle (after s (.registerWrite .service 0x1801 0x00004017))
    t.fc.fstate = .off ∧ t.onx.grant = none := by decide +kernel
/-- R43: a command of a mailbox reports master 2 in its mailbox, with the next sequence count. -/
theorem test_mailbox_result :
    let t := after (port id) (.goOff .a 7 0 .mailbox)
    t.m0.seq = 1 ∧ t.m0.res &&& 0xFF = 2 ∧ t.reg 0x1002 = 0 := by decide +kernel
/-- The attach example's 120.07 ms: Rd on CC1 and open on CC2, stable. -/
theorem test_example_attach :
    let s := port fun f => withPp (fun x => { x with below := true }) (withCc (fun c => { c with tc := .attachWaitSrc, ccDeb := true, lvl1 := 2, lvl2 := 0
                                                                                                 term := .rp })
      { f with cfg := { f.cfg with present := true, role := 2 } })
    let t := after s (.ccDebounceExpiry .a)
    t.fa.cc.tc = .attachedSrc ∧ t.fa.cc.attached = true ∧ t.fa.cc.orient = false ∧ t.fa.epoch = 1 ∧ evs t 0 = [0x00000110] := by
  decide +kernel
/-- R178: Rp seen by a sink starts tCCDebounce. -/
theorem test_attach_wait :
    let s := port fun f => withCc (fun c => { c with tc := .unattachedSnk, term := .rd, lvl1 := 5, lvl2 := 0 })
      { f with cfg := { f.cfg with present := true, role := 2 } }
    let t := s.ccEval .a
    t.fa.cc.tc = .attachWaitSnk ∧ t.fa.cc.ccDeb = true := by decide +kernel
/-- R187: an overcurrent turns VCONN off and latches it. -/
theorem test_vconn_overcurrent :
    let t := after (source (withCc fun c => { c with vconnOn := true })) (.vconnOvercurrent .a 350)
    t.fa.cc.vconnOn = false ∧ t.fa.cc.vconnOc = true := by decide +kernel

/-! ### USB Power Delivery -/

def req4 : Req := ⟨4, false, false, 20000, 300, 0x4304B12C⟩
/-- The transition example's last row: the GoodCRC of PS_RDY makes the contract, ARG 4, with TRANSITION 0 after it. -/
theorem test_example_contract :
    let m := { mkCtl .sop 6 with hdr := 0 }
    let s := source fun f => withCt (fun c => { c with trans := true })
      (withPd (fun d => { d with seq := .srcReady req4, inFlight := some m }) f)
    let t := after s (.goodcrcReceived .a .sop 0)
    t.fa.ct.contract = true ∧ t.fa.ct.trans = false ∧ t.fa.pd.txId.sop = 1 ∧ t.fa.epoch = 1
      ∧ evs t 0 = [0x00040113, 0x00000123] := by decide +kernel
/-- R243: Accept of a Request starts the wait for PS_RDY; R200: its GoodCRC carries the received MessageID. -/
theorem test_accept :
    let t := after (sink (withPd fun d => { d with seq := .snkRequested req4 })) (.acceptRx .a (ctl 3 5))
    t.fa.pd.seq = .snkAccepted req4 ∧ t.fa.pd.goodCrc = some (.sop, 5) ∧ t.fa.pd.rxId.sop = 5 ∧ t.fa.pd.rxSeen.sop = true := by decide +kernel
/-- R202: a repeated MessageID is acknowledged and not handled. -/
theorem test_duplicate :
    let s := sink (withPd fun d => { d with seq := .snkRequested req4, rxId := d.rxId.set .sop 5, rxSeen := d.rxSeen.set .sop true })
    let t := after s (.acceptRx .a (ctl 3 5))
    t.fa.pd.seq = .snkRequested req4 ∧ t.fa.pd.goodCrc = some (.sop, 5) := by decide +kernel
/-- R205: two resends at Revision 3.x, then the transmission has failed. -/
theorem test_resends :
    let s := fun k => source (withPd fun d => { d with inFlight := some { mkCtl .sop 3 with resends := k } })
    (after (s 1) (.goodcrcTimeout .a)).fa.pd.inFlight.map (·.resends) = some 2
      ∧ (after (s 2) (.goodcrcTimeout .a)).fa.pd.inFlight.map (·.typ) ≠ some 3 := by decide +kernel
/-- R127: the keeper answers a Request in a hold with Wait (0x0C). -/
theorem test_keeper_wait :
    let s := source id
    let t := after { s with fa := { s.fa with fstate := .held } } (.requestRx .a (dat 2 1 [0x4304B12C]))
    t.fa.pd.inFlight.map (·.typ) = some 0x0C ∧ t.fa.fstate = .held := by decide +kernel
/-- A Hard Reset received is told with ARG 1 (HARD_RESET, 0x22). -/
theorem test_hard_reset_rx :
    let t := after (source (withCt fun c => { c with contract := true })) (.hardResetRx .a)
    t.fa.ct.contract = false ∧ (evs t 0).any (fun w => decide (w &&& 0xFFFF00FF = 0x00010022)) = true := by decide +kernel
/-- R258: AUTH 0 is posted for an exchange that passes. -/
theorem test_auth :
    let t := after (source (withCt fun c => { c with contract := true, authRun := true, authX := { c.authX with result := some .passed } }))
      (.authComplete .a .passed)
    t.fa.ct.authed = true ∧ evs t 0 = [0x00000026] := by decide +kernel
/-- An unsupported message is answered with Not_Supported (0x10) at Revision 3.x. -/
theorem test_not_supported :
    (after (source id) (.unsupportedMessageRx .a (ctl 0x1F 2))).fa.pd.inFlight.map (·.typ) = some 0x10 := by decide +kernel

/-! ### Reconfiguration -/

/-- The worked example's release: LIVE again, epoch advanced, PHASE 4, `HOLD` 2600 µs. -/
theorem test_example_release :
    let f := up.fc
    let s := { up with cycles := 249600, nextTick := 288000
                       fc := { f with fstate := .held, epoch := 0x42, rc := { f.rc with phase := .holding, tables := true, start := 0 } } }
    let t := after s (.rcfgRelease (some .c) .pass)
    t.fc.fstate = .live ∧ t.fc.epoch = 0x43 ∧ t.fc.rc.phase = .applied ∧ t.fc.rc.holdUs = 2600 := by decide +kernel
/-- R130: a readback that does not match rolls back. -/
theorem test_mismatch_rolls_back :
    let f := up.fc
    let s := { up with fc := { f with fstate := .held, rc := { f.rc with phase := .holding } } }
    (after s (.rcfgRelease (some .c) .mismatch)).fc.rc.phase = .rolledBack := by decide +kernel

/-! ### The power path -/

/-- The close example: guard met, ramp, full enhancement, power-good with POWER_GOOD 1. -/
theorem test_close :
    let s := source (withPp fun x => { x with swCmd := true, sw := .guardWait, below := true })
    (after s (.guardMet .a)).fa.pp.sw = .ramping
      ∧ (let t := after (source (withPp fun x => { x with swCmd := true, sw := .ramping })) (.swObsRise .a)
         t.fa.pp.sw = .closed ∧ t.fa.pp.swObs = true)
      ∧ (let t := after (source (withPp fun x => { x with swCmd := true, sw := .closed, swObs := true })) (.powerGoodAssert .a 5000)
         t.fa.pp.pg = true ∧ evs t 0 = [0x00010015] ∧ t.reg 0x1145 &&& 0x20 = 0x20) := by decide +kernel
/-- The retry example: the trip after the third reclose exhausts the retries (`RETRIES` 3), one before it waits to reclose. -/
theorem test_example_retries :
    let s := fun n => (source (withPp fun x => { x with swCmd := true, sw := .regulating, swObs := true, timing := true, ftSince := some 0, retryUsed := n })).setReg
      0x1142 0x00851B14
    let s := fun n => { s n with nextTick := 10 ^ 10 }
    (after (s 2) (.faultTimerExpiry .a 600)).fa.pp.sw = .retryWait
      ∧ (let t := after (s 3) (.faultTimerExpiry .a 600)
         t.fa.pp.sw ≠ .retryWait ∧ t.fa.fstate = .tripped ∧ t.fa.pp.tripCause = 2 ∧ t.reg 0x1145 &&& 0x13 = 0x13) := by decide +kernel
/-- R291: a leak latches, with GATE_FAULT 1. -/
theorem test_leak :
    let t := after (port id) (.leak .a .gate)
    t.fa.pp.leak = true ∧ (evs t 0).any (fun w => decide (w = 0x00010019)) = true := by decide +kernel
/-- The changeover example: the loss of port B opens the gap. -/
theorem test_example_feed_lost :
    let s := hub fun h => { h with feed1 := { h.feed1 with cfg := 0x00800000 ||| fw 9 2 ||| fw 12 5 ||| fw 15 6 ||| 1, supplying := [2] } }
    let s := { s with auxOk := true }.setReg 0x0884 1
    let t := after s (.feedLost .nbus1 2)
    t.hub.feed1.gap = true ∧ 2 ∈ t.hub.feed1.lostFeeds := by decide +kernel

/-! ### Converters, PWM and the battery -/

/-- The lighting example: 250 Hz at 30 %: PERIOD 48 000, PRE 3, DUTY 14 400, taken at the boundary. -/
theorem test_example_gpwm :
    let s := ((hub fun h => { h with en0 := true }).setReg 0x0840 1).setReg 0x0842 14400
    let t := after { s with hub := { s.hub with per0 := some 0x0003BB80 } } (.pwmPeriodBoundary .gpwm0)
    t.hub.duty0 = 0x3840 ∧ t.hub.en0 = true := by decide +kernel
/-- R325: a code below 16 acts as 16, and the low side waits for the dead time after the high side. -/
theorem test_dead_time :
    deadTime 5 = 16 ∧ deadTime 200 = 200 ∧ legSwitches 299 300 16 16 = ⟨true, false⟩ ∧ legSwitches 315 300 16 16 = ⟨false, false⟩
      ∧ legSwitches 316 300 16 16 = ⟨false, true⟩ := by decide +kernel
/-- R326: an output is active for `DUTY` counts of its period: DUTY 0 never, DUTY ≥ PERIOD always. -/
theorem test_gpwm_pin :
    let s := fun (n : Nat) (d : Half) => (hub fun h => { h with en0 := true, run0 := 100, duty0 := d, gcnt0 := n }).gpwmPin false
    s 29 30 = some true ∧ s 30 30 = some false ∧ s 0 0 = some false ∧ s 99 100 = some true := by decide +kernel
/-- R158: a mailbox write that finds one not yet evaluated is lost, and sets `MBX_LOST` of its mailbox. -/
theorem test_mailbox_lost :
    let s := (port id).unitWrite .lapidary (some .a) 2 0 0 .mailbox false
    s.bit 0x0700 16 = false ∧ s.awaits.length = 1 ∧ (s.unitWrite .lapidary (some .a) 2 0 0 .mailbox false).bit 0x0700 16 = true := by
  decide +kernel
theorem test_cv_start :
    let s := { (hub id) with batOk := true }
    (after s (.cvRun 0 0 svc)).hub.cv1.st = .starting ∧ (after s (.cvRun 0 2 svc)).reg 0x0802 = 0x03000103
      ∧ (after (hub id) (.cvRun 0 0 svc)).reg 0x0802 = 0x03000503 := by decide +kernel
/-- R318: a trip posts CV_TRIP with the converter's number. -/
theorem test_cv_trip :
    let t := after (hub (withCv1 .regulating)) (.cvUndervoltageTrip .cv1)
    t.hub.cv1.st = .tripped ∧ 0x00000152 ∈ evs t 4 := by decide +kernel
/-- R344 at the edges of 103 to 106 % of 16.40 V: codes 206 and 212 are routed right, 205 and 213 are not. -/
theorem test_example_removal_code :
    (pack 206).wmRouted = true ∧ (pack 212).wmRouted = true ∧ (pack 205).wmRouted = false ∧ (pack 213).wmRouted = false := by
  decide +kernel
/-- The charge example: 3741 of 5800 mAh read 64.5 %, and the charge starts in CC. -/
theorem test_example_charge :
    ({ up.hub.bat with fcc := 5800, qrem := 3741 * 1000 * uAh }).soc = 129 ∧ (after (pack 210) .chargeStart).hub.bat.phase = .cc := by
  decide +kernel
/-- R350: 1 A for 100 µs of an empty battery leaves 0, and an invalid sample repeats the last. -/
theorem test_gauge :
    let s := fun q => (hub (withBat fun b => { b with st := .present, fcc := 1000, qrem := q, lastMa := 250 })).setReg 0x08C8 1000
    (after (s 5) (.gaugeSample 1000)).hub.bat.qrem = 0 ∧ (after (s (9600 * 10000000)) (.gaugeSample 16383)).hub.bat.qrem
      = 9600 * 10000000 - 9600 * 2500000 := by decide +kernel
theorem test_battery_clear :
    (after (hub (withBat fun b => { b with st := .fault })) (.batClear 0 0 svc)).hub.bat.st = .qualifying
      ∧ (after (hub (withBat fun b => { b with st := .fault, deep := true })) (.batClear 0 0 svc)).reg 0x0802 = 0x03000503 := by
  decide +kernel

/-! ### Monitors, ADC and faults -/

/-- The fault example: WM7 of facet B watches VBUS B, class 11 at level 1, `N` 5, `W` 20, reactions 1 1 1 2. -/
def failing (pend : Bool) (seq : Byte) (w : List Window) : State :=
  let s := { up with fb := { up.fb with fstate := .live, pp := { up.fb.pp with swCmd := true, sw := .closed, swObs := true, pg := true } } }
  let u := { s.flt1 with seq := seq, pend := if pend then 0x800 else 0, lvl := if pend then fw 22 3 else 0, windows := w }
  ({ s with flt1 := u, fltCfg := ⟨List.replicate 44 0 ++ [1, 1, 1, 2] ++ List.replicate 16 0, [⟨0x018F, 11, 1, 5, 20⟩]⟩ }.setReg 0x041C
    (fw 0 0x28 ||| fw 8 1 ||| fw 11 1 ||| flag 17 true)).setReg 0x041D (fw 8 26)
/-- Edge 1: `SEQ` 0x21, class 11 pending, FAULT with ARG 0x1B and WM_EDGE (7, high, rising) in queue 1, a window of count 1. -/
theorem test_example_fault_first :
    let t := after (failing false 0x20 []) (.wmComparatorEdge 7 true true 20000000)
    t.flt1.seq = 0x21 ∧ t.flt1.pend = 0x800 ∧ evs t 1 = [0x00670030, 0x001B0031] ∧ t.flt1.windows = [⟨0x8F, 1, 20⟩]
      ∧ t.fb.pp.swCmd = true := by decide +kernel
/-- Edge 5: promoted to L3, FAULT 0x3B, the window closed and the switch opened; facet B stays LIVE. -/
theorem test_example_fault_promoted :
    let t := after (failing false 0x24 [⟨0x8F, 4, 6⟩]) (.wmComparatorEdge 7 true true 20000000)
    t.flt1.seq = 0x25 ∧ t.flt1.windows = [] ∧ t.fb.pp.swCmd = false ∧ t.fb.fstate = .live
      ∧ t.flt1.hist.map (fun h => h.w0 &&& 0xFFFF) = [0x7B8F] ∧ 0x003B0031 ∈ evs t 1 := by decide +kernel
/-- Edge 6: pending at L3, so L3 by escalation, with no FAULT event. -/
theorem test_example_fault_escalated :
    let t := after (failing true 0x25 []) (.wmComparatorEdge 7 true true 20000000)
    t.flt1.seq = 0x26 ∧ t.flt1.hist.map (fun h => h.w0 &&& 0xFFFF) = [0xBB8F]
      ∧ (evs t 1).all (fun w => decide (w &&& 0xFF ≠ 0x31)) = true := by decide +kernel
/-- The acknowledgement 0x0021_0800 of the example, and one with an older `SEQ`. -/
theorem test_example_ack :
    (after (failing true 0x21 []) (.fltAck .service 1 0x00210800)).flt1.pend = 0
      ∧ (let t := after (failing true 0x21 []) (.fltAck .service 1 0x00200800)
         t.flt1.pend = 0x800 ∧ t.reg (unitBase 1) = 0x00080000) := by decide +kernel
/-- R407: the 20th boundary closes the window. -/
theorem test_window_close : (after (failing false 0x20 [⟨0x8F, 1, 0⟩]) (.faultWindowClose 1 0x8F)).flt1.windows = [] := by decide +kernel
theorem test_hist_read :
    let s := { up with flt0 := { up.flt0 with hist := [⟨5, 6⟩, ⟨7, 8⟩] } }
    (after s (.fltHistRead .service 0)).flt0.hist = [⟨7, 8⟩] ∧ (s.busRead .service (unitBase 0 + 6) false false).1 = 5 := by decide +kernel
/-- The foldback example: at 146 °C the 5.00 A asked of facet B come to 3.50 A, and `FB_CLAMP` reads 0x0001_0001. -/
theorem test_example_clamp :
    let s := ({ up with fb := { up.fb with fstate := .live } }.setReg 0x1541 100).setReg 0x1540 100
    let t := (s.measure { s.sense with tj := 146 }).envelopes.refreshAll.settle
    t.regView 0x1540 = 70 ∧ t.regView 0x1541 = 100 ∧ t.regView 0x1404 = 0x00010001 ∧ evs t 1 = [0x00000032] := by decide +kernel

/-- The ADC example's sequence: channel 0 at ×1, no filter, `COUNT` 4; channel 1 at ×4, average of 4, `COUNT` 6, `LAST`. -/
def sequence (g : Adc → Adc) : State := ((up.setReg 0x0508 4).setReg 0x0509 (0x80000001 ||| 0)).setReg 0x0500 1 |> fun s => { s with adc := g s.adc }
theorem test_adc_start_missed :
    (after (sequence fun a => { a with running := true }) (.adcStart .service)).reg 0x0502 = 4
      ∧ (after (sequence id) (.adcStart .service)).adc.running = true ∧ (after (sequence id) (.adcStart .service)).adc.cStart > 0 := by
  decide +kernel
/-- R398: 63 entries are held; the next result becomes a GAP entry with `REASON` 7. -/
theorem test_adc_gap :
    let s := sequence fun a => { a with running := true, left := 3, fifo := List.replicate 63 ⟨0, 0⟩ }
    (after s (.adcResult 100 false 1500000)).adc.fifo.map (fun e => fld e.w0 13 3) = List.replicate 63 0 ++ [7] := by decide +kernel
theorem test_adc_pop :
    let s := { up with adc := { up.adc with fifo := [⟨1, 2⟩, ⟨3, 4⟩] } }
    (after s (.adcFifoRead .service)).adc.fifo = [⟨3, 4⟩] ∧ (after s (.adcFifoRead .service)).adc.w1 = 2
      ∧ (s.busRead .service 0x0504 false false).1 = 1 := by decide +kernel

/-! ### Loader, NVM and Onyx -/

/-- The example's `CFG_CMD` = 0x000D_0200: OPEN_WRITE of area 3 of slot 1, and a write of `CFG_DATA` without a session. -/
theorem test_example_open_write :
    (after up (.registerWrite .service 0x0201 0x000D0200)).ldr.cmd = some ⟨.openWrite, 1, 3, .service⟩
      ∧ (after up (.cfgDataWrite .service 9)).bit 0x0651 16 = true := by decide +kernel
/-- The journal example: record 200 000 at 0xA4_5000 is window word 0x1400 of bank 0x52. -/
theorem test_example_window :
    let s := { up with nvm := { up.nvm with mem := [(0xA45000, 1), (0xA45001, 2), (0xA45003, 4)] } }.setReg 0x0600 0x52
    s.winAddr 0x1400 = 0xA45000 ∧ (s.busRead .service 0x9400 false false).1 = 0x04FF0201 := by decide +kernel
/-- R511: a window write lands in the buffer with the rest of its page; a write outside the user area is a bus error. -/
theorem test_window_write :
    (after (window none) (.nvmWindowWrite .service 0x4000 0x11223344)).nvm.buf = some (0xE100, [0x44, 0x33, 0x22, 0x11] ++ List.replicate 252 0xFF)
      ∧ (after up (.nvmWindowWrite .service 0 5)).bit 0x0651 16 = true := by decide +kernel
theorem test_flush :
    (after up (.flush .service 0)).reg 0x0603 = 0x03000503 ∧ (after (window (some (0xE100, List.replicate 256 1))) (.flush .service 0)).nvm.flushing = true
      ∧ (after (window (some (0xE100, []))) (.discard .service 0)).nvm.buf = none := by decide +kernel
/-- Another master's command is lost with `OWNER_ERR`; the owner's counter increment runs. -/
theorem test_onyx_owner :
    let s := { up with onx := { up.onx with owner := some .lapidary } }
    (after s (.ctrInc .service 40)).onx.cmd = none ∧ (after s (.ctrInc .service 40)).bit 0x0300 10 = true
      ∧ (after s (.ctrInc .lapidary 40)).onx.cmd = some ⟨.ctrInc, 40, .lapidary⟩
      ∧ (after s (.ctrInc .lapidary 8)).onx.cmd = none := by decide +kernel
/-- R433: the counter rises by 1 at the command's end. -/
theorem test_counter :
    let s := { up with onx := { up.onx with owner := some .service, cmd := some ⟨.ctrInc, 40, .service⟩, counters := [(40, 6)] } }
    (after s (.onyxCommandDone .done)).ctr 40 = 7 ∧ (after s (.onyxCommandDone .done)).reg 0x0302 = 0x03000001 := by decide +kernel
/-- A random word is read while the source is healthy, and 0 otherwise. -/
theorem test_rng :
    (after { up with onx := { up.onx with rngOk := true } } (.onxRngRead .service)).draws = up.draws + 1
      ∧ (up.busRead .service 0x0304 false false).1 = 0 := by decide +kernel

/-! ### Lapidary -/

/-- One instruction, written in its RISC-V encoding, with x1 and x2 as given. -/
def runs (bits : Word) (a b : Word) : State :=
  after (core (leBytes 4 bits.toNat) fun l => { l with xs := a :: b :: List.replicate 29 0 }) (.lapidaryInstruction false false)
/-- sub, sra, mulh, div, rem and divu x3, x1, x2, with the results RISC-V fixes at the corners. -/
theorem test_rv_arithmetic :
    (runs 0x402081B3 3 5).lap.x 3 = 0xFFFFFFFE ∧ (runs 0x4020D1B3 0x80000000 31).lap.x 3 = 0xFFFFFFFF
      ∧ (runs 0x022091B3 0xFFFFFFFF 2).lap.x 3 = 0xFFFFFFFF ∧ (runs 0x0220C1B3 0x80000000 0xFFFFFFFF).lap.x 3 = 0x80000000
      ∧ (runs 0x0220E1B3 7 0).lap.x 3 = 7 ∧ (runs 0x0220D1B3 7 0).lap.x 3 = 0xFFFFFFFF := by decide +kernel
/-- addi x1, x0, −1; lui x5, 0x12345; auipc x5, 1; jal x1, +8; beq x1, x2, +8 taken and not. -/
theorem test_rv_control :
    (runs 0xFFF00093 0 0).lap.x 1 = 0xFFFFFFFF ∧ (runs 0x123452B7 0 0).lap.x 5 = 0x12345000 ∧ (runs 0x00001297 0 0).lap.x 5 = 0x10001000
      ∧ (runs 0x008000EF 0 0).lap.pc = 0x10000008 ∧ (runs 0x008000EF 0 0).lap.x 1 = 0x10000004
      ∧ (runs 0x00208463 4 4).lap.pc = 0x10000008 ∧ (runs 0x00208463 4 5).lap.pc = 0x10000004 := by decide +kernel
/-- sw x2, 8(x1); lb x3, 0(x1) of its own first byte (0x83); csrrw x1, mscratch, x2. -/
theorem test_rv_memory :
    (runs 0x0020A423 0x10000000 0xAABBCCDD).lap.sramNum 8 4 = 0xAABBCCDD ∧ (runs 0x00008183 0x10000000 0).lap.x 3 = 0xFFFFFF83
      ∧ (runs 0x340110F3 9 6).lap.csr.mscratch = 6 ∧ (runs 0x340110F3 9 6).lap.x 1 = 0 := by decide +kernel
/-- c.addi x1, 1; c.li x1, −1; c.mv x3, x1; c.j +4: two bytes each. -/
theorem test_rv_compressed :
    (runs 0x0085 4 0).lap.x 1 = 5 ∧ (runs 0x0085 4 0).lap.pc = 0x10000002 ∧ (runs 0x50FD 4 0).lap.x 1 = 0xFFFFFFFF
      ∧ (runs 0x8186 4 0).lap.x 3 = 4 ∧ (runs 0xA011 4 0).lap.pc = 0x10000004 := by decide +kernel
/-- ecall traps with cause 11 and its address; mret returns; an all-zero word is illegal (cause 2); a misaligned load is cause 4. -/
theorem test_rv_traps :
    (runs 0x00000073 0 0).lap.csr.mcause = 11 ∧ (runs 0x00000073 0 0).lap.csr.mepc = 0x10000000 ∧ (runs 0 0 0).lap.csr.mcause = 2
      ∧ (runs 0x0000A183 0x10000002 0).lap.csr.mcause = 4
      ∧ (after (core [0x73, 0, 0x20, 0x30] fun l => { l with csr := { l.csr with mepc := 0x10000040, mstatus := 0x1880 } })
          (.lapidaryInstruction false false)).lap.pc = 0x10000040 := by decide +kernel
/-- R153: the oldest entry comes out and its word 1 is latched. -/
theorem test_event_queue :
    let s := { up with q2 := ⟨[(1, 2), (3, 4)], 9⟩ }
    (after s (.lapEvqRead .lapidary 2)).q2 = ⟨[(3, 4)], 2⟩ ∧ (s.busRead .lapidary 0x0728 false false).1 = 1 := by decide +kernel
theorem test_watchdog :
    let s := { (core [] id) with lap := { (core [] id).lap with wdCount := 5 } }.setReg 0x0705 5
    (after s .watchdogExpiry).lap.run = .reset ∧ (after s (.lapWdKick .lapidary 0x6B)).lap.wdCount = 0
      ∧ (after s (.lapWdKick .lapidary 0x6A)).lap.wdCount = 5 := by decide +kernel
theorem test_doorbell :
    (after up (.doorbellRing .service 7)).reg 0x0704 = 7 ∧ (after (up.setReg 0x0704 7) (.doorbellRing .service 0)).reg 0x0704 = 7
      ∧ (after (up.setReg 0x0704 7) (.lapDbCodeRead .lapidary)).reg 0x0704 = 0 := by decide +kernel

/-! ### Service port, chain link, pins and registers -/

/-- The I²C example's loss: byte 3, bit 5, on a transaction to 0x48 with `RETRY` 2. -/
theorem test_example_arbitration :
    let s := { up with svc := { up.svc with ctl := .running, ctlCmd := 0x01000348 } }.setReg 0x2002 10
    let t := after s (.svcCArbitrationLost 3 5 false [])
    fld (t.regView 0x2004) 16 5 = 3 ∧ fld (t.regView 0x2004) 21 4 = 5 ∧ t.svc.ctl = .lost := by decide +kernel
/-- Index bytes load the pointer, a word is written there, and the pointer moves on. -/
theorem test_service_write :
    (after { up with svc := { up.svc with tx := .started } } (.svcIndexBytes 0x0401)).svc.ptr = 0x0401
      ∧ (let t := after { up with svc := { up.svc with tx := .index, ptr := 0x0401 } } (.svcWordWrite 0x00001234)
         t.reg 0x0401 = 0x00001234 ∧ t.svc.ptr = 0x0402) := by decide +kernel
/-- `GO` to the port's own address is refused with a flag. -/
theorem test_go : (after up (.ctlGo .service 0x0100003A)).reg 0x2001 = 0x80 ∧ (after up (.ctlGo .service 0x01000048)).svc.ctl = .running := by
  decide +kernel
/-- A character lands in the receive ring: data and mark in two bytes, and WR moves on. -/
theorem test_link_rx :
    let s := (port fun f => withLk (fun l => { l with linkUp := true }) (withCt (fun c => { c with linkOn := true }) f)).setReg (fx .a 0x203) (fw 20 16)
    let t := after (s.setReg (fx .a 0x200) 1) (.linkCharacterRx .a 0x5A true false false false)
    t.lap.sramNum 0 1 = 0x5A ∧ fld (t.reg (fx .a 0x204)) 0 12 = 1 := by decide +kernel
theorem test_link_tx :
    let s := ((port fun f => withLk (fun l => { l with linkUp := true, txActive := true }) (withCt (fun c => { c with linkOn := true }) f)).setReg
      (fx .a 0x205) (fw 20 16)).setReg (fx .a 0x206) (fw 16 1)
    let t := after s (.linkCharacterTx .a)
    t.fa.lk.txActive = false ∧ evs t 0 = [0x00000041] := by decide +kernel
theorem test_vio : (after (up.setReg 0x0109 1) .vioOvercurrent).reg 0x0109 = 5 ∧ (after up .vioOvercurrent).reg 0x0109 = 0 := by decide +kernel
/-- R17: an unmapped index reads 0 and is captured: byte address 0x4000_2340, service port, write, cause. -/
theorem test_unmapped :
    let t := after up (.registerWrite .service 0x08D0 5)
    t.reg 0x0650 = 0x40002340 ∧ t.rf 0x0651 0 4 = 3 ∧ t.bit 0x0651 16 = true ∧ (up.busRead .service 0x08D0 false false).1 = 0 := by
  decide +kernel
/-- R6: a W1C flag is cleared by its 1 alone, an RO field is not written. -/
theorem test_register_codes :
    (after (up.setReg 0x0502 0xF) (.registerWrite .service 0x0502 5)).reg 0x0502 = 0xA
      ∧ (after up (.registerWrite .service 0x0000 0)).reg 0x0000 = 0x00014680
      ∧ (after up (.registerWrite .service 0x0006 0xDEADBEEF)).reg 0x0006 = 0xDEADBEEF := by decide +kernel

/-- The grant example: 60 W; A asks 45 W at priority 2, B 20 W and C 30 W at priority 1. B and C are granted, and A's request is
refused with 10 W of headroom and stays pending. -/
theorem test_example_grants :
    let s := { up with cycles := 1, hub := { up.hub with prio := ⟨2, 1, 1, 3⟩ }, fa := { up.fa with ct := { up.fa.ct with pending := 90 } }
                       fb := { up.fb with ct := { up.fb.ct with pending := 40 } }
                       fc := { up.fc with ct := { up.fc.ct with pending := 60 } } }.setReg 0x0883 120
    s.allocate.fb.ct.grant = 40 ∧ s.allocate.fc.ct.grant = 60 ∧ s.allocate.fa.ct.grant = 0 ∧ s.allocate.fa.ct.pending = 90
      ∧ s.allocate.posts.map (fun x => (x.q, x.arg)) = [(1, 161), (2, 41), (0, 40)] := by decide +kernel
/-- R26: a tick boundary of 1 ms follows one of 1 ms, and TIME stands at the boundary. -/
theorem test_tick : (up.tick up.sense).cycles = 96000 ∧ (up.tick up.sense).nextTick = 192000 := by
  decide +kernel
/-- The ledger's example: 15.6 mΩ at 85 °C is 11.94 mΩ at 25 °C, and against a BASE of 1080 its margin reads 78 (R544). -/
theorem test_example_ron : ronNorm 1560 85 = 1194 ∧ ronMargin 1194 1080 = 78 := by decide +kernel
/-- R542: a page cut while its scrub runs is read from the buffer. -/
theorem test_scrub_cut_reads :
    (({ State.reset with nvm := { State.reset.nvm with mem := [(0x30500, 1), (0x30503, 7)] } }).scrubCut 0x305).nvmBytes 0x30500 4
      = [1, 255, 255, 7] := by decide +kernel

end Sys2Proof.Tests
end

/-! ## Reads of the event queues -/

section
namespace Sys2Proof.Machine

variable (s : State)

theorem powered_of_on (u : State) (hon : s.on = true) : powered s u = done u := if_pos hon

/-! ### What a pop does -/

theorem State.evqPop_of_empty (q : Nat) (h : (s.evq q).ents = []) : s.evqPop q = s := by
  simp only [State.evqPop, h]

theorem State.evqPop_of_cons (q : Nat) (e : Word × Word) (l : List (Word × Word)) (h : (s.evq q).ents = e :: l) :
    s.evqPop q = s.setEvq q { ents := l, w1 := e.2 } := by
  simp only [State.evqPop, h]

theorem State.evq_evqPop_ne (q r : Nat) (hq : q < 5) (hr : r < 5) (h : r ≠ q) : (s.evqPop q).evq r = s.evq r := by
  cases hents : (s.evq q).ents with
  | nil => rw [s.evqPop_of_empty q hents]
  | cons e l => rw [s.evqPop_of_cons q e l hents, s.evq_setEvq_ne q r _ hq hr h]

/-! ### Where `LAP_EVQq_W0` lies in the register map -/

theorem unitOf_evqW0 (q : Fin 5) : unitOf (0x0720 + 4 * q) = none := by decide +revert

theorem facetOf_evqW0 (q : Fin 5) : facetOf (0x0720 + 4 * q) = none := by decide +revert

theorem writeOnly_evqW0 (q : Fin 5) : writeOnly (0x0720 + 4 * q) = false := by decide +revert

theorem regRow_evqW0_isSome (q : Fin 5) : (regRow (0x0720 + 4 * q)).isSome = true := by decide +revert

/-! ### What the fabric shows of it -/

/-- The word a read of `LAP_EVQq_W0` returns (R153). -/
theorem State.regView_evqW0 (q : Fin 5) :
    s.regView (0x0720 + 4 * q) = (match (s.evq q).ents with | [] => 0 | e :: _ => e.1) := by
  have hquot : (0x0720 + 4 * q.val - 0x0720) / 4 = q.val := by omega
  have hword : (0x0720 + 4 * q.val) % 4 = 0 := by omega
  have hlap : s.regView (0x0720 + 4 * q) = s.lapView (0x0720 + 4 * q) (s.baseView (0x0720 + 4 * q)) := by
    simp only [State.regView, unitOf_evqW0, facetOf_evqW0]
    rw [if_neg (by omega), if_neg (by omega), if_pos (by omega)]
  rw [hlap]
  unfold State.lapView
  rw [if_neg (by omega), if_pos (by omega)]
  simp only [hquot, hword]
  cases (s.evq q).ents <;> rfl

theorem State.readEffect_evqW0 (q : Fin 5) (rc : Word) : s.readEffect (0x0720 + 4 * q) rc = s.evqPop q := by
  unfold State.readEffect
  rw [if_pos (by omega), Nat.add_sub_cancel_left, Nat.mul_div_cancel_left _ (by decide)]

/-- A queue register is none of Onyx's, so the owner's timer does not see its access. -/
theorem State.onxSeen_evqW0 (m : Master) (q : Fin 5) : s.onxSeen m (0x0720 + 4 * q) = s := by
  have hout : ¬(0x0340 ≤ 0x0720 + 4 * q.val ∧ 0x0720 + 4 * q.val ≤ 0x037F ∨ 0x0720 + 4 * q.val = 0x0301) := by omega
  simp only [State.onxSeen, hout, decide_false, Bool.false_and, Bool.false_eq_true, if_false]

theorem State.busRead_evqW0 (m : Master) (q : Fin 5) (c u : Bool) :
    s.busRead m (0x0720 + 4 * q) c u = (match (s.evq q).ents with | [] => 0 | e :: _ => e.1, s.evqPop q) := by
  obtain ⟨row, hrow⟩ := Option.isSome_iff_exists.mp (regRow_evqW0_isSome q)
  rw [State.busRead, if_neg (by omega), if_neg (by omega), hrow]
  simp only [writeOnly_evqW0, Bool.false_eq_true, if_false]
  rw [if_neg (by omega), s.regView_evqW0, s.readEffect_evqW0, State.onxSeen_evqW0]

/-- Settles O56: the queue's register shows the oldest entry, its read is a pop, and a pop touches one queue. -/
theorem eventQueueReadTakesTheOldest : Obligations.EventQueueReadTakesTheOldest := by
  intro q m s hon
  refine ⟨powered_of_on s _ hon, s.busRead_evqW0 m q, fun e l h => ?taken, s.evqPop_of_empty q, fun r hr => ?others⟩
  case taken =>
    rw [s.evqPop_of_cons q e l h, s.evq_setEvq]
    exact ⟨rfl, rfl⟩
  case others => exact s.evq_evqPop_ne q r q.isLt r.isLt (Fin.val_ne_of_ne hr)

end Sys2Proof.Machine
end

/-! ## The converter opcodes (R319) -/

section
namespace Sys2Proof.Machine

variable (s : State)

/-! ### A converter under the updates of the hub -/

@[simp] theorem State.parallel_modHub (g : Hub → Hub) : (s.modHub g).hub.parallel = (g s.hub).parallel :=
  s.hub_modHub_keep Hub.parallel (fun h n => by rw [h.advance_rest n]) g

@[simp] theorem State.parallel_modCv (c : Conv) (g : Cv → Cv) : (s.modCv c g).hub.parallel = s.hub.parallel := by
  cases c <;> simp [State.modCv]

theorem State.cv_modCv_ne {c d : Conv} (h : c ≠ d) (g : Cv → Cv) : (s.modCv d g).cv c = s.cv c := by
  cases c <;> cases d <;> simp [State.modCv, State.cv] at h ⊢

/-- A projection that the change leaves in every converter. -/
theorem State.cv_modCv_keep {α : Sort*} (f : Cv → α) {g : Cv → Cv} (hg : ∀ v, f (g v) = f v) (c d : Conv) :
    f ((s.modCv d g).cv c) = f (s.cv c) := by
  by_cases h : c = d
  · rw [h, s.cv_modCv, hg]
  · rw [s.cv_modCv_ne h]

/-- A change for both converters of a parallel pair reaches the one it is made for once (R320). -/
@[simp] theorem State.cv_bothCv (c : Conv) (g : Cv → Cv) : (s.bothCv c g).cv c = g (s.cv c) := by
  unfold State.bothCv
  split
  · cases c
    · rw [State.cv_modCv_ne _ (by decide), s.cv_modCv]
    · rw [State.cv_modCv, s.cv_modCv_ne (by decide)]
  · exact s.cv_modCv c g

@[simp] theorem State.cv_modFeed (b : Bus) (g : FeedBus → FeedBus) (c : Conv) : (s.modFeed b g).cv c = s.cv c := by
  cases b <;> cases c <;> rfl

@[simp] theorem State.feed_modFeed (b : Bus) (g : FeedBus → FeedBus) : (s.modFeed b g).feed b = g (s.feed b) := by
  cases b <;> rfl

@[simp] theorem State.cv_unlose (b : Bus) (code : Nat) (c : Conv) : (s.unlose b code).cv c = s.cv c := s.cv_modFeed ..

@[simp] theorem State.cv_markLost (b : Bus) (code : Nat) (c : Conv) : (s.markLost b code).cv c = s.cv c := by
  simp [State.markLost]

@[simp] theorem State.cv_setPhase (x : ChgPhase) (c : Conv) : (s.setPhase x).cv c = s.cv c := by
  unfold State.setPhase
  split
  · rfl
  · cases c <;> simp [State.cv, State.postH, State.modBat]

theorem State.cv_orReg (i : Nat) (w : Word) (c : Conv) : (s.orReg i w).cv c = s.cv c := by cases c <;> rfl

theorem State.cv_postH (code : Byte) (a : Half) (c : Conv) : (s.postH code a).cv c = s.cv c := by cases c <;> rfl

theorem State.cv_fault (u src v : Nat) (l3 : Bool) (c : Conv) : (s.fault u src v l3).cv c = s.cv c := by
  cases c <;> simp [State.cv]

theorem State.clampOff_stopCharge (x : ChgPhase) (c : Conv) : ((s.stopCharge x).cv c).clampOff = (s.cv c).clampOff := by
  have keep (v : Cv) : v.endCharge.clampOff = v.clampOff := by unfold Cv.endCharge; split <;> rfl
  rw [State.stopCharge, State.cv_setPhase, State.cv_modCv_keep _ Cv.clampOff keep, State.cv_modCv_keep _ Cv.clampOff keep]

/-! ### A converter when a feed ends -/

/-- A make of a bus's converter feed leaves a converter as it is, unless it stands by (R300). -/
theorem State.cv_makeConv {c : Conv} (h : (s.cv c).st ≠ .standby) (b : Bus) : (s.makeFeed b 6).cv c = s.cv c := by
  have stays (t : State) (d : Conv) (ht : t.cv c = s.cv c) :
      (t.modCv d fun v => if v.st = .standby ∧ v.clampOff = false then v.regulate (s.unlose b 6).cycles else v).cv c = s.cv c := by
    by_cases hcd : c = d
    · rw [← hcd, t.cv_modCv, ht, if_neg fun hv => h hv.1]
    · rw [t.cv_modCv_ne hcd, ht]
  unfold State.makeFeed
  simp only [show ¬(1 ≤ 6 ∧ 6 ≤ 4) by decide, show ¬6 = 5 by decide, if_false, if_true]
  split
  · split
    · exact stays _ _ (stays _ _ (s.cv_unlose b 6 c))
    · exact stays _ _ (s.cv_unlose b 6 c)
  · exact s.cv_unlose b 6 c

/-- A feed marked lost is none that a changeover chooses (R294, R300). -/
theorem State.firstAvailable_ne_of_lost {b : Bus} {code : Nat} (h : BitVec.ofNat 3 code ∈ (s.feed b).lostFeeds) :
    s.firstAvailable b ≠ some code := by
  intro hfirst
  have hmem := List.mem_of_mem_head? hfirst
  simp [State.feedArmed, State.feedAvailable, h] at hmem

theorem State.cv_breakBus {b : Bus} {c : Conv} (h : (s.cv c).st ≠ .standby ∨ 6#3 ∈ (s.feed b).lostFeeds) :
    (s.breakBus b).cv c = s.cv c := by
  unfold State.breakBus
  split
  · rfl
  · next hfirst =>
    cases h with
    | inl hst => exact s.cv_makeConv hst b
    | inr hlost => exact absurd hfirst (s.firstAvailable_ne_of_lost hlost)
  · exact s.cv_modFeed ..

theorem State.st_chargeToBus (b : Bus) (c : Conv) : ((s.chargeToBus b).cv c).st = (s.cv c).st := by
  have keep (t : State) (d : Conv) : ((t.modCv d fun v => { v with charge := false }).cv c).st = (t.cv c).st :=
    t.cv_modCv_keep Cv.st (by intro v; rfl) c d
  unfold State.chargeToBus
  dsimp only
  split
  · rfl
  · split
    · split <;> simp only [State.cv_setPhase, keep]
    · rfl

/-- The end of a bus's converter feed changes no converter's state, where none stands by or the feed is lost. -/
theorem State.st_feedEnd {b : Bus} {c : Conv} (code : Nat) (h : (s.cv c).st ≠ .standby ∨ 6#3 ∈ (s.feed b).lostFeeds) :
    ((s.feedEnd b code).cv c).st = (s.cv c).st := by
  unfold State.feedEnd
  dsimp only
  rw [State.st_chargeToBus]
  split
  · rw [s.cv_breakBus h]
  · rfl

theorem State.mem_lostFeeds_markLost (b : Bus) (code : Nat) :
    BitVec.ofNat 3 code ∈ ((s.markLost b code).feed b).lostFeeds := by
  simp [State.markLost]

/-! ### Where a command takes a converter (R316) -/

theorem State.st_cvTo (c : Conv) {g : Cv → Cv} {x : CvState} (hg : ∀ v, (g v).st = x) : ((s.cvTo c g).cv c).st = x := by
  have ends (t : State) (fed : Bool) (b : Bus) (h : (t.cv c).st = x) :
      ((if fed then (t.markLost b 6).feedEnd b 6 else t).cv c).st = x := by
    split
    · rwa [State.st_feedEnd _ 6 (.inr (t.mem_lostFeeds_markLost b 6)), t.cv_markLost]
    · exact h
  unfold State.cvTo
  exact ends _ _ _ (by rw [State.cv_bothCv, hg])

/-- A converter sent to its start is still one its bus has, so no changeover runs, and the clamp's hold on it stays. -/
theorem State.clampOff_cvTo_starting (c : Conv) (mv now : Nat) :
    ((s.cvTo c (Cv.starting mv now)).cv c).clampOff = (s.cv c).clampOff := by
  have hruns (v : Cv) : (v.starting mv now).inBus = true := rfl
  unfold State.cvTo
  simp only [State.cv_bothCv, hruns, Bool.not_true, Bool.and_false, Bool.false_eq_true, if_false]
  rw [Cv.starting, State.cv_unlose]
  split
  · exact s.clampOff_stopCharge _ c
  · rfl

theorem State.st_cvTrip (c : Conv) (k src : Nat) (ev : Bool) : ((s.cvTrip c k src ev).cv c).st = .tripped := by
  have ends (t : State) (fed : Bool) (b : Bus) (h : (t.cv c).st = .tripped) :
      ((if fed then t.feedEnd b 6 else t).cv c).st = .tripped := by
    split
    · rwa [t.st_feedEnd 6 (.inl (by simp [h]))]
    · exact h
  have posted (t : State) (n : Half) (h : (t.cv c).st = .tripped) :
      ((if ev then t.postH 0x52 n else t).cv c).st = .tripped := by
    split
    · rwa [t.cv_postH]
    · exact h
  unfold State.cvTrip
  rw [State.cv_fault]
  refine ends _ _ _ (posted _ _ ?_)
  rw [State.cv_orReg, State.cv_bothCv, Cv.tripped]

/-- `CV_RUN` leaves the converter STARTING, or TRIPPED while the NBUS clamp holds it off (R22, R316, R318). -/
theorem State.st_cvRunCmd (c : Conv) :
    ((s.cvRunCmd c).cv c).st = if (s.cv c).clampOff then .tripped else .starting := by
  unfold State.cvRunCmd
  dsimp only
  rw [s.clampOff_cvTo_starting]
  split
  · exact State.st_cvTrip ..
  · exact s.st_cvTo c fun _ => rfl

theorem UnitFrame.cvRunCmd {ps : List Port} {s t : State} (h : UnitFrame ps s t) (c : Conv) :
    UnitFrame ps s (t.cvRunCmd c) := by
  unfold State.cvRunCmd
  dsimp only
  split
  · exact UnitFrame.cvTrip (UnitFrame.cvTo h ..) ..
  · exact UnitFrame.cvTo h ..

/-! ### How a converter opcode is judged (R44, R319) -/

variable {s} {e : Byte} {op arg : Nat} {src : Src} {i : Instr}

theorem powered_hubRow (h : s.takesH e) (op arg : Nat) (src : Src) :
    powered s (s.unitRow none op e arg src) = done (s.hubCmd op e arg src) := by
  obtain ⟨hon, hnone, -⟩ := h
  rw [powered_of_on s _ hon, State.unitRow, if_pos hnone, State.unitCmd]

/-- `op` is a converter opcode and `arg` names a converter. -/
def IsConvCmd (op arg : Nat) : Prop := 0x50 ≤ op ∧ op ≤ 0x53 ∧ arg ≤ 1

theorem State.judgeHub_conv (h : s.takesH e) (hop : IsConvCmd op arg) :
    s.judgeHub op e arg =
      if s.hub.fstate ≠ .live then (.refused, .facetState, 0)
      else if s.cvOk op arg = false then (.refused, .precondition, 0)
      else (.accepted, .none, 0) := by
  obtain ⟨-, -, hepoch, hpend, hmode⟩ := h
  obtain ⟨hlo, hhi, harg⟩ := hop
  have hargOk : hubArgOk op arg = true := by
    rw [hubArgOk, if_neg (by omega), if_pos ⟨hlo, hhi⟩, decide_eq_true harg]
  have hm : ¬(s.mode ≠ .standby ∧ s.mode ≠ .run) := by tauto
  simp [State.judgeHub, hargOk, hepoch, hpend, hm, hlo, hhi, show ¬op ≤ 0x33 by omega, show ¬0x60 ≤ op by omega]

/-- Each converter command is a row of the hub, with an opcode of R319. -/
theorem exec_convRow {a : Half}
    (hi : i ∈ [Instr.cvRun e a src, .cvStandby e a src, .cvStop e a src, .cvClear e a src]) (s : State) :
    ∃ op, 0x50 ≤ op ∧ op ≤ 0x53 ∧ exec i s = powered s (s.unitRow none op e a.toNat src) := by
  simp only [List.mem_cons, List.not_mem_nil, or_false] at hi
  obtain rfl | rfl | rfl | rfl := hi
  · exact ⟨0x50, by decide, by decide, rfl⟩
  · exact ⟨0x51, by decide, by decide, rfl⟩
  · exact ⟨0x52, by decide, by decide, rfl⟩
  · exact ⟨0x53, by decide, by decide, rfl⟩

section
variable (hi : exec i s = powered s (s.unitRow none op e arg src)) (h : s.takesH e) (hop : IsConvCmd op arg)
include hi h hop

theorem exec_conv_notLive (hst : s.hub.fstate ≠ .live) : exec i s = done (s.reportH src .refused .facetState) := by
  rw [hi, powered_hubRow h, State.hubCmd, State.judgeHub_conv h hop, if_pos hst]
  rfl

theorem exec_conv_refused (hst : s.hub.fstate = .live) (hno : s.cvOk op arg = false) :
    exec i s = done (s.reportH src .refused .precondition) := by
  rw [hi, powered_hubRow h, State.hubCmd, State.judgeHub_conv h hop, if_neg (not_not_intro hst), if_pos hno]
  rfl

theorem exec_conv_accepted (hst : s.hub.fstate = .live) (hok : s.cvOk op arg = true) :
    exec i s = done ((s.runHub op arg).reportH src .accepted .none) := by
  rw [hi, powered_hubRow h, State.hubCmd, State.judgeHub_conv h hop, if_neg (not_not_intro hst),
    if_neg (by simp [hok])]

/-- Where `P` is the condition of the opcode's row, the command is accepted under it and refused otherwise. -/
theorem exec_conv_iff {P : Prop} [Decidable P] {u : State} (hst : s.hub.fstate = .live) (hok : s.cvOk op arg = decide P)
    (hu : s.runHub op arg = u) (hframe : UnitFrame [] s u) :
    if P then exec i s = done (u.reportH src .accepted .none) ∧ UnitFrame [] s u
    else exec i s = done (s.reportH src .refused .precondition) := by
  split
  · next hP => exact ⟨hu ▸ exec_conv_accepted hi h hop hst (hok.trans (decide_eq_true hP)), hframe⟩
  · next hP => exact exec_conv_refused hi h hop hst (hok.trans (decide_eq_false hP))

end

theorem State.cvOk_mirror (op : Nat) (hpar : s.hub.parallel = true) : s.cvOk op 1 = false := by
  simp [State.cvOk, hpar]

/-- R319's conditions, for a converter that mirrors no other: one per opcode. -/
theorem State.cvOk_own (hown : ¬(arg % 2 = 1 ∧ s.hub.parallel = true)) :
    let st := (s.cv (argConv arg)).st
    s.cvOk 0x50 arg = decide (s.batOk = true ∧ (st = .off ∨ st = .standby))
      ∧ s.cvOk 0x51 arg = decide (s.batOk = true ∧ (st = .off ∨ st = .starting ∨ st = .regulating))
      ∧ s.cvOk 0x52 arg = true ∧ s.cvOk 0x53 arg = decide (st = .tripped) := by
  have hm : (decide (arg % 2 = 1) && s.hub.parallel) = false := by simpa using hown
  simp [State.cvOk, hm]

/-- Settles O27: a converter opcode is judged by the hub's state and then by its own row, and an accepted one moves its
converter, which the changeover that may follow does not start again. -/
theorem converterCommandsTakeEffect : Obligations.ConverterCommandsTakeEffect := by
  intro e src s h
  refine ⟨fun hst a ha i hi => ?notLive, fun hlive => ⟨fun hpar i hi => ?mirror, fun c a hca => ?own⟩⟩
  case notLive =>
    obtain ⟨op, hlo, hhi, hrow⟩ := exec_convRow hi s
    exact exec_conv_notLive hrow h ⟨hlo, hhi, ha⟩ hst
  case mirror =>
    obtain ⟨op, hlo, hhi, hrow⟩ := exec_convRow hi s
    exact exec_conv_refused hrow h ⟨hlo, hhi, by decide⟩ hlive (State.cvOk_mirror op hpar)
  case own =>
    obtain ⟨harg, hconv, hown⟩ : a.toNat ≤ 1 ∧ argConv a.toNat = c ∧ ¬(a.toNat % 2 = 1 ∧ s.hub.parallel = true) := by
      obtain ⟨rfl, rfl⟩ | ⟨rfl, rfl, hpar⟩ := hca
      · exact ⟨by decide, rfl, by simp⟩
      · exact ⟨by decide, rfl, by simp [hpar]⟩
    subst hconv
    obtain ⟨hrun, hstandby, hstop, hclear⟩ := State.cvOk_own hown
    have moved (g : Cv → Cv) : UnitFrame [] s (s.cvTo (argConv a.toNat) g) := UnitFrame.cvTo UnitFrame.refl ..
    exact ⟨exec_conv_iff (op := 0x50) rfl h ⟨by decide, by decide, harg⟩ hlive hrun rfl (UnitFrame.cvRunCmd UnitFrame.refl _),
      exec_conv_iff (op := 0x51) rfl h ⟨by decide, by decide, harg⟩ hlive hstandby rfl (moved _),
      ⟨exec_conv_accepted (op := 0x52) rfl h ⟨by decide, by decide, harg⟩ hlive hstop, moved _⟩,
      exec_conv_iff (op := 0x53) rfl h ⟨by decide, by decide, harg⟩ hlive hclear rfl (moved _),
      s.st_cvRunCmd _, s.st_cvTo _ fun _ => rfl, s.st_cvTo _ fun _ => rfl⟩

end Sys2Proof.Machine
end

/-! ## The measuring ADC (R388 to R398) -/

section
namespace Sys2Proof.Machine

variable (s : State)

/-- An event that is due, within its tick and with its condition met, acts in its cycle (R13). -/
theorem dueEvent_of_due {s : State} (hon : s.on = true) {due : Nat} {g : Bool} (hg : g = true)
    (hin : s.mode = .sentinel ∨ due ≤ s.nextTick) (u : State → State) :
    dueEvent s (some due) g u = done (u (s.reach due)) := by
  have hacts : (s.on && (g && s.inTick due)) = true := by simpa [hon, hg, State.inTick] using hin
  exact if_pos hacts

/-! ### START (R388, R389) -/

theorem exec_adcStart (hon : s.on = true) (m : Master) : exec (.adcStart m) s = done s.adcStart :=
  powered_of_on s _ hon

theorem State.adcStart_of_noControl (h : s.imgAuth = false) : s.adcStart = s := by
  rw [State.adcStart, h]
  rfl

theorem State.adcStart_of_busy (hauth : s.imgAuth = true) (h : s.adc.running = true ∨ s.adc.armed = true) :
    s.adcStart = s.adcFlag 2 := by
  simp [State.adcStart, hauth, h]

theorem State.adcStart_of_free (hauth : s.imgAuth = true) (hrun : s.adc.running = false) (harm : s.adc.armed = false) :
    s.adcStart = if s.adc.mode = 2 then s.modAdc fun a => { a with armed := true } else s.adcStep 0 true := by
  simp [State.adcStart, hauth, hrun, harm]

/-! ### A result that comes (R385, R393) -/

theorem exec_adcResult (hon : s.on = true) {code : BitVec 12} {rail : Bool} {level : Int} (hrun : s.adc.running = true)
    (hmay : s.adc.settle.1 ≠ 0 ∨ s.adcMay code level = true) (hin : s.mode = .sentinel ∨ s.adc.due ≤ s.nextTick) :
    exec (.adcResult code rail level) s = done ((s.reach s.adc.due).adcResult code rail) := by
  have hrow : exec (.adcResult code rail level) s = dueEvent s (some s.adc.due)
      (s.adc.running && (decide (s.adc.settle.1 ≠ 0) || s.adcMay code level)) (State.adcResult · code rail) := rfl
  rw [hrow, dueEvent_of_due hon (by simpa [hrun] using hmay) hin]

/-! ### What a read of the FIFO takes (R397) -/

theorem State.adcPop_of_empty (h : s.adc.fifo = []) : s.adcPop = s := by
  simp only [State.adcPop, h]

theorem State.adcPop_of_cons {e : AdcEntry} {l : List AdcEntry} (h : s.adc.fifo = e :: l) :
    s.adcPop = s.modAdc fun a => { a with fifo := l, w1 := e.w1 } := by
  simp only [State.adcPop, h]

theorem State.fifo_adcPop : s.adcPop.adc.fifo = s.adc.fifo.tail := by
  cases h : s.adc.fifo with
  | nil => rw [s.adcPop_of_empty h, h, List.tail_nil]
  | cons e l => rw [s.adcPop_of_cons h, State.modAdc_adc, List.tail_cons]

theorem State.w1_adcPop {e : AdcEntry} (h : e ∈ s.adc.fifo.head?) : s.adcPop.adc.w1 = e.w1 := by
  obtain ⟨l, hl⟩ := List.head?_eq_some_iff.mp h
  rw [s.adcPop_of_cons hl, State.modAdc_adc]

theorem State.regView_adcFifoW0 : s.regView 0x0504 = (s.adc.fifo.head?.map AdcEntry.w0).getD 0 := by
  have hview : s.regView 0x0504 = s.midView 0x0504 (s.baseView 0x0504) := rfl
  rw [hview, State.midView, if_neg (by decide)]
  cases s.adc.fifo <;> rfl

theorem State.busRead_adcFifoW0 (m : Master) (c u : Bool) :
    s.busRead m 0x0504 c u = ((s.adc.fifo.head?.map AdcEntry.w0).getD 0, s.adcPop) := by
  have hread : s.busRead m 0x0504 c u = (s.regView 0x0504, s.adcPop) := rfl
  rw [hread, s.regView_adcFifoW0]

/-! ### What enters the FIFO (R398) -/

theorem State.fifo_adcPush_of_room (h : s.adc.fifo.length < 63) (w : Word) :
    (s.adcPush w).adc.fifo = s.adc.fifo ++ [⟨w, s.stamp⟩] := by
  simp only [State.adcPush, if_pos h, State.modAdc_adc]

/-- The first result lost adds the GAP entry, which fills the FIFO; each further one only counts in it (log entry 45). -/
theorem State.length_fifo_adcPush_le (h : s.adc.fifo.length ≤ 64) (w : Word) : (s.adcPush w).adc.fifo.length ≤ 64 := by
  unfold State.adcPush
  dsimp only
  split
  · next hroom => simp only [State.modAdc_adc, List.length_append, List.length_singleton]; omega
  · split
    · next hlast =>
      have hgap : (s.adc.fifo ++ [AdcEntry.mk (gapWord 1) s.stamp]).length ≤ 64 := by simp [hlast]
      exact hgap
    · split
      · exact h
      · simp only [State.modAdc_adc, List.length_append, List.length_dropLast, List.length_singleton]; omega

/-! ### The frame of the ADC's rows -/

/-- `u` is `s` but for the sequencer and the registers. -/
def AdcFrame (s u : State) : Prop := ∃ a r, u = { s with adc := a, regs := r }

namespace AdcFrame

variable {s u : State}

theorem refl : AdcFrame s s := ⟨s.adc, s.regs, rfl⟩

theorem eq (h : AdcFrame s u) : u = { s with adc := u.adc, regs := u.regs } := by
  obtain ⟨a, r, rfl⟩ := h
  rfl

theorem modAdc (h : AdcFrame s u) (g : Adc → Adc) : AdcFrame s (u.modAdc g) := by
  obtain ⟨a, r, rfl⟩ := h
  exact ⟨g a, r, rfl⟩

theorem adcFlag (h : AdcFrame s u) (k : Nat) : AdcFrame s (u.adcFlag k) := by
  obtain ⟨a, r, rfl⟩ := h
  exact ⟨a, _, rfl⟩

theorem adcStep (h : AdcFrame s u) (n : Nat) (fromIdle : Bool) : AdcFrame s (u.adcStep n fromIdle) := h.modAdc _

theorem adcPop (h : AdcFrame s u) : AdcFrame s u.adcPop := by
  unfold State.adcPop
  split
  · exact h
  · exact h.modAdc _

theorem adcPush (h : AdcFrame s u) (w : Word) : AdcFrame s (u.adcPush w) := by
  unfold State.adcPush
  dsimp only
  split
  · exact h.modAdc _
  · split
    · exact (h.modAdc _).adcFlag 1
    · split
      · exact h
      · exact h.modAdc _

theorem adcNext (h : AdcFrame s u) : AdcFrame s u.adcNext := by
  unfold State.adcNext
  dsimp only
  split
  · split
    · exact (h.adcFlag 0).adcStep ..
    · exact (h.adcFlag 0).modAdc _
  · split
    · exact h.adcStep ..
    · exact h.modAdc _

theorem adcResult (h : AdcFrame s u) (code : BitVec 12) (rail : Bool) : AdcFrame s (u.adcResult code rail) := by
  unfold State.adcResult
  dsimp only
  split
  · exact h
  · refine ((AdcFrame.adcPush ?_ _).modAdc _).adcNext
    split
    · exact h.adcFlag 3
    · exact h

end AdcFrame

/-- Settles O48: each command of the ADC is its row of R388 to R390, a read of the FIFO is a pop, and a result that comes
pushes one entry; none of them leaves the ADC and its registers. -/
theorem adcRowsAct : Obligations.AdcRowsAct := by
  intro s hon a
  refine ⟨fun m => ⟨fun hauth => ?noControl, fun hauth hbusy => ?missed, fun hauth hrun harm hmode => ?starts,
      fun hauth hrun harm hmode => ?arms, powered_of_on s _ hon, rfl, rfl, powered_of_on s _ hon, s.fifo_adcPop,
      fun c u => ?shown, fun e => s.w1_adcPop, s.adcPop_of_empty, fun n v => powered_of_on s _ hon⟩,
    fun code rail => ⟨fun level hrun hmay hin => ?comes, fun hroom => s.fifo_adcPush_of_room hroom _,
      fun hle => s.length_fifo_adcPush_le hle _, fun u hu => ?frame⟩⟩
  case noControl => rw [exec_adcStart s hon, s.adcStart_of_noControl hauth]
  case missed =>
    rw [exec_adcStart s hon, s.adcStart_of_busy hauth hbusy]
    rfl
  case starts => rw [exec_adcStart s hon, s.adcStart_of_free hauth hrun harm, if_neg hmode]
  case arms =>
    rw [exec_adcStart s hon, s.adcStart_of_free hauth hrun harm, if_pos hmode]
    rfl
  case shown =>
    rw [s.busRead_adcFifoW0]
    cases a.fifo <;> rfl
  case comes => exact exec_adcResult s hon hrun hmay hin
  case frame =>
    obtain rfl | rfl | rfl | rfl := hu
    · exact (AdcFrame.refl.adcResult code rail).eq
    · exact AdcFrame.refl.adcPop.eq
    · exact (AdcFrame.refl.modAdc _).eq
    · exact (AdcFrame.refl.adcStep 0 true).eq

end Sys2Proof.Machine
end

/-! ## The fault units' commands (R407, R415, R416, R421) -/

section
namespace Sys2Proof.Machine

variable (s : State)

theorem event_of_on {s : State} {g : Bool} (hon : s.on = true) (hg : g = true) (u : State) : event s g u = done u :=
  if_pos (by simp [hon, hg])

/-! ### A unit under the updates of the fault units -/

@[simp] theorem State.flt_setReg (i : Nat) (w : Word) (u : Nat) : (s.setReg i w).flt u = s.flt u := by
  unfold State.flt
  split <;> rfl

@[simp] theorem State.flt_setFlt (u : Nat) (f : FltUnit) : (s.setFlt u f).flt u = f := by
  unfold State.setFlt State.flt
  split <;> simp_all

theorem State.flt_setFlt_ne {u w : Fin 6} (h : w ≠ u) (f : FltUnit) : (s.setFlt u f).flt w = s.flt w := by
  fin_cases u <;> fin_cases w <;> simp [State.setFlt, State.flt] at h ⊢

/-! ### What an acknowledgement clears (R416) -/

/-- The unit after an acknowledgement that it takes. -/
def FltUnit.acked (f : FltUnit) (v : Word) : FltUnit :=
  { f with pend := f.pend &&& ~~~ v.setWidth 16, lvl := f.lvl &&& ~~~ lvlMask v 16 }

/-- A field as a slice of its word. -/
theorem fld_eq_extractLsb' (w : Word) (lo n : Nat) : fld w lo n = (w.extractLsb' lo n).toNat :=
  (BitVec.extractLsb'_toNat ..).symm

/-- Bits `2n` and `2n + 1` are the two of class `n`. -/
theorem getLsbD_fw_pair {n : Nat} (hn : n < 16) (i : Nat) : (fw (2 * n) 3).getLsbD i = decide (i / 2 = n) := by
  have hpair : (3 : Nat) = 2 ^ 2 - 1 := rfl
  rw [fw, BitVec.getLsbD_ofNat, Nat.testBit_shiftLeft, hpair, Nat.testBit_two_pow_sub_one]
  grind

/-- The mask holds both bits of each class named, of the first `n`. -/
theorem getLsbD_lvlMask (v : Word) {n : Nat} (hn : n ≤ 16) (i : Nat) :
    (lvlMask v n).getLsbD i = (decide (i / 2 < n) && v.getLsbD (i / 2)) := by
  induction n with
  | zero => simp [lvlMask]
  | succ n ih =>
    have hclass : (if v.getLsbD n then fw (2 * n) 3 else 0).getLsbD i = (decide (i / 2 = n) && v.getLsbD (i / 2)) := by
      split
      · rw [getLsbD_fw_pair (by omega)]
        grind
      · rw [BitVec.ofNat_eq_ofNat, BitVec.getLsbD_zero]
        grind
    rw [lvlMask, BitVec.getLsbD_or, ih (by omega), hclass, ← Bool.and_or_distrib_right, ← Bool.decide_or]
    simp only [Nat.lt_succ_iff_lt_or_eq]

theorem FltUnit.pLvl_acked (f : FltUnit) (v : Word) (c : Fin 16) : (f.acked v).pLvl c = if v.getLsbD c then 0 else f.pLvl c := by
  have hslice : (f.lvl &&& ~~~ lvlMask v 16).extractLsb' (2 * c) 2
      = if v.getLsbD c then 0 else f.lvl.extractLsb' (2 * c) 2 := by
    ext i hi
    have hclass : (2 * c.val + i) / 2 = c.val := by omega
    have hlow : 2 * c.val + i < 32 := by omega
    have hbit : (~~~ lvlMask v 16).getLsbD (2 * c + i) = !v.getLsbD c := by
      simp only [BitVec.getLsbD_not, getLsbD_lvlMask v le_rfl, hclass, hlow, c.isLt, decide_true, Bool.true_and]
    rw [BitVec.getElem_extractLsb', BitVec.getLsbD_and, hbit]
    split <;> simp [*]
  rw [FltUnit.pLvl, FltUnit.acked, fld_eq_extractLsb', hslice, FltUnit.pLvl, fld_eq_extractLsb']
  split <;> rfl

theorem State.fltAck_of_taken {u : Nat} {v : Word} (h : v.getLsbD 31 = true ∨ fld v 16 8 = (s.flt u).seq.toNat) :
    s.fltAck u v = s.setFlt u ((s.flt u).acked v) := if_pos h

theorem State.fltAck_of_stale {u : Nat} {v : Word} (hforce : v.getLsbD 31 = false)
    (hseq : fld v 16 8 ≠ (s.flt u).seq.toNat) : s.fltAck u v = s.orReg (unitBase u) 0x00080000 :=
  if_neg (not_or.mpr ⟨ne_true_of_eq_false hforce, hseq⟩)

/-! ### A read of the history (R421) -/

theorem State.histPop_of_empty {u : Nat} (h : (s.flt u).hist = []) : s.histPop u = s := by
  simp only [State.histPop, h]

theorem State.histPop_of_cons {u : Nat} {e : HistEntry} {l : List HistEntry} (h : (s.flt u).hist = e :: l) :
    s.histPop u = (s.setFlt u { s.flt u with hist := l }).setReg (unitBase u + 7) e.ts := by
  simp only [State.histPop, h]

theorem State.hist_histPop (u : Nat) : ((s.histPop u).flt u).hist = (s.flt u).hist.tail := by
  cases h : (s.flt u).hist with
  | nil => rw [s.histPop_of_empty h, h, List.tail_nil]
  | cons e l => rw [s.histPop_of_cons h, State.flt_setReg, State.flt_setFlt, List.tail_cons]

theorem State.posts_histPop (u : Nat) : (s.histPop u).posts = s.posts := by
  cases h : (s.flt u).hist with
  | nil => rw [s.histPop_of_empty h]
  | cons e l => rw [s.histPop_of_cons h, State.setReg_posts, State.setFlt_posts]

/-- Settles O47: an acknowledgement is one update of its unit or one flag, a read of the history is a pop, and a window that
closes leaves what is pending. -/
theorem faultUnitsAnswer : Obligations.FaultUnitsAnswer := by
  intro u s hon
  refine ⟨fun m v => ⟨powered_of_on s _ hon, fun htaken => ?taken, s.fltAck_of_stale⟩,
    fun m => ⟨powered_of_on s _ hon, s.hist_histPop u, s.posts_histPop u⟩, fun m n v => powered_of_on s _ hon,
    fun m v => powered_of_on s _ hon, fun src hover => ⟨_, event_of_on hon hover _, ?window⟩⟩
  case taken =>
    rw [s.fltAck_of_taken htaken, s.flt_setFlt]
    exact ⟨rfl, FltUnit.pLvl_acked _ v, rfl, UnitFrame.setFlt UnitFrame.refl .., fun w hw => s.flt_setFlt_ne hw _⟩
  case window =>
    rw [s.flt_setFlt]
    exact ⟨rfl, rfl⟩

end Sys2Proof.Machine
end

/-! ## The NVM window (R511, R512) -/

section
namespace Sys2Proof.Machine

variable (s : State)

/-! ### Little-endian bytes -/

theorem length_leBytes (n x : Nat) : (leBytes n x).length = n := by
  induction n generalizing x with
  | zero => rfl
  | succ n ih => rw [leBytes, List.length_cons, ih]

theorem leNat_leBytes (n x : Nat) : leNat (leBytes n x) = x % 256 ^ n := by
  induction n generalizing x with
  | zero => rw [leBytes, leNat, Nat.pow_zero, Nat.mod_one]
  | succ n ih => rw [leBytes, leNat, ih, BitVec.toNat_ofNat, pow_succ' 256 n, Nat.mod_mul]

theorem ofNat_leNat_leBytes (v : Word) : BitVec.ofNat 32 (leNat (leBytes 4 v.toNat)) = v := by
  have hsize : 256 ^ 4 = 2 ^ 32 := by decide
  rw [leNat_leBytes, hsize, Nat.mod_eq_of_lt v.isLt, BitVec.ofNat_toNat, BitVec.setWidth_eq]

theorem leNat_append_zeros (bs : List Byte) (n : Nat) : leNat (bs ++ List.replicate n 0) = leNat bs := by
  induction bs with
  | nil =>
    induction n with
    | zero => rfl
    | succ n ih => simpa [List.replicate_succ, leNat] using ih
  | cons b bs ih => rw [List.cons_append, leNat, ih, leNat]

/-- The bytes absent from a field read as 0, so they add nothing to it. -/
theorem le_eq_leNat (bs : List Byte) (o n : Nat) : le bs o n = leNat ((bs.drop o).take n) := leNat_append_zeros ..

/-- A word written into a page is what its place then holds. -/
theorem take_drop_setWordAt {d : List Byte} {o : Nat} (h : o ≤ d.length) (v : Word) :
    ((setWordAt d o v).drop o).take 4 = leBytes 4 v.toNat := by
  rw [setWordAt, List.append_assoc, List.drop_left' (List.length_take_of_le h), List.take_left' (length_leBytes 4 _)]

theorem State.length_nvmBytes (a n : Nat) : (s.nvmBytes a n).length = n := by
  unfold State.nvmBytes
  split
  · exact spRun_length ..
  · rw [List.length_map, List.length_range]

/-! ### What `BUS_NVM_STAT` shows of the buffer -/

theorem getLsbD_flag {k : Nat} (hk : k < 32) (b : Bool) (i : Nat) : (flag k b).getLsbD i = (b && decide (i = k)) := by
  cases b with
  | false => simp [flag]
  | true =>
    rw [flag, if_pos rfl, BitVec.getLsbD_ofNat, Nat.one_shiftLeft, Nat.testBit_two_pow]
    grind

theorem getLsbD_fw (lo v i : Nat) : (fw lo v).getLsbD i = (decide (i < 32) && (decide (lo ≤ i) && v.testBit (i - lo))) := by
  rw [fw, BitVec.getLsbD_ofNat, Nat.testBit_shiftLeft]

theorem testBit_fld (w : Word) (lo n i : Nat) : (fld w lo n).testBit i = (decide (i < n) && w.getLsbD (lo + i)) := by
  rw [fld, Nat.testBit_mod_two_pow, Nat.testBit_shiftRight, BitVec.getLsbD]

/-- `BUF_VALID` is bit 1. -/
theorem Nvm.getLsbD_word_one (n : Nvm) : n.word.getLsbD 1 = n.buf.isSome := by
  simp only [Nvm.word, BitVec.getLsbD_or, getLsbD_flag, getLsbD_fw, Nat.reduceLT]
  grind

theorem Nvm.getLsbD_word_page {n : Nvm} {k : Nat} {d : List Byte} (h : n.buf = some (k, d)) {i : Nat} (hi : i < 16) :
    n.word.getLsbD (16 + i) = k.testBit i := by
  rw [Nvm.word, h]
  simp only [BitVec.getLsbD_or, getLsbD_flag, getLsbD_fw, Nat.reduceLT]
  grind

/-- `BUF_PAGE` is the field of 16 bits from bit 16. -/
theorem Nvm.fld_word_page {n : Nvm} {k : Nat} {d : List Byte} (h : n.buf = some (k, d)) (hk : k < 2 ^ 16) :
    fld n.word 16 16 = k := by
  refine Nat.eq_of_testBit_eq fun i => ?_
  rw [testBit_fld]
  by_cases hi : i < 16
  · rw [Nvm.getLsbD_word_page h hi, decide_eq_true hi, Bool.true_and]
  · have habove : k.testBit i = false := Nat.testBit_lt_two_pow (hk.trans_le (Nat.pow_le_pow_right (by decide) (by omega)))
    rw [habove, decide_eq_false hi, Bool.false_and]

theorem State.regView_nvmStat : s.regView 0x0601 = s.nvm.word := rfl

/-! ### A page in the buffer -/

/-- Page `k` with contents `d` in the write buffer. -/
def State.withPage (s : State) (k : Nat) (d : List Byte) : State := s.modNvm fun n => { n with buf := some (k, d) }

@[simp] theorem State.buf_withPage (k : Nat) (d : List Byte) : (s.withPage k d).nvm.buf = some (k, d) := rfl

@[simp] theorem State.winAddr_withPage (k : Nat) (d : List Byte) (w : Nat) : (s.withPage k d).winAddr w = s.winAddr w := rfl

/-! ### The addresses of the window (R509) -/

theorem State.page_winAddr_lt (w : BitVec 15) : s.winAddr w.toNat / 256 < 2 ^ 16 := by
  have hbank : s.rf 0x0600 0 7 < 128 := Nat.mod_lt _ (by decide)
  have hword := w.isLt
  rw [State.winAddr]
  omega

theorem onyxRegion_of_user {a : Nat} (h : userBase ≤ a) : onyxRegion a = false := by
  have hout : ¬a < 0x610000 := by
    rw [userBase] at h
    omega
  rw [onyxRegion, decide_eq_false hout, Bool.and_false]

/-! ### Writes into the buffer -/

variable {s} {a : Nat}

theorem State.winWrite_of_user {w : Nat} (h : userBase ≤ s.winAddr w) (m : Master) (v : Word) :
    s.winWrite m w v = s.bufWrite (s.winAddr w) v := if_pos h

theorem State.bufWrite_of_empty (hflush : s.nvm.flushing = false) (hbuf : s.nvm.buf = none) (v : Word) :
    s.bufWrite a v = s.withPage (a / 256) (setWordAt (s.nvmBytes (256 * (a / 256)) 256) (a % 256) v) := by
  simp [State.bufWrite, State.withPage, hflush, hbuf]

theorem State.bufWrite_of_held {d : List Byte} (hflush : s.nvm.flushing = false) (hbuf : s.nvm.buf = some (a / 256, d))
    (v : Word) : s.bufWrite a v = s.withPage (a / 256) (setWordAt d (a % 256) v) := by
  simp [State.bufWrite, State.withPage, hflush, hbuf]

theorem State.bufWrite_of_flushing (hflush : s.nvm.flushing = true) (v : Word) : s.bufWrite a v = s.orReg 0x0604 1 :=
  if_pos hflush

/-- Whether or not a flush runs or waits, a write is lost where the buffer holds another page. -/
theorem State.bufWrite_of_other {j : Nat} {d : List Byte} (hbuf : s.nvm.buf = some (j, d)) (hj : j ≠ a / 256) (v : Word) :
    s.bufWrite a v = s.orReg 0x0604 1 := by
  simp [State.bufWrite, hbuf, hj, flag]

/-! ### Reads of the page in the buffer -/

theorem State.busRead_window (m : Master) (w : Nat) (c e : Bool) :
    s.busRead m (0x8000 + w) c e = (s.winWord w e, s.winRead (masterId m) w c e) := by
  rw [State.busRead, if_pos (Nat.le_add_right ..), Nat.add_sub_cancel_left]

theorem State.busRead_window_of_buffered {w : Nat} {d : List Byte} (huser : userBase ≤ s.winAddr w)
    (hbuf : s.nvm.buf = some (s.winAddr w / 256, d)) (m : Master) (c e : Bool) :
    s.busRead m (0x8000 + w) c e = (BitVec.ofNat 32 (leNat ((d.drop (s.winAddr w % 256)).take 4)), s) := by
  have hword : s.winWord w e = BitVec.ofNat 32 (leNat ((d.drop (s.winAddr w % 256)).take 4)) := by
    simp [State.winWord, onyxRegion_of_user huser, hbuf, le_eq_leNat]
  have hread : s.winRead (masterId m) w c e = s := by
    simp [State.winRead, State.buffered, onyxRegion_of_user huser, hbuf]
  rw [State.busRead_window, hword, hread]

/-- A word stored in a whole page of the buffer is the word a read then finds. -/
theorem State.busRead_window_of_stored {w : Nat} {d : List Byte} (huser : userBase ≤ s.winAddr w) (hd : d.length = 256)
    (m : Master) (v : Word) (c e : Bool) :
    ((s.withPage (s.winAddr w / 256) (setWordAt d (s.winAddr w % 256) v)).busRead m (0x8000 + w) c e).1 = v := by
  have hin : s.winAddr w % 256 ≤ d.length := by omega
  rw [State.busRead_window_of_buffered (s := s.withPage ..) huser (s.buf_withPage ..)]
  simp only [State.winAddr_withPage, take_drop_setWordAt hin, ofNat_leNat_leBytes]

/-- Settles O51: by what the buffer holds, a window write loads the page, changes it or is lost, and a read of the page in
the buffer finds the bytes there. -/
theorem windowGoesThroughTheBuffer : Obligations.WindowGoesThroughTheBuffer := by
  intro w m v s huser
  rw [State.winWrite_of_user huser]
  refine ⟨fun hflush hbuf => ?loaded, fun hflush d hbuf => ?changed, fun hlost => ?lost, fun d c e hbuf => ?read,
    fun hflush hbuf c e => ?readBack⟩
  case loaded =>
    rw [State.bufWrite_of_empty hflush hbuf, State.regView_nvmStat]
    exact ⟨rfl, Nvm.getLsbD_word_one _, Nvm.fld_word_page (s.buf_withPage ..) (s.page_winAddr_lt w)⟩
  case changed => rw [State.bufWrite_of_held hflush hbuf, State.buf_withPage]
  case lost =>
    obtain hflush | ⟨j, d, hbuf, hj⟩ := hlost
    · exact State.bufWrite_of_flushing hflush v
    · exact State.bufWrite_of_other hbuf hj v
  case read => exact State.busRead_window_of_buffered huser hbuf m c e
  case readBack =>
    obtain hbuf | ⟨d, hbuf, hd⟩ := hbuf
    · rw [State.bufWrite_of_empty hflush hbuf]
      exact State.busRead_window_of_stored huser (s.length_nvmBytes ..) m v c e
    · rw [State.bufWrite_of_held hflush hbuf]
      exact State.busRead_window_of_stored huser hd m v c e

end Sys2Proof.Machine
end

/-! ## What a command answers -/

section
namespace Sys2Proof.Machine

/-- A meaning answers the state it was given, or ends the cycle (log entries 4 and 11). -/
inductive Answers (s : State) : Host.Outcome State Fault Refusal → Prop
  | stays : Answers s (.next s)
  | settles (u : State) : Answers s (done u)

namespace Answers

variable {s : State}

theorem ite {c : Prop} [Decidable c] {a b : Host.Outcome State Fault Refusal} (ha : Answers s a) (hb : Answers s b) :
    Answers s (if c then a else b) := by
  split
  · exact ha
  · exact hb

theorem powered (u : State) : Answers s (powered s u) := ite (settles u) stays

theorem event (g : Bool) (u : State) : Answers s (event s g u) := ite (settles u) stays

theorem floor (g : Bool) (u : State) : Answers s (floor s g u) := ite (settles u) stays

theorem dueEvent (t : Option Nat) (g : Bool) (u : State → State) : Answers s (dueEvent s t g u) := by
  cases t with
  | none => exact stays
  | some t => exact event _ _

theorem next {o : Host.Outcome State Fault Refusal} (h : Answers s o) : ∃ t, o = .next t := by
  cases h with
  | stays => exact ⟨_, rfl⟩
  | settles u => exact ⟨_, rfl⟩

theorem quiet {o : Host.Outcome State Fault Refusal} {t : State} (h : Answers s o) (hs : s.quiet = true) (ht : o = .next t) :
    t.quiet = true := by
  cases h with
  | stays => exact Host.Outcome.next.inj ht ▸ hs
  | settles u => exact Host.Outcome.next.inj ht ▸ u.settle_quiet

end Answers

/-- The rows that may end no cycle and still change the state: a supervisor in COLD, the fall below power-on reset and
the release of the lockout (R48, R72, R360). -/
inductive IsRaw : Instr → Prop
  | supplyValid (x : Supply) (v : Bool) : IsRaw (.supplyValid x v)
  | brownOutPor : IsRaw .brownOutPor
  | lockoutRelease : IsRaw .lockoutRelease

/-- Every other row stays or settles. Rows named here decide by a condition of their own; the rest are events, and
commands where the block is powered. -/
theorem exec_answers (c : Instr) (s : State) (h : ¬ IsRaw c) : Answers s (exec c s) := by
  cases c
  case supplyValid => exact absurd (.supplyValid ..) h
  case brownOutPor => exact absurd .brownOutPor h
  case lockoutRelease => exact absurd .lockoutRelease h
  case portHardOvercurrent | converterPeakCurrent | nbusOvervoltageClamp | batOvervoltageClamp | dieThermalShutdown
      | overvoltageClampRelease => exact Answers.floor ..
  case powerOnResetRelease => change Answers s (execPowerOnResetRelease _ s); unfold execPowerOnResetRelease; exact .ite (.settles _) .stays
  case onyxSelfTestFail => change Answers s (execOnyxSelfTestFail _ s); unfold execOnyxSelfTestFail; exact .ite (.settles _) .stays
  case sentinelCalibration => change Answers s (execSentinelCalibration _ s); unfold execSentinelCalibration; exact .ite (.settles _) .stays
  case wakeTimerExpiry => change Answers s (execWakeTimerExpiry _ _ s); unfold execWakeTimerExpiry; exact .ite (.settles _) .stays
  case clockLoss => change Answers s (execClockLoss s); unfold execClockLoss; exact .ite (.settles _) .stays
  case brownOutWarning => change Answers s (execBrownOutWarning s); unfold execBrownOutWarning; exact .ite .stays (.ite (.settles _) (.settles _))
  case softResetAcceptTimeout => change Answers s (execSoftResetAcceptTimeout _ s); unfold execSoftResetAcceptTimeout; exact .ite (.event ..) (.event ..)
  case nonceExpiry => change Answers s (execNonceExpiry s); unfold execNonceExpiry; exact .dueEvent ..
  case grantLapse => change Answers s (execGrantLapse s); unfold execGrantLapse; exact .dueEvent ..
  case challengeLockoutEnd => change Answers s (execChallengeLockoutEnd s); unfold execChallengeLockoutEnd; exact .dueEvent ..
  case onyxOwnerTimeout => change Answers s (execOnyxOwnerTimeout s); unfold execOnyxOwnerTimeout; exact .dueEvent ..
  case cvTermination => change Answers s (execCvTermination s); unfold execCvTermination; exact .dueEvent ..
  case batteryQualified => change Answers s (execBatteryQualified s); unfold execBatteryQualified; exact .dueEvent ..
  case restCorrection => change Answers s (execRestCorrection _ s); unfold execRestCorrection; exact .dueEvent ..
  case reqWrite m i v => change Answers s (execReqWrite m i v s); unfold execReqWrite; exact .ite (.powered _) .stays
  case goodcrcReceived => change Answers s (execGoodcrcReceived _ _ _ s); unfold execGoodcrcReceived; split <;> [exact .event ..; exact .stays]
  case goodcrcTimeout => change Answers s (execGoodcrcTimeout _ s); unfold execGoodcrcTimeout; split <;> [exact .event ..; exact .stays]
  case snkSelTimeout => change Answers s (execSnkSelTimeout _ s); unfold execSnkSelTimeout; split <;> [exact .event ..; exact .stays]
  case sinkRequestRetry => change Answers s (execSinkRequestRetry _ s); unfold execSinkRequestRetry; split <;> [exact .event ..; exact .stays]
  case psTransitionTimeout => change Answers s (execPsTransitionTimeout _ s); unfold execPsTransitionTimeout; split <;> [exact .event ..; exact .stays]
  case srcTransitionStart => change Answers s (execSrcTransitionStart _ s); unfold execSrcTransitionStart; split <;> [exact .event ..; exact .stays]
  case transitionSettled => change Answers s (execTransitionSettled _ _ s); unfold execTransitionSettled; split <;> [exact .event ..; exact .stays]
  case transitionTimeLimit => change Answers s (execTransitionTimeLimit _ s); unfold execTransitionTimeLimit; split <;> [exact .event ..; exact .stays]
  case chargeStart => change Answers s (execChargeStart s); unfold execChargeStart; split <;> [exact .powered ..; exact .stays]
  case bootImageLoaded =>
    change Answers s (execBootImageLoaded _ s)
    unfold execBootImageLoaded
    refine .ite ?_ .stays
    split <;> [exact .settles _; exact .stays]
  case noValidImage =>
    change Answers s (execNoValidImage _ s)
    unfold execNoValidImage
    refine .ite ?_ .stays
    split <;> [exact .stays; exact .settles _]
  case sentinelEntryComplete =>
    change Answers s (execSentinelEntryComplete _ s)
    unfold execSentinelEntryComplete
    split <;> [exact .ite (.settles _) .stays; exact .stays]
  all_goals first
    | exact Answers.event ..
    | exact Answers.powered ..

theorem execSupplyValid_answers (x : Supply) (v : Bool) (s : State) :
    (s.mode = .cold ∧ ∃ w, exec (.supplyValid x v) s = .next (s.setSupply x w)) ∨ Answers s (exec (.supplyValid x v) s) := by
  change (_ ∧ ∃ w, execSupplyValid x v s = _) ∨ Answers s (execSupplyValid x v s)
  unfold execSupplyValid
  dsimp only
  split
  · next h => exact .inl ⟨h, _, rfl⟩
  · exact .inr (.settles _)

theorem execLockoutRelease_eq (s : State) :
    exec .lockoutRelease s = .next { s with hub := { s.hub with bat := { s.hub.bat with lockoutLatch := 
      s.hub.bat.lockoutLatch && s.noFeedInput } } } := by
  change execLockoutRelease s = _
  unfold execLockoutRelease
  cases hl : s.hub.bat.lockoutLatch <;> cases hn : s.noFeedInput <;> simp [← hl]

theorem execBrownOutPor_answers (s : State) :
    exec .brownOutPor s = .next s ∨ exec .brownOutPor s = .next s.toCold.discharged := by
  change execBrownOutPor s = _ ∨ execBrownOutPor s = _
  unfold execBrownOutPor
  split
  · exact .inr rfl
  · exact .inl rfl

/-- Settles O3: every meaning stays, settles, or is one of three that change the state as it stands. -/
theorem noCommandStopsTheBlock : Obligations.NoCommandStopsTheBlock := by
  intro c s
  by_cases h : IsRaw c
  · cases h with
    | supplyValid x v =>
      obtain ⟨-, w, hw⟩ | ha := execSupplyValid_answers x v s
      · exact ⟨_, hw⟩
      · exact ha.next
    | brownOutPor => exact (execBrownOutPor_answers s).elim (⟨_, ·⟩) (⟨_, ·⟩)
    | lockoutRelease => exact ⟨_, execLockoutRelease_eq s⟩
  · exact (exec_answers c s h).next

/-! ## The block stays quiet between steps -/

variable {s t : State}

/-- The interrupt lines are read off the registers, the fault units, the event queues and the ADC (R160). -/
theorem State.meip_congr (hregs : t.regs = s.regs) (hflt : ∀ u, t.flt u = s.flt u) (hcfg : t.fltCfg = s.fltCfg)
    (hevq : ∀ q, t.evq q = s.evq q) (hadc : t.adc = s.adc) : t.meip = s.meip := by
  have hreg (i) : t.reg i = s.reg i := by simp only [State.reg, hregs]
  have hbit (i b) : t.bit i b = s.bit i b := by simp only [State.bit, hreg]
  have hrf (i lo n) : t.rf i lo n = s.rf i lo n := by simp only [State.rf, hreg]
  have hreaction (c k) : t.reaction c k = s.reaction c k := by simp only [State.reaction, hcfg]
  have hfrom (u c n) : t.lineFrom u c n = s.lineFrom u c n := by
    induction n generalizing c with
    | zero => rfl
    | succ n ih => simp only [State.lineFrom, ih, hflt, hbit, hreaction]
  have hline (k) : t.irqLine k = s.irqLine k := by
    simp only [State.irqLine, State.fltLine, State.evqLine, State.wmPend, State.wmFlagged, State.adcLine, State.adcThresh,
      State.gpioLine, hfrom, hbit, hrf, hevq, hadc]
    congr!
  simp only [State.meip, State.irqView, hreg, funext hline]
  congr!

/-- What the block's quiet looks at, but for the interrupt lines outside STANDBY. -/
theorem State.quiet_congr (hposts : t.posts = s.posts) (htodo : t.todo = s.todo) (hclk : t.clkStopped = s.clkStopped)
    (hmode : t.mode = s.mode) (hfresh : ∀ p, (t.facet p).fresh = (s.facet p).fresh) (hhub : t.hub.fresh = s.hub.fresh)
    (hmeip : s.mode = .standby → t.meip = s.meip) (h : s.quiet = true) : t.quiet = true := by
  have ha : t.fa.fresh = s.fa.fresh := hfresh .a
  have hb : t.fb.fresh = s.fb.fresh := hfresh .b
  have hc : t.fc.fresh = s.fc.fresh := hfresh .c
  have hd : t.fd.fresh = s.fd.fresh := hfresh .d
  rw [State.quiet_iff] at h ⊢
  rw [hposts, htodo, hmode, ha, hb, hc, hd, hhub, show t.stalled = s.stalled by simp only [State.stalled, hclk, hmode]]
  obtain ⟨h1, h2, h3, h4, h5, h6, h7, h8⟩ := h
  exact ⟨h1, h2, h3, h4, h5, h6, h7, fun hm => (hmeip hm).trans (h8 hm)⟩

theorem State.quiet_pending (l : List Instr) (h : s.quiet = true) : ({ s with pending := l } : State).quiet = true :=
  State.quiet_congr (s := s) rfl rfl rfl rfl (fun p => by cases p <;> rfl) rfl
    (fun _ => State.meip_congr rfl (fun _ => rfl) rfl (fun _ => rfl) rfl) h

theorem State.quiet_setSupply (x : Supply) (w : Bool) (hm : s.mode = .cold) (h : s.quiet = true) :
    (s.setSupply x w).quiet = true := by
  have hnot : s.mode ≠ .standby := by simp [hm]
  have hset : (if (s.supplyBit x).2 = w ∨ s.mode = .cold then s else s.orReg 0x0108 (flag (s.supplyBit x).1 true)) = s :=
    if_pos (.inr hm)
  unfold State.setSupply
  dsimp only
  rw [hset]
  cases x <;> exact State.quiet_congr (s := s) rfl rfl rfl rfl (fun p => by cases p <;> rfl) rfl (absurd · hnot) h

/-- Below power-on reset nothing is posted, owed or fresh. -/
theorem State.quiet_toCold_discharged (s : State) : s.toCold.discharged.quiet = true := by
  rw [State.quiet_iff]
  exact ⟨rfl, .inl rfl, rfl, rfl, rfl, rfl, rfl, fun h => by cases h⟩

/-! ## One cycle of `CLK` -/

/-- `g` is `h` but for what the PWM counters move. -/
def PwmFrame (h g : Hub) : Prop :=
  g = { h with cv1 := g.cv1, cv2 := g.cv2, period1 := g.period1, period2 := g.period2, en0 := g.en0, en1 := g.en1
               comp := g.comp, run0 := g.run0, run1 := g.run1, duty0 := g.duty0, duty1 := g.duty1
               gcnt0 := g.gcnt0, gcnt1 := g.gcnt1 }

/-- `w` is `v` but for what a converter's counter moves. -/
def CvFrame (v w : Cv) : Prop :=
  w = { v with cnt := w.cnt, periods := w.periods, peakLatch := w.peakLatch, peaks := w.peaks, acted := w.acted }

/-- The PWM counters move nothing else of the hub, nor of its converters. -/
def PwmMoves (h g : Hub) : Prop := PwmFrame h g ∧ CvFrame h.cv1 g.cv1 ∧ CvFrame h.cv2 g.cv2

namespace PwmMoves

variable {h g k : Hub} {rd : Nat → Word} {n : Nat}

theorem trans (hg : PwmMoves h g) (gk : PwmMoves g k) : PwmMoves h k := by
  obtain ⟨hf, h1, h2⟩ := hg
  obtain ⟨kf, k1, k2⟩ := gk
  refine ⟨kf.trans (congrArg (fun x : Hub => { x with
    cv1 := k.cv1, cv2 := k.cv2, period1 := k.period1, period2 := k.period2, en0 := k.en0, en1 := k.en1, comp := k.comp
    run0 := k.run0, run1 := k.run1, duty0 := k.duty0, duty1 := k.duty1, gcnt0 := k.gcnt0, gcnt1 := k.gcnt1 }) hf), ?_, ?_⟩
  · exact k1.trans (congrArg (fun x : Cv => { x with cnt := k.cv1.cnt, periods := k.cv1.periods, peakLatch := k.cv1.peakLatch
                                                     peaks := k.cv1.peaks, acted := k.cv1.acted }) h1)
  · exact k2.trans (congrArg (fun x : Cv => { x with cnt := k.cv2.cnt, periods := k.cv2.periods, peakLatch := k.cv2.peakLatch
                                                     peaks := k.cv2.peaks, acted := k.cv2.acted }) h2)

theorem cvPass : PwmMoves h (h.cvPass rd n) := by
  unfold Hub.cvPass
  split
  · exact ⟨rfl, rfl, rfl⟩
  · split <;> exact ⟨rfl, rfl, rfl⟩

theorem cv2Pass : PwmMoves h (h.cv2Pass rd n) := by
  unfold Hub.cv2Pass
  split
  · exact ⟨rfl, rfl, rfl⟩
  · dsimp only
    split <;> split <;> exact ⟨rfl, rfl, rfl⟩

theorem gpwm1Pass : PwmMoves h (h.gpwm1Pass rd n) := by
  unfold Hub.gpwm1Pass
  split
  · exact ⟨rfl, rfl, rfl⟩
  · split <;> exact ⟨rfl, rfl, rfl⟩

theorem gpwmPass : PwmMoves h (h.gpwmPass rd n) := by
  unfold Hub.gpwmPass
  split
  · exact gpwm1Pass
  · split
    · exact trans (g := { h with gcnt0 := h.gcnt0 + n }) ⟨rfl, rfl, rfl⟩ gpwm1Pass
    · refine trans (g := { h.gpwm0Boundary rd with gcnt0 := _ }) ⟨rfl, rfl, rfl⟩ gpwm1Pass

theorem pwmPass (s : State) (n : Nat) : PwmMoves s.hub (s.pwmPass n).hub := by
  unfold State.pwmPass
  split
  · exact ⟨rfl, rfl, rfl⟩
  · exact (gpwmPass.trans cvPass).trans cv2Pass

end PwmMoves

theorem State.pwmPass_rest (n : Nat) : s.pwmPass n = { s with hub := (s.pwmPass n).hub } := by
  unfold State.pwmPass
  split <;> rfl

theorem State.pwmPass_of_frozen (n : Nat) (h : s.hub.frozen = true) : s.pwmPass n = s := if_pos h

theorem State.elapse_pwmPass_rest (m n : Nat) :
    (s.elapse m).pwmPass n = { s with cycles := s.cycles + m, lap := (s.elapse m).lap, hub := ((s.elapse m).pwmPass n).hub } :=
  State.pwmPass_rest n

theorem State.fresh_pwmPass (n : Nat) : (s.pwmPass n).hub.fresh = s.hub.fresh := by
  obtain ⟨hf, -, -⟩ := PwmMoves.pwmPass s n
  rw [show _ = _ from hf]

theorem State.quiet_elapse_pwmPass (m n : Nat) (h : s.quiet = true) : ((s.elapse m).pwmPass n).quiet = true := by
  have hfresh : ((s.elapse m).pwmPass n).hub.fresh = s.hub.fresh := State.fresh_pwmPass n
  rw [State.elapse_pwmPass_rest]
  exact State.quiet_congr (s := s) rfl rfl rfl rfl (fun p => by cases p <;> rfl) hfresh
    (fun _ => State.meip_congr rfl (fun _ => rfl) rfl (fun _ => rfl) rfl) h

theorem State.quiet_burstCycle (hm : s.mode = .sentinel) (h : s.quiet = true) : s.burstCycle.quiet = true := by
  have hnot : s.mode ≠ .standby := by simp [hm]
  unfold State.burstCycle
  split
  · split
    · exact h
    · exact State.quiet_congr (s := s) rfl rfl rfl rfl (fun p => by cases p <;> rfl) rfl (absurd · hnot) h
  · exact h

theorem State.quiet_cycle (h : s.quiet = true) : s.cycle.quiet = true := by
  unfold State.cycle
  dsimp only
  split
  · exact State.settle_quiet _
  · exact State.quiet_elapse_pwmPass 1 1 h

theorem State.quiet_idle (h : s.quiet = true) : s.idle.quiet = true := by
  unfold State.idle
  split
  · exact h
  · split
    · next hm =>
      split
      · exact h
      · exact State.quiet_burstCycle hm h
    · split
      · exact h
      · exact State.quiet_cycle h

theorem quiet_lockoutRelease (b : Bool) (h : s.quiet = true) :
    ({ s with hub := { s.hub with bat := { s.hub.bat with lockoutLatch := b } } } : State).quiet = true :=
  State.quiet_congr (s := s) rfl rfl rfl rfl (fun p => by cases p <;> rfl) rfl
    (fun _ => State.meip_congr rfl (fun _ => rfl) rfl (fun _ => rfl) rfl) h

/-- A command leaves the block quiet: settling does, and the three rows that end no cycle touch nothing quiet looks at. -/
theorem exec_quiet (c : Instr) (hs : s.quiet = true) (ht : exec c s = .next t) : t.quiet = true := by
  by_cases h : IsRaw c
  · cases h with
    | supplyValid x v =>
      obtain ⟨hm, w, hw⟩ | ha := execSupplyValid_answers x v s
      · exact Host.Outcome.next.inj (hw.symm.trans ht) ▸ State.quiet_setSupply x w hm hs
      · exact ha.quiet hs ht
    | brownOutPor =>
      obtain h | h := execBrownOutPor_answers s
      · exact Host.Outcome.next.inj (h.symm.trans ht) ▸ hs
      · exact Host.Outcome.next.inj (h.symm.trans ht) ▸ s.quiet_toCold_discharged
    | lockoutRelease =>
      exact Host.Outcome.next.inj ((execLockoutRelease_eq s).symm.trans ht) ▸ quiet_lockoutRelease _ hs
  · exact (exec_answers c s h).quiet hs ht

/-- Settles O4: a step is a command on a quiet state, or a cycle of `CLK`. -/
theorem everyStepLeavesTheBlockQuiet : Obligations.EveryStepLeavesTheBlockQuiet := by
  intro s t hs ht
  unfold step at ht
  cases hp : s.pending with
  | nil =>
    rw [hp] at ht
    exact Host.Outcome.next.inj ht ▸ State.quiet_idle hs
  | cons c cs =>
    rw [hp] at ht
    exact exec_quiet c (State.quiet_pending cs hs) ht

/-- Settles O1. -/
theorem stepRunsFrontCommand : Obligations.StepRunsFrontCommand := fun _ _ _ => rfl

/-- Settles O2: where nothing is owed after the cycle, the step is TIME's and the counters' passing. -/
theorem emptyQueuePassesOneCycle : Obligations.EmptyQueuePassesOneCycle := by
  intro s hpending hclk hcold hsent hwaits howes
  have hstep : step s = .next ((s.elapse 1).pwmPass 1) := by
    simp only [step, hpending, State.idle, State.cycle, hclk, hcold, hsent, hwaits, howes, if_false, Bool.or_self,
      Bool.false_eq_true]
  obtain ⟨hhub, hcv1, hcv2⟩ := PwmMoves.pwmPass (s.elapse 1) 1
  have hrest := State.elapse_pwmPass_rest (s := s) 1 1
  have hlap : ((s.elapse 1).pwmPass 1).lap = (s.elapse 1).lap := by rw [hrest]
  have hcyc : ((s.elapse 1).pwmPass 1).cycles = s.cycles + 1 := by rw [hrest]
  refine ⟨_, hstep, hcyc, ?_, ?_, fun hfrozen => ?_, hhub, fun c => ?_⟩
  · rw [hlap, hcyc]; exact hrest
  · rw [hlap]; rfl
  · rw [State.pwmPass_of_frozen (s := s.elapse 1) 1 hfrozen]; rfl
  · cases c
    · exact hcv1
    · exact hcv2

end Sys2Proof.Machine
end

/-! ## Reset, and where outcomes are reported -/

section
namespace Sys2Proof.Machine

/-- Settles O18: the report is one write, of the register or of the mailbox. -/
theorem reportGoesWhereTheCommandCameFrom : Obligations.ReportGoesWhereTheCommandCameFrom := by
  intro p m x y s
  exact ⟨rfl, rfl⟩

/-- Settles O5: each field reads off `State.reset`, whose stores are empty but for the counters. -/
theorem resetStartsInBoot : Obligations.ResetStartsInBoot := by
  refine ⟨rfl, rfl, rfl, fun p => ?facets, rfl, fun i => rfl, rfl, rfl, rfl, rfl, rfl, rfl, ?quiet, ?wf⟩
  case facets => cases p <;> exact ⟨rfl, rfl, rfl⟩
  case quiet =>
    rw [State.quiet_iff]
    exact ⟨rfl, .inl rfl, rfl, rfl, rfl, rfl, rfl, fun h => by cases h⟩
  case wf => decide

end Sys2Proof.Machine
end

/-! ## Rows that act where their condition holds -/

section
namespace Sys2Proof.Machine

variable {s u : State} {g : Bool}

theorem event_of (hon : s.on = true) (hg : g = true) : event s g u = done u := if_pos (by rw [hon, hg]; rfl)

theorem event_not (hg : g = false) : event s g u = .next s := if_neg (by simp [hg])

theorem floor_of (hm : s.mode ≠ .cold) (hg : g = true) : floor s g u = done u := if_pos (by simp [hm, hg])

theorem State.mode_of_on (h : s.on = true) : s.mode ≠ .cold := by
  intro hm
  simp [State.on, hm] at h

/-! ## What work behind the modes leaves -/

/-- `u` is `s` but for facets, hub, registers, fault units, Onyx, NVM, the loader, free values drawn, and what is posted or
owed. -/
def WorkFrame (s u : State) : Prop :=
  u = { s with fa := u.fa, fb := u.fb, fc := u.fc, fd := u.fd, hub := u.hub, regs := u.regs, posts := u.posts
               todo := u.todo, flt0 := u.flt0, flt1 := u.flt1, flt2 := u.flt2, flt3 := u.flt3, flt4 := u.flt4
               flt5 := u.flt5, onx := u.onx, nvm := u.nvm, ldr := u.ldr, draws := u.draws }

namespace WorkFrame

variable {t : State}

theorem refl : WorkFrame s s := rfl

theorem trans (h : WorkFrame s t) (k : WorkFrame t u) : WorkFrame s u :=
  Eq.trans k (congrArg (fun x : State =>
    { x with fa := u.fa, fb := u.fb, fc := u.fc, fd := u.fd, hub := u.hub, regs := u.regs, posts := u.posts
             todo := u.todo, flt0 := u.flt0, flt1 := u.flt1, flt2 := u.flt2, flt3 := u.flt3, flt4 := u.flt4
             flt5 := u.flt5, onx := u.onx, nvm := u.nvm, ldr := u.ldr, draws := u.draws }) h)

theorem ofUnit {ps : List Port} (h : UnitFrame ps s u) : WorkFrame s u := by
  obtain ⟨-, -, h⟩ := h
  have hldr : u.ldr = s.ldr := by rw [h]
  have hdraws : u.draws = s.draws := by rw [h]
  unfold WorkFrame
  rw [hldr, hdraws]
  exact h

theorem modNvm (h : WorkFrame s t) (k : Nvm → Nvm) : WorkFrame s (t.modNvm k) := h.trans rfl
theorem modOnx (h : WorkFrame s t) (k : Onx → Onx) : WorkFrame s (t.modOnx k) := h.trans rfl
theorem modLdr (h : WorkFrame s t) (k : Ldr → Ldr) : WorkFrame s (t.modLdr k) := h.trans rfl
theorem setReg (h : WorkFrame s t) (i : Nat) (w : Word) : WorkFrame s (t.setReg i w) := h.trans rfl
theorem modF (h : WorkFrame s t) (p : Port) (k : Facet → Facet) : WorkFrame s (t.modF p k) :=
  h.trans (by cases p <;> rfl)
theorem draw (h : WorkFrame s t) (n : Nat) : WorkFrame s { t with draws := n } := h.trans rfl
theorem count (h : WorkFrame s t) (i lo n : Nat) : WorkFrame s (t.count i lo n) := h.setReg ..

theorem fault (h : WorkFrame s t) (n a b : Nat) (c : Bool) : WorkFrame s (t.fault n a b c) :=
  h.trans (ofUnit (ps := []) (UnitFrame.fault UnitFrame.refl ..))

theorem capture (h : WorkFrame s t) (j addr master typ size cause : Nat) :
    WorkFrame s (t.capture j addr master typ size cause) := by
  unfold State.capture
  dsimp only
  split
  · exact h
  · split
    · exact (h.count ..).fault ..
    · exact (((h.setReg ..).setReg ..).setReg ..).fault ..

theorem failedBytes (h : WorkFrame s t) (n : Nat) : WorkFrame s (t.failedBytes n).2 := by
  induction n generalizing t with
  | zero => exact h
  | succ n ih => exact ih (h.draw _)

theorem pageFailed (h : WorkFrame s t) (a cause m : Nat) : WorkFrame s (t.pageFailed a cause m) := by
  have hb := h.failedBytes 256
  unfold State.pageFailed
  generalize t.failedBytes 256 = r at hb ⊢
  exact (hb.modNvm _).capture ..

theorem nvmErased (h : WorkFrame s t) (a n : Nat) : WorkFrame s (t.nvmErased a n) := h.modNvm _
theorem pageRenewed (h : WorkFrame s t) (k : Nat) : WorkFrame s (t.pageRenewed k) := h.modNvm _

theorem programRecord (h : WorkFrame s t) (d : List Byte) (a : Nat) (r : ArrayResult) :
    WorkFrame s (t.programRecord d a r) := by
  have he : WorkFrame s (if a % 256 = 0 then t.nvmErased a 256 else t) := by split <;> [exact h.nvmErased ..; exact h]
  unfold State.programRecord
  cases r with
  | done => exact (he.modNvm _).pageRenewed _
  | eraseFailed => exact he.pageFailed ..
  | programFailed => exact he.pageFailed ..

theorem programPage (h : WorkFrame s t) (a : Nat) (d : List Byte) (r : ArrayResult) (m : Nat) :
    WorkFrame s (t.programPage a d r m) := by
  unfold State.programPage
  split
  · exact h.pageFailed ..
  · exact (h.modNvm _).pageRenewed _

theorem rewritePage (h : WorkFrame s t) (k : Nat) (d : List Byte) (r : ArrayResult) (m : Nat) :
    WorkFrame s (t.rewritePage k d r m) := by
  unfold State.rewritePage
  dsimp only
  split
  · exact (h.nvmErased ..).pageFailed ..
  · exact (h.nvmErased ..).programPage ..

theorem onyxError (h : WorkFrame s t) (cause m : Nat) : WorkFrame s (t.onyxError cause m) := (h.draw _).capture ..

theorem flushResult (h : WorkFrame s t) (m : Option Master) : WorkFrame s (t.flushResult m) := by
  cases m
  · exact h
  · exact h.setReg ..

theorem scrubbed (h : WorkFrame s t) (b k : Nat) (r : ArrayResult) : WorkFrame s (t.scrubbed b k r) := by
  cases r with
  | done =>
    have hp := (h.modNvm fun v => { v.scrubFinish k with erases := countErases v.erases k 1 }).pageRenewed k
    unfold State.scrubbed
    dsimp only
    split
    · exact (hp.modNvm _).count ..
    · exact hp
  | eraseFailed => exact h.capture ..
  | programFailed => exact h.capture ..

/-- An array operation that ends is such work. -/
theorem opDone (h : WorkFrame s t) (r : ArrayResult) (o : NvmOp) : WorkFrame s (t.opDone r o) := by
  cases o with
  | journal d a => exact h.programRecord ..
  | page a d => exact h.programPage ..
  | quarantine p x =>
    simp only [State.opDone]
    split
    · exact h.modF ..
    · exact h.onyxError ..
  | gauge => simp only [State.opDone]; split <;> [exact h; exact h.onyxError ..]
  | ledger => simp only [State.opDone]; split <;> [exact h.modNvm _; exact h.onyxError ..]
  | flush m =>
    simp only [State.opDone]
    split
    · exact h
    · exact (((h.rewritePage ..).modNvm _).setReg ..).flushResult _
  | eraseUser k m =>
    simp only [State.opDone]
    split
    · exact (h.pageFailed ..).setReg ..
    · exact (h.nvmErased ..).setReg ..
  | scrub b k => exact h.scrubbed ..

theorem foldl {α : Type} (k : State → α → State) (hk : ∀ x a, WorkFrame s x → WorkFrame s (k x a)) (l : List α)
    (h : WorkFrame s t) : WorkFrame s (l.foldl k t) := by
  induction l generalizing t with
  | nil => exact h
  | cons a l ih => exact ih (hk _ a h)

theorem drainOps (h : WorkFrame s t) (take : NvmOp → Bool) : WorkFrame s (t.drainOps take) :=
  foldl _ (fun _ o hx => hx.opDone .done o) _ (h.modNvm _)

theorem loaderCut (h : WorkFrame s t) : WorkFrame s t.loaderCut := by
  unfold State.loaderCut
  dsimp only
  split
  · split
    · exact (h.nvmErased ..).modLdr _
    · exact h.modLdr _
  · exact h.modLdr _

theorem jrnHeadFound (h : WorkFrame s t) : WorkFrame s t.jrnHeadFound := by
  unfold State.jrnHeadFound
  dsimp only
  split
  · exact h
  · exact h.modOnx _

end WorkFrame

end Sys2Proof.Machine
end

/-! ## Supervisors and entry to BOOT (R48, R50) -/

section
namespace Sys2Proof.Machine

variable (s : State)

/-! ### Supervisors -/

theorem Four.get_set_same {α : Type} (f : Four α) (p : Port) (x : α) : (f.set p x).get p = x := by cases p <;> rfl

theorem Four.get_set_ne {α : Type} (f : Four α) {p q : Port} (x : α) (h : q ≠ p) : (f.set p x).get q = f.get q := by
  cases p <;> cases q <;> first | rfl | exact absurd rfl h

/-- A supervisor's level in place. -/
def State.shown (s : State) (x : Supply) (v : Bool) : State :=
  match x with
  | .vbus p => { s with vbusOk := s.vbusOk.set p v }
  | .bat => { s with batOk := v }
  | .auxin => { s with auxOk := v }

theorem State.supplyBit_shown (x : Supply) (v : Bool) : ((s.shown x v).supplyBit x).2 = v := by
  cases x with
  | vbus p => exact Four.get_set_same ..
  | bat => rfl
  | auxin => rfl

theorem State.supplyBit_shown_ne (x y : Supply) (v : Bool) (hy : y ≠ x) :
    ((s.shown x v).supplyBit y).2 = (s.supplyBit y).2 := by
  cases x with
  | vbus p =>
    cases y with
    | vbus q => exact Four.get_set_ne _ _ fun e => hy (e ▸ rfl)
    | bat => rfl
    | auxin => rfl
  | bat => cases y <;> first | rfl | exact absurd rfl hy
  | auxin => cases y <;> first | rfl | exact absurd rfl hy

/-- The flag of a change touches a register only. -/
theorem State.setSupply_eq (x : Supply) (v : Bool) :
    ∃ t : State, s.setSupply x v = t.shown x v ∧ ∀ y, (t.supplyBit y).2 = (s.supplyBit y).2 := by
  refine ⟨if (s.supplyBit x).2 = v ∨ s.mode = .cold then s else s.orReg 0x0108 (flag (s.supplyBit x).1 true), ?_, fun y => ?_⟩
  · unfold State.setSupply
    dsimp only
    cases x <;> rfl
  · split
    · rfl
    · cases y <;> rfl

/-- Settles O6. -/
theorem supplyValidSetsItsSupervisor : Obligations.SupplyValidSetsItsSupervisor := by
  intro x v s
  obtain ⟨t, ht, hbit⟩ := s.setSupply_eq x (v && !(decide (x = .bat) && s.hub.bat.lockoutLatch))
  dsimp only
  rw [ht]
  refine ⟨fun hm => ?_, fun hm => ?_, t.supplyBit_shown x _,
    fun y hy => (t.supplyBit_shown_ne x y _ hy).trans (hbit y)⟩
  · rw [← ht]; exact if_pos hm
  · rw [← ht]; exact if_neg hm

/-! ### Entry to BOOT -/

/-- `u` is `s` but for the registers. -/
def RegFrame (s u : State) : Prop := u = { s with regs := u.regs }

namespace RegFrame

variable {s t u : State}

theorem refl : RegFrame s s := rfl
theorem trans (h : RegFrame s t) (k : RegFrame t u) : RegFrame s u :=
  Eq.trans k (congrArg (fun x : State => { x with regs := u.regs }) h)
theorem setReg (h : RegFrame s t) (i : Nat) (w : Word) : RegFrame s (t.setReg i w) := h.trans rfl

theorem ite {c : Prop} [Decidable c] (ht : RegFrame s t) (hu : RegFrame s u) : RegFrame s (if c then t else u) := by
  split
  · exact ht
  · exact hu

theorem putMirrors (h : RegFrame s t) (b : Nat) (e : Byte) (l : List (Nat × Word)) : RegFrame s (t.putMirrors b e l) := by
  induction l generalizing t with
  | nil => exact h
  | cons x l ih =>
    obtain ⟨o, w⟩ := x
    exact ih (h.setReg (b + o) (mirror e w))

/-- Only registers move while mirrors are refreshed. -/
theorem refreshFacet (h : RegFrame s t) (p : Port) : RegFrame s (t.refreshFacet p) := by
  unfold State.refreshFacet
  dsimp only
  split
  · exact h
  · exact h.putMirrors ..

theorem sealKept (h : RegFrame s t) : RegFrame s t.sealKept := by
  unfold State.sealKept
  split
  · split
    · exact h.setReg ..
    · exact h
  · exact h

theorem fillSel (h : RegFrame s t) : RegFrame s t.fillSel := by
  unfold State.fillSel
  dsimp only
  split
  · exact (((h.setReg ..).setReg ..).setReg ..).setReg ..
  · exact (((h.setReg ..).setReg ..).setReg ..).setReg ..

end RegFrame

/-- What power or a reboot leaves of `s`, before the boot count, the reset status and the mirrors. -/
def State.bootStart (s : State) (entry : Nat) : State :=
  { State.reset with
    pending := s.pending, draws := s.draws, sense := s.sense, tmode := s.tmode
    vbusOk := s.vbusOk, batOk := s.batOk, auxOk := s.auxOk
    dbBoot := !s.batOk && !s.auxOk, bootPort := firstValid s.vbusOk
    fa := s.fa.boot, fb := s.fb.boot, fc := s.fc.boot, fd := s.fd.boot
    hub := { Hub.reset with bat := { Bat.reset with record := s.hub.bat.record, removedSince := s.hub.bat.removedSince
                                                    lockoutLatch := s.hub.bat.lockoutLatch } }
    onx := s.onx.boot s.lc
    nvm := { s.nvm with buf := none, ops := [] }
    lap := { Lap.reset with sram := if entry = 0 then [] else s.lap.sram }
    gpio := { Gpio.reset with level := s.gpio.level } }

/-- The state a BOOT starts from: the loader cut short, what the NVM had begun ended, the journal's head found. -/
def State.bootFrom (s : State) : State := (s.loaderCut.drainOps fun o => !o.isPage).jrnHeadFound

theorem State.bootFrom_workFrame : WorkFrame s s.bootFrom := ((WorkFrame.refl.loaderCut).drainOps _).jrnHeadFound

/-- On entry to BOOT the boot count, registers and area states come on top of what is left. -/
theorem State.enterBoot_eq (entry : Nat) : ∃ r l c,
    s.enterBoot entry = { s.bootFrom.bootStart entry with
      regs := r, ldr := l, onx := { (s.bootFrom.bootStart entry).onx with counters := c } } := by
  let t := (s.bootFrom.bootStart entry).setCtr 6 (s.bootFrom.ctr 6 + 1)
  obtain ⟨v, hv, hu⟩ : ∃ v, RegFrame t v ∧ s.enterBoot entry = v.scanInit.fillSel := by
    refine ⟨_, ?_, rfl⟩
    refine ((((((RegFrame.setReg ?_ ..).setReg ..).refreshFacet .a).refreshFacet .b).refreshFacet .c).refreshFacet .d).sealKept
    exact .ite .refl ((RegFrame.refl.setReg ..).setReg ..)
  have hfill : s.enterBoot entry = { v.scanInit with regs := (s.enterBoot entry).regs } := hu ▸ (RegFrame.refl.fillSel : RegFrame v.scanInit _)
  refine ⟨(s.enterBoot entry).regs, v.scanInit.ldr, t.onx.counters, hfill.trans ?_⟩
  rw [show v = { t with regs := v.regs } from hv]
  rfl

theorem State.facet_jrnHeadFound (p : Port) : s.jrnHeadFound.facet p = s.facet p := by
  unfold State.jrnHeadFound
  dsimp only
  split
  · rfl
  · simp

/-- Every facet starts afresh, and QUARANTINED where it was or where its record stands (R40, R47). -/
theorem State.facet_enterBoot (entry : Nat) (p : Port) :
    (s.enterBoot entry).facet p = ((s.loaderCut.drainOps fun o => !o.isPage).facet p).boot := by
  obtain ⟨r, l, c, h⟩ := s.enterBoot_eq entry
  rw [h, ← State.facet_jrnHeadFound (s.loaderCut.drainOps fun o => !o.isPage)]
  cases p <;> rfl

/-- What stands on entry to BOOT whatever came before (R50, R9, R552). -/
theorem State.enterBoot_starts (entry : Nat) :
    let u := s.enterBoot entry
    u.mode = .boot ∧ u.cycles = 0 ∧ u.nextTick = 96000 ∧ u.imgAuth = false ∧ u.lap.run = .reset ∧ u.onx.grant = none
      ∧ u.awaits = [] ∧ u.nvm.ops = [] ∧ u.lap.sram = if entry = 0 then [] else s.lap.sram := by
  obtain ⟨r, l, c, h⟩ := s.enterBoot_eq entry
  have hlap : s.bootFrom.lap = s.lap := by rw [s.bootFrom_workFrame]
  dsimp only
  rw [h]
  exact ⟨rfl, rfl, rfl, rfl, rfl, rfl, rfl, rfl, by rw [← hlap]; rfl⟩

/-- The inputs' levels and the test mode stay (R517). -/
theorem State.enterBoot_keeps (entry : Nat) :
    let u := s.enterBoot entry
    u.tmode = s.tmode ∧ u.vbusOk = s.vbusOk ∧ u.batOk = s.batOk ∧ u.auxOk = s.auxOk := by
  obtain ⟨r, l, c, h⟩ := s.enterBoot_eq entry
  have ht : s.bootFrom.tmode = s.tmode := by rw [s.bootFrom_workFrame]
  have hv : s.bootFrom.vbusOk = s.vbusOk := by rw [s.bootFrom_workFrame]
  have hb : s.bootFrom.batOk = s.batOk := by rw [s.bootFrom_workFrame]
  have hx : s.bootFrom.auxOk = s.auxOk := by rw [s.bootFrom_workFrame]
  dsimp only
  rw [h]
  exact ⟨ht, hv, hb, hx⟩

/-- Settles O7: entry to BOOT keeps the levels, and each facet starts as its record says. -/
theorem powerOnEntersBoot : Obligations.PowerOnEntersBoot := by
  intro tm s
  refine ⟨fun h => if_neg ?_, fun hm hin => ?_⟩
  · rintro ⟨hm, hin⟩
    obtain h | h := h
    · exact h hm
    · rw [hin] at h; cases h
  · obtain ⟨hmode, hcyc, htick, hauth, hrun, hgrant, hawait, hops, hsram⟩ := ({ s with tmode := tm } : State).enterBoot_starts 0
    obtain ⟨htm, hv, hb, hx⟩ := ({ s with tmode := tm } : State).enterBoot_keeps 0
    refine ⟨if_pos ⟨hm, hin⟩, hmode, htm, hcyc, htick, hauth, hsram, hrun, hgrant, hawait, hops, hv, hb, hx, fun p => ?_⟩
    rw [State.facet_enterBoot]
    exact ⟨rfl, rfl, by simp [Facet.boot]⟩

end Sys2Proof.Machine
end

/-! ## The ends of BOOT, brown-out and the mode commands (R50 to R74) -/

section
namespace Sys2Proof.Machine

/-! ### Work that leaves the hub and the facets -/

namespace WorkFrame

variable {s t : State}

theorem jrn (h : WorkFrame s t) (a : Nat) (l : List Byte) (b : Bool) : WorkFrame s (t.jrn a l b) :=
  h.trans (ofUnit (ps := []) (UnitFrame.jrn UnitFrame.refl ..))

theorem regs {u : State} (h : WorkFrame s t) (k : RegFrame t u) : WorkFrame s u :=
  h.trans (by rw [show u = { t with regs := u.regs } from k]; rfl)

theorem fillSel (h : WorkFrame s t) : WorkFrame s t.fillSel := h.regs RegFrame.refl.fillSel

theorem scrubResume (h : WorkFrame s t) : WorkFrame s t.scrubResume := by
  refine foldl _ (fun x e hx => ?_) _ h
  dsimp only
  split
  · exact hx
  · exact hx.modNvm _

theorem jrnRejects (h : WorkFrame s t) (slot a n : Nat) : WorkFrame s (t.jrnRejects slot a n) := by
  induction n generalizing t a with
  | zero => exact h
  | succ n ih =>
    unfold State.jrnRejects
    refine ih ?_ _
    split
    · exact h.jrn ..
    · exact h

theorem jrnOpened (h : WorkFrame s t) (slot version : Nat) : WorkFrame s (t.jrnOpened slot version) := by
  unfold State.jrnOpened
  split
  · exact ((h.modOnx _).jrn ..).jrnRejects ..
  · exact h

theorem setCfgErr (h : WorkFrame s t) (code slot area sec : Nat) : WorkFrame s (t.setCfgErr code slot area sec) := h.setReg ..

theorem modArea (h : WorkFrame s t) (slot a : Nat) (g : Area → Area) : WorkFrame s (t.modArea slot a g) := h.modLdr _

theorem nvmUnread (h : WorkFrame s t) (slot area : Nat) (want : Sec → Bool) (code : Nat) :
    WorkFrame s (t.nvmUnread slot area want code) := by
  unfold State.nvmUnread
  split
  · exact h.capture ..
  · exact h

theorem scanReject (h : WorkFrame s t) (slot area code sec : Nat) : WorkFrame s (t.scanReject slot area code sec) := by
  unfold State.scanReject
  refine (nvmUnread (modArea ?_ ..) ..).fault ..
  split
  · exact h.setCfgErr ..
  · exact h

theorem scanCells (h : WorkFrame s t) (slot : Nat) (g : Img) (acc : List (Nat × Img)) (a n : Nat) :
    WorkFrame s (t.scanCells slot g acc a n).1 := by
  induction n generalizing t a acc with
  | zero => exact h
  | succ n ih =>
    unfold State.scanCells
    split
    · exact ih (h.modArea ..) ..
    · split
      · exact ih ((h.modArea ..).setReg ..) ..
      · exact ih (h.scanReject ..) ..

theorem scanSlots (h : WorkFrame s t) (l : List Nat) : WorkFrame s (t.scanSlots l).1 := by
  induction l generalizing t with
  | nil => exact h
  | cons k l ih =>
    unfold State.scanSlots
    split
    · exact (h.modArea ..).scanCells ..
    · exact ih (h.scanReject ..)

/-- The boot scan reads areas and reports what it rejects (R104, R105). -/
theorem bootScan (h : WorkFrame s t) : WorkFrame s t.bootScan.1 :=
  (((h.modLdr _).setReg ..).setReg ..).scanSlots _

theorem bootCounted (h : WorkFrame s t) (r : ArrayResult) : WorkFrame s (t.bootCounted r) := by
  unfold State.bootCounted
  split
  · exact h
  · exact (h.modOnx _).onyxError ..

theorem cfgResult (h : WorkFrame s t) (m : Master) (r : Res) (y : Reason) : WorkFrame s (t.cfgResult m r y) :=
  ((h.setReg ..).setReg ..).fillSel

theorem ofPort {p : Port} (h : PortFrame p s t) : WorkFrame s t := ofUnit (UnitFrame.ofPort (List.mem_singleton_self p) h)

theorem cellEvent (h : WorkFrame s t) (slot area : Nat) : WorkFrame s (t.cellEvent slot area) := by
  unfold State.cellEvent
  split
  · exact h
  · split
    · dsimp only
      split
      · exact h.trans (ofPort ((PortFrame.refl.modRc _).postF ..))
      · exact h
    · split
      · exact h.trans (ofUnit (ps := []) (UnitFrame.postH (UnitFrame.modHub UnitFrame.refl _) ..))
      · exact h

theorem cfgStart (h : WorkFrame s t) (op : LdrOp) (slot area : Nat) (m : Master) : WorkFrame s (t.cfgStart op slot area m) := by
  have hr := (h.modLdr fun l => { l with cmd := some { op := op, slot := BitVec.ofNat 2 slot, area := BitVec.ofNat 3 area, m := m } }).setReg
    0x0202 (pendingWord 0 m)
  unfold State.cfgStart
  cases op with
  | erase => exact (hr.modLdr _).cellEvent ..
  | openWrite => exact ((hr.modLdr _).modArea ..).cellEvent ..
  | closeWrite => exact hr
  | verify => exact hr
  | commit => exact hr

theorem cfgJudge (h : WorkFrame s t) (m : Master) (op arg : Nat) : WorkFrame s (t.cfgJudge m op arg) := by
  unfold State.cfgJudge
  split
  · exact h.cfgResult ..
  · dsimp only
    split
    · exact h.cfgResult ..
    · split
      · exact h.cfgResult ..
      · split
        · exact h.cfgResult ..
        · exact h.cfgStart ..

/-- A loader command that waited is judged (R142). -/
theorem cfgWaiting (h : WorkFrame s t) : WorkFrame s t.cfgWaiting := by
  unfold State.cfgWaiting
  split
  · exact h
  · split
    · exact h
    · exact (h.modLdr _).cfgJudge ..

end WorkFrame

/-! ### The ends of BOOT -/

/-- The last steps of `takeControl`: RUN, Lapidary released at its entry, and work that touches neither. -/
def State.released (t : State) (slot version : Nat) : State :=
  ((({ t with mode := .run } : State).scrubResume.modLap fun l => { l with run := .running, pc := l.entry }).jrnOpened
    slot version).fillSel

theorem State.released_runs (t : State) (slot version : Nat) :
    (t.released slot version).mode = .run ∧ (t.released slot version).lap.run = .running
      ∧ (t.released slot version).lap.pc = (t.released slot version).lap.entry := by
  have hresume : WorkFrame { t with mode := .run } ({ t with mode := .run } : State).scrubResume := WorkFrame.refl.scrubResume
  have hmode : ({ t with mode := .run } : State).scrubResume.mode = .run := by rw [hresume]
  unfold State.released
  generalize ({ t with mode := .run } : State).scrubResume = v at hmode ⊢
  have hwork : WorkFrame (v.modLap fun l => { l with run := .running, pc := l.entry }) _ :=
    (WorkFrame.refl.jrnOpened slot version).fillSel
  rw [hwork]
  exact ⟨hmode, rfl, rfl⟩

/-- The image takes control in RUN, with Lapidary released at its entry (R53). -/
theorem State.takeControl_runs (s : State) (d : Found) :
    (s.takeControl d).mode = .run ∧ (s.takeControl d).lap.run = .running
      ∧ (s.takeControl d).lap.pc = (s.takeControl d).lap.entry := by
  obtain ⟨t, ht⟩ : ∃ t : State, s.takeControl d = t.released d.slot d.img.version := ⟨_, rfl⟩
  rw [ht]
  exact t.released_runs ..

/-! ### Entry to SAFE -/

/-- A property of the hub that neither a reconfiguration's staging nor an epoch touches stays while a loader command is judged. -/
theorem State.hub_cfgWaiting_keep {α : Sort*} (φ : Hub → α) (hadv : ∀ (h : Hub) n, φ (h.advance n) = φ h)
    (hrc : ∀ (h : Hub) x, φ { h with rc := x } = φ h) (s : State) : φ s.cfgWaiting.hub = φ s.hub := by
  have hresult (t : State) (m r y) : (t.cfgResult m r y).hub = t.hub := by
    have hr : RegFrame t (t.cfgResult m r y) := ((RegFrame.refl.setReg ..).setReg ..).fillSel
    rw [hr]
  have hcell (t : State) (slot area) : φ (t.cellEvent slot area).hub = φ t.hub := by
    unfold State.cellEvent
    split
    · rfl
    · split
      · dsimp only
        split
        · rw [State.hub_postF]
          exact congrArg φ (by unfold State.modRc; simp)
        · rfl
      · split
        · change φ (t.modHub fun h => { h with rc := h.rc.discard }).hub = _
          rw [t.hub_modHub_keep φ hadv]
          exact hrc ..
        · rfl
  have hstart (t : State) (op slot area m) : φ (t.cfgStart op slot area m).hub = φ t.hub := by
    unfold State.cfgStart
    cases op with
    | erase => exact hcell _ _ _
    | openWrite => exact hcell _ _ _
    | closeWrite => rfl
    | verify => rfl
    | commit => rfl
  unfold State.cfgWaiting
  split
  · rfl
  · split
    · rfl
    · unfold State.cfgJudge
      split
      · rw [hresult]; rfl
      · dsimp only
        split
        · rw [hresult]; rfl
        · split
          · rw [hresult]; rfl
          · split
            · rw [hresult]; rfl
            · exact hstart _ _ _ _ _

/-- What SAFE entry puts in place before the waiting loader command and the report. -/
structure SafeOutputs (s : State) : Prop where
  mode : s.mode = .safe
  lap : s.lap.run = .reset
  cv1 : s.hub.cv1.st = .off
  cv2 : s.hub.cv2.st = .off
  en0 : s.hub.en0 = false
  en1 : s.hub.en1 = false
  gpio : s.gpio.released = 0xF

theorem SafeOutputs.cfgWaiting {s : State} (h : SafeOutputs s) : SafeOutputs s.cfgWaiting := by
  have hw : WorkFrame s s.cfgWaiting := WorkFrame.refl.cfgWaiting
  have hkeep {α : Type} (φ : Hub → α) := State.hub_cfgWaiting_keep φ (s := s)
  obtain ⟨hm, hl, h1, h2, he0, he1, hg⟩ := h
  exact {
    mode := by rw [hw]; exact hm
    lap := by rw [hw]; exact hl
    cv1 := (hkeep (·.cv1.st) (fun h n => by rw [h.advance_rest n]) fun _ _ => rfl).trans h1
    cv2 := (hkeep (·.cv2.st) (fun h n => by rw [h.advance_rest n]) fun _ _ => rfl).trans h2
    en0 := (hkeep (·.en0) (fun h n => by rw [h.advance_rest n]) fun _ _ => rfl).trans he0
    en1 := (hkeep (·.en1) (fun h n => by rw [h.advance_rest n]) fun _ _ => rfl).trans he1
    gpio := by rw [hw]; exact hg }

theorem SafeOutputs.jrn {s : State} (h : SafeOutputs s) (a : Nat) (l : List Byte) (b : Bool) : SafeOutputs (s.jrn a l b) := by
  have hkeep {α : Type} (φ : State → α) := State.jrn_keep φ (typ := a) (l := l) (fw := b) (s := s)
  have hmode := hkeep State.mode (fun _ _ => rfl) fun _ _ => rfl
  have hlap := hkeep State.lap (fun _ _ => rfl) fun _ _ => rfl
  have hhub := hkeep State.hub (fun _ _ => rfl) fun _ _ => rfl
  have hgpio := hkeep State.gpio (fun _ _ => rfl) fun _ _ => rfl
  obtain ⟨hm, hl, h1, h2, he0, he1, hg⟩ := h
  exact ⟨hmode ▸ hm, hlap ▸ hl, hhub ▸ h1, hhub ▸ h2, hhub ▸ he0, hhub ▸ he1, hgpio ▸ hg⟩

theorem SafeOutputs.setReg {s : State} (h : SafeOutputs s) (i : Nat) (w : Word) : SafeOutputs (s.setReg i w) := by
  obtain ⟨hm, hl, h1, h2, he0, he1, hg⟩ := h
  exact ⟨hm, hl, h1, h2, he0, he1, hg⟩

/-- Both converters are off once every converter was turned off. -/
theorem State.st_convsOff (s : State) : s.convsOff.hub.cv1.st = .off ∧ s.convsOff.hub.cv2.st = .off := by
  unfold State.convsOff
  dsimp only
  rw [State.cv1_modHub, State.cv2_modHub]
  generalize (if s.hub.bat.phase.active = true then s.stopCharge .suspended else s) = t
  have h1 : (((t.modCv .cv1 Cv.off).modCv .cv2 Cv.off).cv .cv1).st = .off := by
    rw [State.cv_modCv_ne _ (by decide), State.cv_modCv]; rfl
  have h2 : (((t.modCv .cv1 Cv.off).modCv .cv2 Cv.off).cv .cv2).st = .off := by
    rw [State.cv_modCv]; rfl
  exact ⟨h1, h2⟩

/-- What stands between the converters' stop and the waiting loader command. -/
def State.safeOutputs (s : State) : State :=
  { (((s.convsOff.lapReset).modHub fun h => { h with en0 := false, en1 := false, frozen := false }).modGpio fun g =>
      { g with released := 0xF }) with mode := .safe }

theorem State.safeOutputs_outputs (s : State) : SafeOutputs s.safeOutputs := by
  obtain ⟨h1, h2⟩ := s.st_convsOff
  have hkeep {α : Type} (φ : Hub → α) := s.convsOff.lapReset.hub_modHub_keep φ
    (g := fun h => { h with en0 := false, en1 := false, frozen := false })
  exact {
    mode := rfl
    lap := rfl
    cv1 := (hkeep (·.cv1.st) fun h n => by rw [h.advance_rest n]).trans h1
    cv2 := (hkeep (·.cv2.st) fun h n => by rw [h.advance_rest n]).trans h2
    en0 := hkeep (·.en0) fun h n => by rw [h.advance_rest n]
    en1 := hkeep (·.en1) fun h n => by rw [h.advance_rest n]
    gpio := rfl }

/-- SAFE entry from any mode but COLD and SAFE (R70). -/
theorem State.enterSafe_outputs (s : State) (cause cls block : Nat) (hsafe : s.mode ≠ .safe) (hcold : s.mode ≠ .cold) :
    SafeOutputs (s.enterSafe cause cls block) := by
  obtain ⟨t, ht⟩ : ∃ t : State, s.enterSafe cause cls block
      = (t.safeOutputs.cfgWaiting.setReg 0x0107 (fw 0 cause ||| fw 8 cls ||| fw 12 block)).jrn 0x03
        (leBytes 4 (fw 0 cause ||| fw 8 cls ||| fw 12 block).toNat) := by
    unfold State.enterSafe
    rw [if_neg (not_or.mpr ⟨hsafe, hcold⟩)]
    exact ⟨_, rfl⟩
  rw [ht]
  exact ((t.safeOutputs_outputs.cfgWaiting).setReg ..).jrn ..

theorem State.mode_enterSafe (s : State) (cause cls block : Nat) (hcold : s.mode ≠ .cold) :
    (s.enterSafe cause cls block).mode = .safe := by
  by_cases hsafe : s.mode = .safe
  · unfold State.enterSafe
    rw [if_pos (.inl hsafe), hsafe]
  · exact (s.enterSafe_outputs cause cls block hsafe hcold).mode

/-- Settles O8: the row taken is the one the boot scan answers. -/
theorem bootEndsInRunOrSafe : Obligations.BootEndsInRunOrSafe := by
  intro ctr s hb
  have hmode : s.mode = .boot := by
    simp only [State.booting, Bool.and_eq_true, decide_eq_true_eq] at hb
    exact hb.1.1
  have hcold {t : State} (h : WorkFrame s t) : t.mode ≠ .cold := by rw [h, hmode]; decide
  have hcount : WorkFrame s (s.bootCounted ctr) := WorkFrame.refl.bootCounted ctr
  refine ⟨?_, fun hself => ⟨if_pos ⟨hb, hself⟩, State.mode_enterSafe _ _ _ _ (hcold hcount)⟩⟩
  have hscan : WorkFrame s (s.bootCounted ctr).selfTested.bootScan.1 := (hcount.modOnx _).bootScan
  change match (s.bootCounted ctr).selfTested.bootScan with
    | (t, some d) => execBootImageLoaded ctr s = _ ∧ execNoValidImage ctr s = _ ∧ _ ∧ _ ∧ _
    | (t, none) => execNoValidImage ctr s = _ ∧ _ ∧ execBootImageLoaded ctr s = _
  unfold execBootImageLoaded execNoValidImage
  rw [if_pos hb, if_pos hb]
  generalize (s.bootCounted ctr).selfTested.bootScan = r at hscan ⊢
  obtain ⟨t, _ | d⟩ := r
  · exact ⟨rfl, State.mode_enterSafe _ _ _ _ (hcold hscan.fillSel), rfl⟩
  · exact ⟨rfl, rfl, t.takeControl_runs d⟩

end Sys2Proof.Machine
end

/-! ## Brown-out and the mode commands (R50, R72, R556) -/

section
namespace Sys2Proof.Machine

/-- Below power-on reset a quarantine lasts by its record alone (R40). -/
theorem Facet.fstate_unpowered (f : Facet) : f.unpowered.fstate = if f.qRecord then .quarantined else .off := by
  unfold Facet.unpowered Facet.boot
  cases h : f.qRecord <;> simp

/-- Settles O10: the warning's row by the mode, and the fall below power-on reset as `toCold` leaves it. -/
theorem brownOutEndsInCold : Obligations.BrownOutEndsInCold := by
  have hidle {s : State} (hm : s.mode ≠ .cold) (hb : s.bow = false) (hin : s.anyInput = false) :
      ¬(s.mode = .cold ∨ s.bow = true ∨ s.anyInput = true) := by simp [hm, hb, hin]
  refine ⟨fun s hcold hboot hb hin => ?warning, fun s hboot hb hin => ?inBoot, fun s hb => ?por⟩
  case warning =>
    change execBrownOutWarning s = _
    rw [execBrownOutWarning, if_neg (hidle hcold hb hin), if_neg hboot]
  case inBoot =>
    change execBrownOutWarning s = _
    rw [execBrownOutWarning, if_neg (hidle (by simp [hboot]) hb hin), if_pos hboot]
  case por =>
    refine ⟨s.toCold.discharged, if_pos hb, rfl, rfl, rfl, rfl, rfl, rfl, rfl, fun p => ?_⟩
    cases p <;> exact Facet.fstate_unpowered _

/-! ### Mode commands -/

variable {s : State} {m : Master} {arg : Half}

/-- With no command before it a mode command is evaluated in its row. -/
theorem powered_modeRow (hon : s.on = true) (hnone : s.awaits = []) (op : Nat) :
    powered s (s.modeRow m op arg) = done (s.modeWrite m op arg) := by
  rw [powered_of_on s _ hon, State.modeRow, if_pos hnone]

/-- Behind a command that awaits it waits (log entry 37). -/
theorem powered_modeRow_behind (hon : s.on = true) (hsome : s.awaits ≠ []) (op : Nat) :
    powered s (s.modeRow m op arg) = done (s.await (.mode m) op 0 arg.toNat true) := by
  rw [powered_of_on s _ hon, State.modeRow, if_neg hsome]

section
variable {allowed pre auth : Bool} {go : State}

/-! R556's order, one equation per outcome. -/

theorem State.modeCmd_badArg (h : arg ≠ 0) : s.modeCmd m arg allowed pre auth go = s.modeResult m .refused .badCmd := if_pos h

theorem State.modeCmd_wrongMode (h : allowed = false) :
    s.modeCmd m 0 allowed pre auth go = s.modeResult m .refused .deviceMode := by simp [State.modeCmd, h]

theorem State.modeCmd_unmet (h : allowed = true) (hp : pre = false) :
    s.modeCmd m 0 allowed pre auth go = s.modeResult m .refused .precondition := by simp [State.modeCmd, h, hp]

theorem State.modeCmd_noGrant (h : allowed = true) (hp : pre = true) (ha : auth = false) :
    s.modeCmd m 0 allowed pre auth go = s.modeResult m .refused .notAuthenticated := by simp [State.modeCmd, h, hp, ha]

theorem State.modeCmd_goes (h : allowed = true) (hp : pre = true) (ha : auth = true) :
    s.modeCmd m 0 allowed pre auth go = go := by simp [State.modeCmd, h, hp, ha]

end

theorem State.awake_of (h : s.mode = .run ∨ s.mode = .standby) : s.awake = true := by simpa [State.awake] using h

theorem State.awake_not (hr : s.mode ≠ .run) (hs : s.mode ≠ .standby) : s.awake = false := by simp [State.awake, hr, hs]

/-- Settles O11: each command goes where its mode, its precondition and its grant allow it. -/
theorem modeCommandsTakeEffect : Obligations.ModeCommandsTakeEffect := by
  intro m s hon hnone
  have row (op : Nat) := powered_modeRow (m := m) (arg := 0) hon hnone op
  refine ⟨fun hm => ?standby, fun hm hready => ?sentinel, fun hm => ⟨?reboot, (State.enterBoot_starts _ _).1⟩, fun hm => ?safe,
    fun hm hg => ⟨?exit, (State.enterBoot_starts _ _).1, ?grant⟩⟩
  case standby => exact (row 1).trans (congrArg done (State.modeCmd_goes (decide_eq_true hm) rfl rfl))
  case sentinel => exact (row 2).trans (congrArg done (State.modeCmd_goes (State.awake_of hm) hready rfl))
  case reboot => exact (row 3).trans (congrArg done (State.modeCmd_goes (State.awake_of hm) rfl rfl))
  case safe => exact (row 4).trans (congrArg done (State.modeCmd_goes (State.awake_of hm) rfl rfl))
  case exit => exact (row 5).trans (congrArg done (State.modeCmd_goes (decide_eq_true hm) rfl hg))
  case grant =>
    obtain ⟨-, -, -, -, -, h, -⟩ := State.enterBoot_starts ((s.useGrant.ledgerSaved).jrnClose 3) 2
    exact h

/-- Settles O12: R556's order, and the wait behind a command not evaluated yet. -/
theorem refusedModeCommandsChangeNothing : Obligations.RefusedModeCommandsChangeNothing := by
  intro m arg s hon
  refine ⟨fun hnone => ?judged, fun hsome c hc => ?behind⟩
  case judged =>
    have row (a : Half) (op : Nat) := powered_modeRow (m := m) (arg := a) hon hnone op
    refine ⟨fun harg c hc => ?badArg, fun hm => ?standby, fun hr hs c hc => ?asleep, fun hm => ?exit, fun hm hready => ?unmet,
      fun hm hg => ?noGrant⟩
    case badArg =>
      simp only [List.mem_cons, List.not_mem_nil, or_false] at hc
      obtain rfl | rfl | rfl | rfl | rfl := hc
      · exact (row arg 1).trans (congrArg done (State.modeCmd_badArg harg))
      · exact (row arg 2).trans (congrArg done (State.modeCmd_badArg harg))
      · exact (row arg 3).trans (congrArg done (State.modeCmd_badArg harg))
      · exact (row arg 4).trans (congrArg done (State.modeCmd_badArg harg))
      · exact (row arg 5).trans (congrArg done (State.modeCmd_badArg harg))
    case standby => exact (row 0 1).trans (congrArg done (State.modeCmd_wrongMode (decide_eq_false hm)))
    case asleep =>
      simp only [List.mem_cons, List.not_mem_nil, or_false] at hc
      obtain rfl | rfl | rfl := hc
      · exact (row 0 2).trans (congrArg done (State.modeCmd_wrongMode (State.awake_not hr hs)))
      · exact (row 0 3).trans (congrArg done (State.modeCmd_wrongMode (State.awake_not hr hs)))
      · exact (row 0 4).trans (congrArg done (State.modeCmd_wrongMode (State.awake_not hr hs)))
    case exit => exact (row 0 5).trans (congrArg done (State.modeCmd_wrongMode (decide_eq_false hm)))
    case unmet => exact (row 0 2).trans (congrArg done (State.modeCmd_unmet (State.awake_of hm) hready))
    case noGrant => exact (row 0 5).trans (congrArg done (State.modeCmd_noGrant (decide_eq_true hm) rfl hg))
  case behind =>
    simp only [List.mem_cons, List.not_mem_nil, or_false] at hc
    obtain rfl | rfl | rfl | rfl | rfl := hc <;> exact powered_modeRow_behind hon hsome _

end Sys2Proof.Machine
end

/-! ## What an operation changes of its own facet

`PortFrame` and `UnitFrame` say which units an operation leaves alone; `PartFrame` says which parts of its own facet it
may change, the epoch's bookkeeping (R41) always among them. -/

section
namespace Sys2Proof.Machine

/-- The parts of a facet, the discharge apart from the rest of the power path. -/
inductive Part where
  | fstate | cfg | cc | pd | ct | pp | disch | lk | rc | clamp | quarantine
deriving DecidableEq

/-- A facet with its epoch's bookkeeping and the parts named blanked out. -/
def Facet.mask (ps : List Part) (f : Facet) : Facet :=
  { epoch := 0, epPend := false, epLast := none, fresh := false
    fstate := if .fstate ∈ ps then .off else f.fstate
    cfg := if .cfg ∈ ps then Facet.reset.cfg else f.cfg
    pdo := if .cfg ∈ ps then Facet.reset.pdo else f.pdo
    vdm := if .cfg ∈ ps then Facet.reset.vdm else f.vdm
    cc := if .cc ∈ ps then Cc.reset else f.cc
    pd := if .pd ∈ ps then Pd.reset else f.pd
    ct := if .ct ∈ ps then Ct.reset else f.ct
    pp := if .pp ∈ ps then Pp.reset else if .disch ∈ ps then { f.pp with disch := .off } else f.pp
    lk := if .lk ∈ ps then Facet.reset.lk else f.lk
    rc := if .rc ∈ ps then Facet.reset.rc else f.rc
    clampIlim := if .clamp ∈ ps then false else f.clampIlim
    qPending := if .quarantine ∈ ps then false else f.qPending
    qRecord := if .quarantine ∈ ps then false else f.qRecord }

theorem Facet.mask_advance (ps : List Part) (n : Nat) (f : Facet) : (f.advance n).mask ps = f.mask ps := by
  unfold Facet.advance
  split
  · rfl
  · split
    · rfl
    · split <;> rfl

/-- Facet `p` of `u` is that of `s` but for the parts named. -/
def PartFrame (ps : List Part) (p : Port) (s u : State) : Prop := (u.facet p).mask ps = (s.facet p).mask ps

namespace PartFrame

variable {ps : List Part} {p : Port} {s t u : State}

theorem refl : PartFrame ps p s s := rfl
theorem trans (h : PartFrame ps p s t) (k : PartFrame ps p t u) : PartFrame ps p s u := Eq.trans k h
theorem of_facet (h : PartFrame ps p s t) (e : u.facet p = t.facet p) : PartFrame ps p s u :=
  h.trans (congrArg (Facet.mask ps) e)

/-! ### What it keeps -/

theorem fstate (h : PartFrame ps p s u) (hn : .fstate ∉ ps := by decide) : (u.facet p).fstate = (s.facet p).fstate := by
  simpa only [Facet.mask, if_neg hn] using congrArg Facet.fstate h
theorem cfg (h : PartFrame ps p s u) (hn : .cfg ∉ ps := by decide) : (u.facet p).cfg = (s.facet p).cfg := by
  simpa only [Facet.mask, if_neg hn] using congrArg Facet.cfg h
theorem cc (h : PartFrame ps p s u) (hn : .cc ∉ ps := by decide) : (u.facet p).cc = (s.facet p).cc := by
  simpa only [Facet.mask, if_neg hn] using congrArg Facet.cc h
theorem pd (h : PartFrame ps p s u) (hn : .pd ∉ ps := by decide) : (u.facet p).pd = (s.facet p).pd := by
  simpa only [Facet.mask, if_neg hn] using congrArg Facet.pd h
theorem ct (h : PartFrame ps p s u) (hn : .ct ∉ ps := by decide) : (u.facet p).ct = (s.facet p).ct := by
  simpa only [Facet.mask, if_neg hn] using congrArg Facet.ct h
theorem pp (h : PartFrame ps p s u) (hn : .pp ∉ ps ∧ .disch ∉ ps := by decide) : (u.facet p).pp = (s.facet p).pp := by
  simpa only [Facet.mask, if_neg hn.1, if_neg hn.2] using congrArg Facet.pp h
theorem rc (h : PartFrame ps p s u) (hn : .rc ∉ ps := by decide) : (u.facet p).rc = (s.facet p).rc := by
  simpa only [Facet.mask, if_neg hn] using congrArg Facet.rc h

/-- All of the power path but the discharge. -/
theorem ppBut (h : PartFrame ps p s u) (hn : .pp ∉ ps := by decide) :
    { (u.facet p).pp with disch := .off } = { (s.facet p).pp with disch := .off } := by
  have e : (if Part.disch ∈ ps then { (u.facet p).pp with disch := .off } else (u.facet p).pp)
      = if Part.disch ∈ ps then { (s.facet p).pp with disch := .off } else (s.facet p).pp := by
    simpa only [Facet.mask, if_neg hn] using congrArg Facet.pp h
  split at e
  · exact e
  · rw [e]

theorem swCmd (h : PartFrame ps p s u) (hn : .pp ∉ ps := by decide) : (u.facet p).pp.swCmd = (s.facet p).pp.swCmd := by
  have e := congrArg Pp.swCmd (h.ppBut hn)
  exact e

/-! ### Operations of one part -/

theorem modF (h : PartFrame ps p s t) (g : Facet → Facet) (hg : ∀ f, (g f).mask ps = f.mask ps) :
    PartFrame ps p s (t.modF p g) := by
  refine h.trans ?_
  unfold PartFrame
  rw [State.facet_modF]
  split
  · exact hg _
  · rw [Facet.mask_advance]; exact hg _

theorem modCc (h : PartFrame ps p s t) (g : Cc → Cc) (hin : .cc ∈ ps := by decide) : PartFrame ps p s (t.modCc p g) :=
  h.modF _ fun f => by simp only [Facet.mask, if_pos hin]
theorem modPd (h : PartFrame ps p s t) (g : Pd → Pd) (hin : .pd ∈ ps := by decide) : PartFrame ps p s (t.modPd p g) :=
  h.modF _ fun f => by simp only [Facet.mask, if_pos hin]
theorem modCt (h : PartFrame ps p s t) (g : Ct → Ct) (hin : .ct ∈ ps := by decide) : PartFrame ps p s (t.modCt p g) :=
  h.modF _ fun f => by simp only [Facet.mask, if_pos hin]
theorem modPp (h : PartFrame ps p s t) (g : Pp → Pp) (hin : .pp ∈ ps := by decide) : PartFrame ps p s (t.modPp p g) :=
  h.modF _ fun f => by simp only [Facet.mask, if_pos hin]
theorem modLk (h : PartFrame ps p s t) (g : Lk → Lk) (hin : .lk ∈ ps := by decide) : PartFrame ps p s (t.modLk p g) :=
  h.modF _ fun f => by simp only [Facet.mask, if_pos hin]
theorem modRc (h : PartFrame ps p s t) (g : Rcfg Bank → Rcfg Bank) (hin : .rc ∈ ps := by decide) :
    PartFrame ps p s (t.modRc p g) := h.modF _ fun f => by simp only [Facet.mask, if_pos hin]
theorem modDisch (h : PartFrame ps p s t) (g : Pp → Disch) (hin : .disch ∈ ps := by decide) :
    PartFrame ps p s (t.modPp p fun x => { x with disch := g x }) := h.modF _ fun f => by
  simp only [Facet.mask, if_pos hin]

/-! ### Operations of other parts of the block -/

theorem setReg (h : PartFrame ps p s t) (i : Nat) (w : Word) : PartFrame ps p s (t.setReg i w) := h.of_facet (by simp)
theorem orReg (h : PartFrame ps p s t) (i : Nat) (w : Word) : PartFrame ps p s (t.orReg i w) := h.of_facet (by simp)
theorem count (h : PartFrame ps p s t) (i lo n : Nat) : PartFrame ps p s (t.count i lo n) := h.of_facet (by simp)
theorem postF (h : PartFrame ps p s t) (q : Port) (c : Byte) (a : Half) : PartFrame ps p s (t.postF q c a) :=
  h.of_facet (by simp)
theorem fault (h : PartFrame ps p s t) (n a b : Nat) (c : Bool) : PartFrame ps p s (t.fault n a b c) := h.of_facet (by simp)
theorem feedEnd (h : PartFrame ps p s t) (b : Bus) (c : Nat) : PartFrame ps p s (t.feedEnd b c) := h.of_facet (by simp)
theorem modFeed (h : PartFrame ps p s t) (b : Bus) (g : FeedBus → FeedBus) : PartFrame ps p s (t.modFeed b g) :=
  h.of_facet (by simp)

/-- An operation on another port leaves this facet. -/
theorem ofOther {q : Port} (h : PartFrame ps p s t) (k : PortFrame q t u) (hq : p ≠ q) : PartFrame ps p s u :=
  h.of_facet (k.1 p hq)

theorem ite {c : Prop} [Decidable c] (ht : PartFrame ps p s t) (hu : PartFrame ps p s u) :
    PartFrame ps p s (if c then t else u) := by
  split
  · exact ht
  · exact hu

end PartFrame

end Sys2Proof.Machine
end

/-! ## How the hub's commands are judged (R44, R120, R319, R361) -/

section
namespace Sys2Proof.Machine

variable {s : State} {e : Byte} {op arg : Nat} {src : Src} {i : Instr}

/-! ### The order of the checks -/

theorem State.judgeHub_badArg (ha : hubArgOk op arg = false) : s.judgeHub op e arg = (.refused, .badCmd, 0) := by
  simp [State.judgeHub, ha]

theorem State.judgeHub_stale (ha : hubArgOk op arg = true) (h : s.hub.epoch ≠ e ∨ s.hub.epPend = true) :
    s.judgeHub op e arg = (.stale, .none, 0) := by
  simp [State.judgeHub, ha, h]

theorem State.judgeHub_wrongMode (ha : hubArgOk op arg = true) (he : s.hub.epoch = e) (hp : s.hub.epPend = false)
    (h : s.mode ≠ .standby ∧ s.mode ≠ .run) : s.judgeHub op e arg = (.refused, .deviceMode, 0) := by
  simp [State.judgeHub, ha, he, hp, h]

/-- What is left to judge of a command whose argument, epoch and mode are in order. -/
theorem State.judgeHub_takes (h : s.takesH e) (ha : hubArgOk op arg = true) :
    s.judgeHub op e arg =
      (let rc := decide (0x30 ≤ op ∧ op ≤ 0x33)
      if rc && decide (s.hub.fstate = .held) then (.refused, .precondition, 0)
      else if s.hub.fstate ≠ .live then (.refused, .facetState, 0)
      else if rc && decide (s.hubRefuse op ≠ 0) then (.refused, .precondition, s.hubRefuse op % 8)
      else if 0x50 ≤ op ∧ op ≤ 0x53 ∧ s.cvOk op arg = false then (.refused, .precondition, 0)
      else if 0x60 ≤ op ∧ s.batCmdOk op arg = false then (.refused, .precondition, 0)
      else (.accepted, .none, 0)) := by
  obtain ⟨-, -, he, hp, hm⟩ := h
  have hmode : ¬(s.mode ≠ .standby ∧ s.mode ≠ .run) := by tauto
  rw [State.judgeHub, if_neg (by simp [ha]), if_neg (by simp [he, hp]), if_neg hmode]

/-- A refused command, with no code for `REFUSE`, changes only its report. -/
theorem State.hubCmd_refused {why : Reason} (h : s.judgeHub op e arg = (.refused, why, 0)) :
    s.hubCmd op e arg src = s.reportH src .refused why := by
  rw [State.hubCmd, h]; rfl

theorem State.hubCmd_stale (h : s.judgeHub op e arg = (.stale, .none, 0)) :
    s.hubCmd op e arg src = s.reportH src .stale .none := by
  rw [State.hubCmd, h]; rfl

theorem State.hubCmd_accepted (h : s.judgeHub op e arg = (.accepted, .none, 0)) :
    s.hubCmd op e arg src = (s.runHub op arg).reportH src .accepted .none := by
  rw [State.hubCmd, h]

/-- A row of the hub's commands with the queue of waiting commands empty. -/
theorem powered_unitRow_hub (hon : s.on = true) (hnone : s.awaits = []) :
    powered s (s.unitRow none op e arg src) = done (s.hubCmd op e arg src) := by
  rw [powered_of_on s _ hon, State.unitRow, if_pos hnone, State.unitCmd]

/-- Each row of `hubRows` is a row of the hub with its opcode, and its arguments are those the hub takes. -/
theorem hubRows_row : ∀ r ∈ hubRows, (∀ (e : Byte) (a : Half) (src : Src) (s : State),
    exec (r.1 e a src) s = powered s (s.unitRow none r.2.1 e a.toNat src)) ∧ (∀ n, hubArgOk r.2.1 n = r.2.2 n)
      ∧ 0x30 ≤ r.2.1 := by
  intro r hr
  simp only [hubRows, List.mem_cons, List.not_mem_nil, or_false] at hr
  obtain rfl | rfl | rfl | rfl | rfl | rfl | rfl | rfl | rfl | rfl | rfl | rfl := hr <;>
    exact ⟨fun _ _ _ _ => rfl, fun _ => by simp [hubArgOk], by decide⟩

/-- Settles O26: `judgeHub` tests argument, epoch, mode and hub state in this order, and a waiting command is queued. -/
theorem hubCommandsAreJudgedInOrder : Obligations.HubCommandsAreJudgedInOrder := by
  intro r hr e a src s hon
  obtain ⟨hrow, harg, hop⟩ := hubRows_row r hr
  have ok {n : Nat} (h : r.2.2 n = true) : hubArgOk r.2.1 n = true := (harg n).trans h
  dsimp only
  rw [hrow]
  refine ⟨fun hnone => ?_, fun hwait => ?_, fun ha ht hheld hlt => ?_, fun ha ht hheld hge => ?_⟩
  · rw [powered_unitRow_hub hon hnone]
    refine ⟨fun ha => ?_, fun ha h => ?_, fun ha he hp hm hm' => ?_⟩
    · rw [State.hubCmd_refused (State.judgeHub_badArg ((harg _).trans ha))]
    · rw [State.hubCmd_stale (State.judgeHub_stale (ok ha) h)]
    · rw [State.hubCmd_refused (State.judgeHub_wrongMode (ok ha) he hp ⟨hm, hm'⟩)]
  · rw [powered_of_on s _ hon, State.unitRow, if_neg hwait]
  · have hj : s.judgeHub r.2.1 e a.toNat = (.refused, .precondition, 0) := by
      simp [State.judgeHub_takes ht (ok ha), hheld, hop, show r.2.1 ≤ 0x33 by omega]
    rw [powered_hubRow ht, State.hubCmd_refused hj]
  · have hj : s.judgeHub r.2.1 e a.toNat = (.refused, .facetState, 0) := by
      simp [State.judgeHub_takes ht (ok ha), hheld, show ¬ r.2.1 ≤ 0x33 by omega]
    rw [powered_hubRow ht, State.hubCmd_refused hj]

/-! ## The battery opcodes (R345, R349, R361) -/

/-- A command of the battery's block, on a LIVE hub. -/
theorem State.judgeHub_bat (h : s.takesH e) (hlive : s.hub.fstate = .live) (ha : hubArgOk op arg = true) (hop : 0x60 ≤ op) :
    s.judgeHub op e arg = if s.batCmdOk op arg = false then (.refused, .precondition, 0) else (.accepted, .none, 0) := by
  simp [State.judgeHub_takes h ha, hlive, hop, show ¬ op ≤ 0x33 by omega, show ¬ op ≤ 0x53 by omega]

section
variable (hi : exec i s = powered s (s.unitRow none op e arg src)) (h : s.takesH e) (hlive : s.hub.fstate = .live)
  (ha : hubArgOk op arg = true) (hop : 0x60 ≤ op)
include hi h hlive ha hop

theorem exec_bat_refused (hno : s.batCmdOk op arg = false) : exec i s = done (s.reportH src .refused .precondition) := by
  rw [hi, powered_hubRow h, State.hubCmd_refused (by rw [State.judgeHub_bat h hlive ha hop, if_pos hno])]

theorem exec_bat_accepted {u : State} (hok : s.batCmdOk op arg = true) (hu : s.runHub op arg = u) :
    exec i s = done (u.reportH src .accepted .none) := by
  rw [hi, powered_hubRow h, State.hubCmd_accepted (by rw [State.judgeHub_bat h hlive ha hop, if_neg (by simp [hok])]), hu]

end

theorem State.batLive_iff : s.batLive = true ↔ s.hub.bat.st = .present ∨ s.hub.bat.st = .depleted := by
  simp [State.batLive]

/-- An update of the hub that leaves what its epoch counts (R41) is no advance. -/
theorem State.modHub_of_key {g : Hub → Hub} (hk : (g s.hub).key = s.hub.key) : s.modHub g = { s with hub := g s.hub } := by
  simp only [State.modHub, if_pos hk]

/-- What a change of the charge phase leaves of the battery: all that `phaseTo` leaves. -/
theorem State.bat_setPhase_keep {α : Sort*} (f : Bat → α) (hf : ∀ x n b, f (Bat.phaseTo x n b) = f b) (x : ChgPhase) :
    f (s.setPhase x).hub.bat = f s.hub.bat := by
  unfold State.setPhase
  split
  · rfl
  · exact (congrArg f (State.bat_modBat ..)).trans (hf ..)

theorem State.bat_chargeDone_keep {α : Sort*} (f : Bat → α) (hf : ∀ x n b, f (Bat.phaseTo x n b) = f b) :
    f s.chargeDone.hub.bat = f s.hub.bat := by
  rw [State.chargeDone, State.orReg, State.hub_setReg, State.stopCharge, State.bat_setPhase_keep f hf, State.bat_modCv,
    State.bat_modCv]

@[simp] theorem State.phase_chargeDone : s.chargeDone.hub.bat.phase = .done := by simp [State.chargeDone, State.orReg]

theorem State.full_chargeStore : s.chargeStore.hub.bat.full = false := by
  unfold State.chargeStore
  dsimp only
  split
  · rw [State.bat_chargeDone_keep Bat.full fun _ _ _ => rfl, State.bat_modBat]
  · rw [State.bat_modBat]

/-- R349: with the charge level reached, `CHG_STORE` ends a charge in CC or CV at once. -/
theorem State.phase_chargeStore (hmain : s.hub.bat.phase.main = true) (hsoc : s.storeSoc ≤ s.hub.bat.soc) :
    s.chargeStore.hub.bat.phase = .done := by
  have hreached : (s.modBat fun b => { b with full := false }).storeReached = true := by
    rw [State.storeReached, State.bat_modBat]
    exact Bool.and_eq_true _ _ ▸ ⟨by simp [hmain], decide_eq_true hsoc⟩
  unfold State.chargeStore
  rw [if_pos hreached, State.phase_chargeDone]

theorem UnitFrame.chargeStore {ps : List Port} {t : State} (h : UnitFrame ps s t) : UnitFrame ps s t.chargeStore := by
  unfold State.chargeStore
  dsimp only
  split
  · exact UnitFrame.chargeDone (h.modBat _)
  · exact h.modBat _

/-- Settles O28: each opcode's own condition is `batCmdOk`, and what it then does is its row of `runHub`. -/
theorem batteryCommandsTakeEffect : Obligations.BatteryCommandsTakeEffect := by
  intro e src s h hlive
  have live (hb : s.hub.bat.st = .present ∨ s.hub.bat.st = .depleted) : s.batLive = true := State.batLive_iff.mpr hb
  have byte {a : Half} (ha : a.toNat < 256) : hubArgOk 0x63 a.toNat = true := decide_eq_true ha
  dsimp only
  refine ⟨fun hb => ⟨⟨?full, UnitFrame.refl.hub _⟩, fun a => ⟨fun ha => ⟨⟨?gauge, UnitFrame.refl.modBat _⟩, ?charge⟩, fun hlo hhi => ?tooMuch⟩⟩,
    fun hp hd => ⟨?noFull, fun a ha => ?noGauge⟩, ⟨?store, UnitFrame.refl.chargeStore⟩, State.full_chargeStore,
    fun hph hsoc => State.phase_chargeStore (by simpa [ChgPhase.main] using hph) hsoc,
    fun hst hdeep hph => ⟨?clear, UnitFrame.refl.setBat _⟩, fun hst hdeep hph => ⟨?clearBoth, (UnitFrame.refl.setPhase _).setBat _⟩,
    fun hst hph => ⟨⟨?clearPhase, UnitFrame.refl.setPhase _⟩, s.phase_setPhase _⟩, fun hst hph => ?noClear⟩
  case full =>
    refine exec_bat_accepted (op := 0x60) rfl h hlive rfl (by decide) (live hb) ?_
    change s.modBat (fun b => { b with full := true }) = _
    exact State.modHub_of_key rfl
  case gauge =>
    exact exec_bat_accepted (op := 0x63) rfl h hlive (byte (by omega)) (by decide) (by simp [State.batCmdOk, live hb, ha]) rfl
  case charge => exact s.bat_modBat _
  case tooMuch =>
    exact exec_bat_refused (op := 0x63) rfl h hlive (byte hhi) (by decide) (by simp [State.batCmdOk, hlo])
  case noFull =>
    exact exec_bat_refused (op := 0x60) rfl h hlive rfl (by decide) (by simp [State.batCmdOk, State.batLive, hp, hd])
  case noGauge =>
    exact exec_bat_refused (op := 0x63) rfl h hlive (byte ha) (by decide) (by simp [State.batCmdOk, State.batLive, hp, hd])
  case store => exact exec_bat_accepted (op := 0x61) rfl h hlive rfl (by decide) rfl rfl
  case clear =>
    refine exec_bat_accepted (op := 0x62) rfl h hlive rfl (by decide) (by simp [State.batCmdOk, hst, hdeep]) ?_
    simp [State.runHub, State.batClear, hst, hdeep, hph]
  case clearBoth =>
    refine exec_bat_accepted (op := 0x62) rfl h hlive rfl (by decide) (by simp [State.batCmdOk, hst, hdeep]) ?_
    simp [State.runHub, State.batClear, hst, hph, State.bat_setPhase_keep Bat.deep fun _ _ _ => rfl, hdeep]
  case clearPhase =>
    refine exec_bat_accepted (op := 0x62) rfl h hlive rfl (by decide) (by simp [State.batCmdOk, hph]) ?_
    have hno : ¬((s.setPhase .idle).hub.bat.st = .fault ∧ (s.setPhase .idle).hub.bat.deep = false) := by
      rw [State.st_setPhase, State.bat_setPhase_keep Bat.deep fun _ _ _ => rfl]
      rintro ⟨hfault, hdeep⟩
      simp [hfault, hdeep] at hst
    simp only [State.runHub, State.batClear, if_pos hph, if_neg hno]
  case noClear =>
    refine exec_bat_refused (op := 0x62) rfl h hlive rfl (by decide) ?_
    obtain hst | hdeep := hst
    · simp [State.batCmdOk, hph, hst]
    · simp [State.batCmdOk, hph, hdeep]

end Sys2Proof.Machine
end

/-! ## What passes when TIME is reached

`reach` lets `CLK` run: what moves is TIME, the µs timers and `mcycle`, what the PWM counters count, and the epochs that
advance on the way with their mirrors (R41). -/

section
namespace Sys2Proof.Machine

/-- Register `i` of `u` is that of `s`, the canonical form of the store kept. -/
def RegKept (i : Nat) (s u : State) : Prop :=
  spWf resetWord s.regs = true → spWf resetWord u.regs = true ∧ u.reg i = s.reg i

namespace RegKept

variable {i : Nat} {s t u : State}

theorem refl : RegKept i s s := fun h => ⟨h, rfl⟩
theorem trans (h : RegKept i s t) (k : RegKept i t u) : RegKept i s u := fun hw =>
  have ⟨ht, e⟩ := h hw
  have ⟨hu, e'⟩ := k ht
  ⟨hu, e'.trans e⟩
theorem of_regs (h : RegKept i s t) (e : u.regs = t.regs) : RegKept i s u := h.trans fun hw => by
  unfold State.reg
  rw [e]
  exact ⟨hw, rfl⟩
theorem setReg (h : RegKept i s t) {j : Nat} (w : Word) (hj : i ≠ j) : RegKept i s (t.setReg j w) := h.trans fun hw =>
  ⟨State.setReg_wf t j w hw, by rw [State.reg_setReg t j i w hw, if_neg hj]⟩
theorem orReg (h : RegKept i s t) {j : Nat} (w : Word) (hj : i ≠ j) : RegKept i s (t.orReg j w) := h.setReg _ hj
theorem ite {c : Prop} [Decidable c] (ht : RegKept i s t) (hu : RegKept i s u) : RegKept i s (if c then t else u) := by
  split
  · exact ht
  · exact hu
theorem putMirrors (h : RegKept i s t) {b : Nat} {e : Byte} {l : List (Nat × Word)} (hl : ∀ x ∈ l, i ≠ b + x.1) :
    RegKept i s (t.putMirrors b e l) := by
  induction l generalizing t with
  | nil => exact h
  | cons x l ih =>
    exact ih (h.setReg _ (hl x List.mem_cons_self)) fun y hy => hl y (List.mem_cons_of_mem _ hy)

/-- The canonical form of the store, of a well-formed state. -/
theorem regsWf (h : s.wf = true) : spWf resetWord s.regs = true := by
  simp only [State.wf, Bool.and_eq_true] at h
  exact h.1.1.1

theorem reg (h : RegKept i s u) (hw : s.wf = true) : u.reg i = s.reg i := (h (regsWf hw)).2

end RegKept

/-- `i` is no register that mirrors a unit's state with its epoch (R158). -/
def NoMirror (i : Nat) : Prop := i < 0x1000 ∧ i ∉ [0x0800, 0x0816, 0x0826, 0x0882, 0x08C9, 0x0F00]

/-- `u` is `s` with other epochs of its units, and what mirrors them. -/
structure EpochFrame (s u : State) : Prop where
  rest : u = { s with fa := u.fa, fb := u.fb, fc := u.fc, fd := u.fd, hub := u.hub, regs := u.regs }
  part : ∀ p, PartFrame [] p s u
  hub : u.hub = { s.hub with epoch := u.hub.epoch, epPend := u.hub.epPend, epLast := u.hub.epLast, fresh := u.hub.fresh }
  reg : ∀ i, NoMirror i → RegKept i s u

namespace EpochFrame

variable {s t u : State}

theorem refl : EpochFrame s s := ⟨rfl, fun _ => .refl, rfl, fun _ _ => .refl⟩

theorem trans (h : EpochFrame s t) (k : EpochFrame t u) : EpochFrame s u where
  rest := k.rest.trans (congrArg (fun x : State =>
    { x with fa := u.fa, fb := u.fb, fc := u.fc, fd := u.fd, hub := u.hub, regs := u.regs }) h.rest)
  part p := (h.part p).trans (k.part p)
  hub := k.hub.trans (congrArg (fun x : Hub =>
    { x with epoch := u.hub.epoch, epPend := u.hub.epPend, epLast := u.hub.epLast, fresh := u.hub.fresh }) h.hub)
  reg i hi := (h.reg i hi).trans (k.reg i hi)

/-- A refresh of a unit's mirrors. -/
theorem putMirrors (h : EpochFrame s t) {b : Nat} (e : Byte) {l : List (Nat × Word)}
    (hl : ∀ i, NoMirror i → ∀ x ∈ l, i ≠ b + x.1) : EpochFrame s (t.putMirrors b e l) := by
  have k : RegFrame t (t.putMirrors b e l) := RegFrame.refl.putMirrors ..
  refine h.trans ⟨?_, fun p => ?_, ?_, fun i hi => RegKept.refl.putMirrors (hl i hi)⟩
  · rw [show _ = _ from k]
  · refine PartFrame.refl.of_facet ?_
    rw [show _ = _ from k]; cases p <;> rfl
  · rw [show _ = _ from k]

theorem refreshFacet (h : EpochFrame s t) (p : Port) : EpochFrame s (t.refreshFacet p) := by
  unfold State.refreshFacet
  dsimp only
  split
  · exact h
  · refine h.putMirrors _ fun i hi x _ => ?_
    obtain ⟨hlow, -⟩ := hi
    unfold fx
    omega

theorem refreshHub (h : EpochFrame s t) : EpochFrame s t.refreshHub := by
  unfold State.refreshHub
  split
  · exact h
  · refine h.putMirrors _ fun i hi x hx => ?_
    obtain ⟨-, hi⟩ := hi
    simp only [State.hubMirrors, List.mem_cons, List.not_mem_nil, or_false, not_or] at hx hi
    obtain rfl | rfl | rfl | rfl | rfl | rfl := hx <;> omega

theorem advanceUnit (h : EpochFrame s t) (now : Nat) (x : Option Port) : EpochFrame s (t.advanceUnit now x) := by
  cases x with
  | none =>
    have k : EpochFrame t { t with hub := t.hub.advanceDue (t.advanceAt none) (decide (now ≤ t.advanceAt none)) } :=
      ⟨rfl, fun p => by cases p <;> rfl, rfl, fun _ _ => RegKept.refl.of_regs rfl⟩
    exact (h.trans k).refreshHub
  | some p =>
    have k : EpochFrame t (t.setFacet p ((t.facet p).advanceDue (t.advanceAt (some p)) (decide (now ≤ t.advanceAt (some p))))) := by
      refine ⟨by cases p <;> rfl, fun q => ?_, by cases p <;> rfl, fun _ _ => RegKept.refl.of_regs (by cases p <;> rfl)⟩
      by_cases hq : q = p
      · subst hq
        rw [PartFrame, State.facet_setFacet]
        rfl
      · exact PartFrame.refl.of_facet (State.facet_setFacet_ne _ _ _ _ hq)
    exact (h.trans k).refreshFacet p

theorem passAdvances (h : EpochFrame s t) (now : Nat) : EpochFrame s (t.passAdvances now) := by
  have step (l : List (Option Port)) (x : State) (hx : EpochFrame s x) : EpochFrame s (l.foldl
      (fun s h => if s.advancePends h && decide (s.advanceAt h ≤ now) then s.advanceUnit now h else s) x) := by
    induction l generalizing x with
    | nil => exact hx
    | cons y l ih =>
      refine ih _ ?_
      dsimp only
      split
      · exact hx.advanceUnit now y
      · exact hx
  exact step _ t h

end EpochFrame

variable {s : State}

/-- What `reach` leaves as it was. -/
theorem State.reach_rest (due : Nat) :
    s.reach due = { s with cycles := max s.cycles due, fa := (s.reach due).fa, fb := (s.reach due).fb, fc := (s.reach due).fc
                           fd := (s.reach due).fd, hub := (s.reach due).hub, regs := (s.reach due).regs
                           lap := (s.reach due).lap } := by
  obtain ⟨fa, fb, fc, fd, hub, regs, e⟩ : ∃ fa fb fc fd hub regs, s.passAdvances (max s.cycles due)
      = { s with fa := fa, fb := fb, fc := fc, fd := fd, hub := hub, regs := regs } :=
    ⟨_, _, _, _, _, _, (EpochFrame.refl.passAdvances (s := s) _).rest⟩
  have hc : max s.cycles due = s.cycles + (due - s.cycles) := by omega
  rw [State.reach, e, State.elapse_pwmPass_rest, hc]

@[simp] theorem State.cycles_reach (due : Nat) : (s.reach due).cycles = max s.cycles due := by
  rw [State.reach_rest]

theorem RegKept.reach {i : Nat} (hi : NoMirror i) (due : Nat) : RegKept i s (s.reach due) := by
  have h : EpochFrame s _ := EpochFrame.refl.passAdvances (max s.cycles due)
  refine (h.reg i hi).of_regs ?_
  unfold State.reach
  rw [State.pwmPass_rest]
  rfl

/-- What the PWM counters make of the hub in `n` cycles. -/
def Hub.pwmPass (rd : Nat → Word) (n : Nat) (h : Hub) : Hub :=
  if h.frozen then h else ((h.gpwmPass rd n).cvPass rd n).cv2Pass rd n

theorem State.hub_pwmPass (n : Nat) : (s.pwmPass n).hub = s.hub.pwmPass s.reg n := by
  unfold State.pwmPass Hub.pwmPass
  split <;> rfl

/-- The hub when TIME is reached: what the PWM counters make of it, its epoch's bookkeeping apart. -/
theorem State.hub_reach (due : Nat) :
    ∃ t : State, EpochFrame s t ∧ (s.reach due).hub = t.hub.pwmPass t.reg (due - s.cycles) :=
  ⟨_, EpochFrame.refl.passAdvances (max s.cycles due), by rw [State.reach, State.hub_pwmPass]; rfl⟩

end Sys2Proof.Machine
end

/-! ## Converters (R316, R318) and PWM periods (R323, R328, R329, R331) -/

section
namespace Sys2Proof.Machine

variable {s : State}

/-- Settles O30: each row is an event of its own condition, and `cvTrip` leaves its converter TRIPPED. -/
theorem convertersStartAndTrip : Obligations.ConvertersStartAndTrip := by
  intro c s hon
  refine ⟨fun mv hst hclamp hslew hlo hhi => ⟨?ramp, by rw [State.cv_bothCv], UnitFrame.refl.bothCv _ _⟩,
    fun hst hin => ⟨?timeout, State.cycles_reach _⟩, fun hst hpeaks => ?peaks, fun hst => ?under,
    fun k src ev => ⟨UnitFrame.refl.cvTrip .., s.st_cvTrip ..⟩⟩
  case ramp =>
    refine event_of hon ?_
    simp [State.startEnded, hst, hclamp, hslew, hlo, hhi]
  case timeout =>
    refine event_of hon ?_
    simpa [hst, State.inTick] using hin
  case peaks =>
    refine event_of hon ?_
    simpa [Cv.switching, hpeaks] using hst
  case under =>
    refine event_of hon ?_
    simpa [State.uvTrips] using hst

/-! ### The boundary of a converter's period -/

/-- `w` is the converter `v` at the end of its period: its peak latch released, its counter at 0, one period more. -/
def Cv.Renewed (v w : Cv) : Prop := w.peakLatch = false ∧ w.cnt = 0 ∧ w.periods = v.periods + 1

/-- The hub's converter of that name. -/
def Hub.conv (h : Hub) : Conv → Cv
  | .cv1 => h.cv1
  | .cv2 => h.cv2

theorem State.cv_eq_conv (c : Conv) : s.cv c = s.hub.conv c := by cases c <;> rfl

namespace Hub

variable {h : Hub} {rd : Nat → Word} {n : Nat}

theorem cvs_gpwm1Pass : (h.gpwm1Pass rd n).cv1 = h.cv1 ∧ (h.gpwm1Pass rd n).cv2 = h.cv2 ∧ (h.gpwm1Pass rd n).period1 = h.period1
    ∧ (h.gpwm1Pass rd n).period2 = h.period2 ∧ (h.gpwm1Pass rd n).parallel = h.parallel := by
  unfold Hub.gpwm1Pass
  split
  · exact ⟨rfl, rfl, rfl, rfl, rfl⟩
  · split <;> exact ⟨rfl, rfl, rfl, rfl, rfl⟩

/-- The general PWM's counters leave the converters and their periods. -/
theorem cvs_gpwmPass : (h.gpwmPass rd n).cv1 = h.cv1 ∧ (h.gpwmPass rd n).cv2 = h.cv2 ∧ (h.gpwmPass rd n).period1 = h.period1
    ∧ (h.gpwmPass rd n).period2 = h.period2 ∧ (h.gpwmPass rd n).parallel = h.parallel := by
  unfold Hub.gpwmPass
  split
  · exact cvs_gpwm1Pass
  · split
    · exact cvs_gpwm1Pass (h := { h with gcnt0 := h.gcnt0 + n })
    · exact cvs_gpwm1Pass (h := { h.gpwm0Boundary rd with gcnt0 := _ })

theorem cv2_cvPass : (h.cvPass rd n).cv2 = h.cv2 ∧ (h.parallel = false → (h.cvPass rd n).period2 = h.period2)
    ∧ (h.cvPass rd n).parallel = h.parallel := by
  unfold Hub.cvPass
  split
  · exact ⟨rfl, fun _ => rfl, rfl⟩
  · split
    · exact ⟨rfl, fun _ => rfl, rfl⟩
    · exact ⟨rfl, fun hp => if_neg (by simp [hp]), rfl⟩

theorem cv1_cv2Pass : (h.cv2Pass rd n).cv1 = h.cv1 := by
  unfold Hub.cv2Pass
  split
  · rfl
  · dsimp only
    split <;> split <;> rfl

theorem renewed_cvPass (hs : h.cv1.switching = true) (hn : n = h.chanLeft (.cv .cv1)) :
    Cv.Renewed h.cv1 (h.cvPass rd n).cv1 := by
  rw [hn, Hub.cvPass, if_neg (by simp [hs]), if_neg (lt_irrefl _)]
  simp [Cv.Renewed, Hub.cvBoundary, Cv.boundary]

theorem renewed_cv2Pass (hs : h.cv2.switching = true) (hp : h.parallel = false) (hn : n = h.chanLeft (.cv .cv2)) :
    Cv.Renewed h.cv2 (h.cv2Pass rd n).cv2 := by
  rw [hn, Hub.cv2Pass, if_neg (by simp [hs])]
  dsimp only
  rw [if_neg (lt_irrefl _), if_neg (by simp [Hub.cvBoundary, hp])]
  simp [Cv.Renewed, Hub.cvBoundary, Cv.boundary]

/-- R323: the end of a converter's own period renews it. -/
theorem renewed_pwmPass (hf : h.frozen = false) {c : Conv} (hs : h.chanRuns (.cv c) = true)
    (hown : c = .cv1 ∨ h.parallel = false) (hn : n = h.chanLeft (.cv c)) :
    Cv.Renewed (h.conv c) ((h.pwmPass rd n).conv c) := by
  obtain ⟨e1, e2, ep1, ep2, epar⟩ := cvs_gpwmPass (h := h) (rd := rd) (n := n)
  rw [Hub.pwmPass, if_neg (by simp [hf])]
  cases c with
  | cv1 =>
    dsimp only [Hub.conv]
    rw [cv1_cv2Pass, ← e1]
    exact renewed_cvPass (by rw [e1]; exact hs) (hn.trans (by simp only [Hub.chanLeft, e1, ep1]))
  | cv2 =>
    have hpar : h.parallel = false := hown.resolve_left (by decide)
    obtain ⟨f2, fp2, fpar⟩ := cv2_cvPass (h := h.gpwmPass rd n) (rd := rd) (n := n)
    dsimp only [Hub.conv]
    rw [← e2, ← f2]
    refine renewed_cv2Pass (by rw [f2, e2]; exact hs) (by rw [fpar, epar, hpar]) (hn.trans ?_)
    simp only [Hub.chanLeft, f2, e2, fp2 (epar.trans hpar), ep2]

/-! ### The boundary of a `GPWM` channel -/

/-- The converters' counters leave the general PWM. -/
theorem gpwm_cv_passes : ∃ c1 c2 p1 p2, (h.cvPass rd n).cv2Pass rd n = { h with cv1 := c1, cv2 := c2, period1 := p1, period2 := p2 } := by
  have hcv : ∃ c1 p1 p2, h.cvPass rd n = { h with cv1 := c1, period1 := p1, period2 := p2 } := by
    unfold Hub.cvPass
    split
    · exact ⟨_, _, _, rfl⟩
    · split <;> exact ⟨_, _, _, rfl⟩
  obtain ⟨c1, p1, p2, e⟩ := hcv
  rw [e]
  unfold Hub.cv2Pass
  split
  · exact ⟨_, _, _, _, rfl⟩
  · dsimp only
    split <;> split <;> exact ⟨_, _, _, _, rfl⟩

/-- R331: `GPWM0`'s boundary takes its shadows; the pass of `GPWM1` after it, with the same registers, keeps them. -/
theorem gpwm0_pwmPass (hf : h.frozen = false) (hs : h.en0 = true) (hn : n = h.chanLeft .gpwm0) :
    (h.pwmPass rd n).duty0 = BitVec.ofNat 16 (fld (rd 0x0842) 0 16) ∧ (h.pwmPass rd n).run0 = h.per0.getD (rd 0x0841)
      ∧ (h.pwmPass rd n).en0 = (rd 0x0840).getLsbD 0 ∧ (h.pwmPass rd n).comp = (rd 0x0840).getLsbD 2 := by
  have kept (k : Hub) (m : Nat) (hc : k.comp = (rd 0x0840).getLsbD 2) : (k.gpwm1Pass rd m).duty0 = k.duty0
      ∧ (k.gpwm1Pass rd m).run0 = k.run0 ∧ (k.gpwm1Pass rd m).en0 = k.en0
      ∧ (k.gpwm1Pass rd m).comp = (rd 0x0840).getLsbD 2 := by
    unfold Hub.gpwm1Pass
    split
    · exact ⟨rfl, rfl, rfl, hc⟩
    · split
      · exact ⟨rfl, rfl, rfl, hc⟩
      · refine ⟨rfl, rfl, rfl, ?_⟩
        dsimp only [Hub.gpwm1Boundary]
        split
        · exact hc
        · rfl
  obtain ⟨c1, c2, p1, p2, e⟩ := gpwm_cv_passes (h := h.gpwmPass rd n) (rd := rd) (n := n)
  rw [Hub.pwmPass, if_neg (by simp [hf]), e, Hub.gpwmPass, if_neg (by simp [hs]), if_neg (by rw [hn]; exact lt_irrefl _)]
  dsimp only
  obtain ⟨hd, hr, he, hc⟩ := kept { h.gpwm0Boundary rd with gcnt0 := _ } (if h.en1 then n else n - h.chanLeft .gpwm0) rfl
  refine ⟨hd, hr, he.trans ?_, hc⟩
  simp [Hub.gpwm0Boundary, hs]

/-- R331: `GPWM1`'s boundary takes its shadows, while `GPWM0` does not run. -/
theorem gpwm1_pwmPass (hf : h.frozen = false) (h0 : h.en0 = false) (hs : h.en1 = true) (hn : n = h.chanLeft .gpwm1) :
    (h.pwmPass rd n).duty1 = BitVec.ofNat 16 (fld (rd 0x0844) 0 16) ∧ (h.pwmPass rd n).run1 = h.per1.getD (rd 0x0843)
      ∧ (h.pwmPass rd n).en1 = ((rd 0x0840).getLsbD 1 && !(rd 0x0840).getLsbD 2) := by
  obtain ⟨c1, c2, p1, p2, e⟩ := gpwm_cv_passes (h := h.gpwmPass rd n) (rd := rd) (n := n)
  rw [Hub.pwmPass, if_neg (by simp [hf]), e, Hub.gpwmPass, if_pos (by simp [h0]), Hub.gpwm1Pass, if_neg (by simp [hs]),
    if_neg (by rw [hn]; exact lt_irrefl _)]
  simp [Hub.gpwm1Boundary, hs]

end Hub

/-- The values of the general PWM in force are the same. -/
def SameInForce (s u : State) : Prop :=
  u.hub.run0 = s.hub.run0 ∧ u.hub.run1 = s.hub.run1 ∧ u.hub.duty0 = s.hub.duty0 ∧ u.hub.duty1 = s.hub.duty1

theorem SameInForce.trans {s t u : State} (h : SameInForce s t) (k : SameInForce t u) : SameInForce s u := by
  obtain ⟨h1, h2, h3, h4⟩ := h
  obtain ⟨k1, k2, k3, k4⟩ := k
  exact ⟨k1.trans h1, k2.trans h2, k3.trans h3, k4.trans h4⟩

theorem SameInForce.storeRw {i : Nat} (hi : i ∈ [0x0841, 0x0842, 0x0843, 0x0844]) (v : Word) : SameInForce s (s.storeRw i v) := by
  have stored (x : State) (old : Word) : SameInForce x (x.afterStore i old v) := by
    simp only [List.mem_cons, List.not_mem_nil, or_false] at hi
    obtain rfl | rfl | rfl | rfl := hi <;> exact ⟨rfl, rfl, rfl, rfl⟩
  unfold State.storeRw
  split
  · exact ⟨rfl, rfl, rfl, rfl⟩
  · split
    · exact ⟨rfl, rfl, rfl, rfl⟩
    · exact SameInForce.trans ⟨rfl, rfl, rfl, rfl⟩ (stored ..)

theorem SameInForce.modHub (g : Hub → Hub) (hk : (g s.hub).key = s.hub.key) (h : SameInForce s { s with hub := g s.hub }) :
    SameInForce s (s.modHub g) := by
  rw [State.modHub_of_key hk]
  exact h

/-- A write of `GPWM_PERk` or `GPWM_DUTYk`, held by a hold of the hub or stored, leaves the values in force (R331). -/
theorem State.sameInForce_regWrite {i : Nat} (hi : i ∈ [0x0841, 0x0842, 0x0843, 0x0844]) (v : Word) :
    SameInForce s (s.regWrite i v) := by
  have hrow : s.regWrite i v = s.bankWrite i v := by
    simp only [List.mem_cons, List.not_mem_nil, or_false] at hi
    obtain rfl | rfl | rfl | rfl := hi <;> rfl
  have hhub : facetOf i = none ∧ 0x0800 ≤ i ∧ i < 0x1000 := by
    simp only [List.mem_cons, List.not_mem_nil, or_false] at hi
    obtain rfl | rfl | rfl | rfl := hi <;> decide
  obtain ⟨hf, hrange⟩ := hhub
  rw [hrow, State.bankWrite]
  simp only [hf, if_pos hrange]
  split
  · exact .modHub _ rfl ⟨rfl, rfl, rfl, rfl⟩
  · exact (SameInForce.modHub _ rfl ⟨rfl, rfl, rfl, rfl⟩).trans (.storeRw hi v)
  · exact (SameInForce.modHub _ rfl ⟨rfl, rfl, rfl, rfl⟩).trans (.storeRw hi v)
  · exact .storeRw hi v

/-- Settles O31: `reach` runs the counters for just the cycles left of the channel's period. -/
theorem pwmBoundariesTakeShadows : Obligations.PwmBoundariesTakeShadows := by
  intro s hon
  refine ⟨fun ch hf hs hin => ?bound, fun ch hno => event_not ?none, fun m v => ?writes⟩
  case none =>
    obtain hf | hs := hno
    · simp [hf]
    · simp [hs]
  case writes =>
    obtain ⟨h1, -, -, -⟩ := s.sameInForce_regWrite (i := 0x0841) (by decide) v
    obtain ⟨-, -, h2, -⟩ := s.sameInForce_regWrite (i := 0x0842) (by decide) v
    obtain ⟨-, h3, -, -⟩ := s.sameInForce_regWrite (i := 0x0843) (by decide) v
    obtain ⟨-, -, -, h4⟩ := s.sameInForce_regWrite (i := 0x0844) (by decide) v
    exact ⟨⟨powered_of_on s _ hon, h1⟩, ⟨powered_of_on s _ hon, h3⟩, ⟨powered_of_on s _ hon, h2⟩, ⟨powered_of_on s _ hon, h4⟩,
      powered_of_on s _ hon⟩
  case bound =>
    obtain ⟨t, ht, ehub⟩ := s.hub_reach (s.boundaryAt ch)
    have hleft : s.boundaryAt ch - s.cycles = t.hub.chanLeft ch := by
      rw [ht.hub]
      cases ch with
      | cv c => cases c <;> simp [State.boundaryAt, Hub.chanLeft]
      | gpwm0 => simp [State.boundaryAt, Hub.chanLeft]
      | gpwm1 => simp [State.boundaryAt, Hub.chanLeft]
    have hruns : t.hub.chanRuns ch = true := by
      rw [← hs, ht.hub]
      cases ch with
      | cv c => cases c <;> rfl
      | gpwm0 => rfl
      | gpwm1 => rfl
    have hfz : t.hub.frozen = false := by rw [ht.hub]; exact hf
    refine ⟨event_of hon ?_, ?_, fun c hc hown => ?_, fun hw hch => ?_, fun hw hch h0 => ?_⟩
    · simpa [hf, hs, State.inTick] using hin
    · simp [State.boundaryAt]
    · subst hc
      have hpar : c = .cv1 ∨ t.hub.parallel = false := hown.imp id fun h => by rw [ht.hub]; exact h
      have h := Hub.renewed_pwmPass (rd := t.reg) hfz hruns hpar hleft
      rw [← ehub] at h
      have hconv : t.hub.conv c = s.hub.conv c := by rw [ht.hub]; cases c <;> rfl
      rw [State.cv_eq_conv, State.cv_eq_conv, ← hconv]
      exact h
    · subst hch
      have h := Hub.gpwm0_pwmPass (rd := t.reg) hfz hruns hleft
      have eper : t.hub.per0 = s.hub.per0 := by rw [ht.hub]
      rw [← ehub, (ht.reg 0x0842 ⟨by decide, by decide⟩).reg hw, (ht.reg 0x0841 ⟨by decide, by decide⟩).reg hw,
        (ht.reg 0x0840 ⟨by decide, by decide⟩).reg hw, eper] at h
      exact h
    · subst hch
      have h := Hub.gpwm1_pwmPass (rd := t.reg) hfz (by rw [ht.hub]; exact h0) hruns hleft
      have eper : t.hub.per1 = s.hub.per1 := by rw [ht.hub]
      rw [← ehub, (ht.reg 0x0844 ⟨by decide, by decide⟩).reg hw, (ht.reg 0x0843 ⟨by decide, by decide⟩).reg hw,
        (ht.reg 0x0840 ⟨by decide, by decide⟩).reg hw, eper] at h
      exact h

end Sys2Proof.Machine
end

/-! ## The battery (R336 to R360) -/

section
namespace Sys2Proof.Machine

variable {s : State}

theorem UnitFrame.removalEdge {ps : List Port} {t : State} (h : UnitFrame ps s t) : UnitFrame ps s t.removalEdge :=
  (((h.modCv _ _).modCv _ _).modBat _).setPhase _

theorem UnitFrame.cvTerminated {ps : List Port} {t : State} (h : UnitFrame ps s t) : UnitFrame ps s t.cvTerminated := by
  unfold State.cvTerminated
  dsimp only
  refine UnitFrame.chargeDone (UnitFrame.modBat ?_ _)
  split
  · exact h.modBat _
  · exact h

theorem UnitFrame.batDepleted {ps : List Port} {t : State} (h : UnitFrame ps s t) : UnitFrame ps s t.batDepleted :=
  UnitFrame.setBat (h.orReg _ _) _

theorem UnitFrame.batDeep {ps : List Port} {t : State} (h : UnitFrame ps s t) : UnitFrame ps s t.batDeep :=
  ((h.modBat _).setBat _).fault _ _ _ _

theorem State.phase_startCharge (c : Conv) :
    (s.startCharge c).hub.bat.phase = if s.sense.bat < s.cells * s.preMv then .precharge else .cc := by
  unfold State.startCharge
  dsimp only
  rw [State.phase_setPhase]
  split <;> rfl

@[simp] theorem State.phase_chargeTimedOut : s.chargeTimedOut.hub.bat.phase = .timeout := by
  simp [State.chargeTimedOut, State.orReg]

/-- Settles O36: each change of the charge phase is an event of its own condition, and `setPhase` or `stopCharge` takes
the phase where it goes. -/
theorem chargePhasesChange : Obligations.ChargePhasesChange := by
  intro s hon
  refine ⟨fun c hc => ⟨?start, State.phase_startCharge c, UnitFrame.refl.startCharge c⟩,
    fun hph => ⟨fun mv hmv => ⟨event_of hon (by simp [hph, hmv]), State.phase_setPhase _ _⟩,
      fun hin => dueEvent_of_due hon (by simp [hph]) hin _⟩,
    fun hph mv hmv => ⟨event_of hon (by simp [hph, hmv]), State.phase_setPhase _ _⟩,
    fun hph => ⟨fun hin => dueEvent_of_due hon (by simpa [ChgPhase.main] using hph) hin _, fun hfull hsoc => ⟨event_of hon ?store, State.phase_chargeDone⟩⟩,
    ⟨State.phase_chargeTimedOut, UnitFrame.refl.chargeTimedOut, UnitFrame.refl.chargeDone⟩,
    fun hph t ht hin => ?term, ⟨State.phase_chargeDone, ?full, UnitFrame.refl.cvTerminated⟩,
    fun hch => ⟨event_of hon (by simpa [State.charging] using hch), State.phase_setPhase _ _, ?requalify, UnitFrame.refl.removalEdge⟩⟩
  case start =>
    change execChargeStart s = _
    unfold execChargeStart
    rw [hc]
    exact powered_of_on s _ hon
  case store =>
    simpa [State.storeReached, ChgPhase.main, hfull, hsoc] using hph
  case term =>
    change execCvTermination s = _
    unfold execCvTermination
    rw [ht]
    exact dueEvent_of_due hon (by simp [hph]) hin _
  case full =>
    rw [State.cvTerminated, State.bat_chargeDone_keep Bat.full fun _ _ _ => rfl, State.bat_modBat]
  case requalify =>
    rw [State.removalEdge, State.bat_setPhase_keep Bat.requalify fun _ _ _ => rfl, State.bat_modBat]

/-- Settles O37: each change of the battery's state is an event of its own condition. -/
theorem batteryStatesChange : Obligations.BatteryStatesChange := by
  intro s hon
  refine ⟨fun h1 h2 h3 => event_of hon (by simp [h1, h2, h3]), fun hst habs mv hmv => event_of hon (by simp [hst, habs, hmv]),
    fun hst t ht hin => ?qualified, fun hst ht => event_of hon (by simp [hst, ht]), fun hst ht => event_of hon (by simp [hst, ht]),
    fun hst ht => event_of hon (by simp [State.batLive, hst, ht]), fun hst mv hmv => event_of hon ?deep,
    fun t ht hn => event_of hon ?ntc, fun k h1 h2 h3 => event_of hon (by rw [decide_eq_true h1, decide_eq_true h2, decide_eq_true h3]; rfl),
    fun x => ⟨s.st_setBat x, UnitFrame.refl.setBat x⟩, fun u hu => ?frames⟩
  case qualified =>
    change execBatteryQualified s = _
    unfold execBatteryQualified
    rw [ht]
    exact dueEvent_of_due hon (by simpa using hst) hin _
  case deep =>
    rw [or_assoc.symm] at hst
    simpa [State.batLive, hmv] using hst
  case ntc => simpa [hn] using ht
  case frames =>
    obtain rfl | rfl | rfl | rfl := hu
    · exact UnitFrame.refl.removeBat
    · exact UnitFrame.refl.batDepleted
    · exact UnitFrame.refl.batFault _
    · exact UnitFrame.refl.batDeep

/-! ### The gauge and the lockout -/

/-- The flow of charge, its turnover left open. -/
theorem Bat.flow_eq (b : Bat) (q : Int) : ∃ d c, b.flow q =
    { b with qrem := min (b.part 1000) (Int.toNat (b.qrem - q)), counted := b.counted - q, drained := d, cycles := c } :=
  ⟨_, _, rfl⟩

theorem State.lastMa_gaugeFlow (q : Int) : (s.gaugeFlow q).hub.bat.lastMa = s.hub.bat.lastMa := by
  unfold State.gaugeFlow
  split
  · obtain ⟨d, c, e⟩ := s.hub.bat.flow_eq q
    rw [State.bat_modBat, e]
  · rfl

theorem State.hub_gaugeConverts (n : Nat) : (s.gaugeConverts n).hub = s.hub := by
  unfold State.gaugeConverts
  split <;> rfl

theorem State.lastMa_gaugeSampled (i : Int) :
    (s.gaugeSampled i).hub.bat.lastMa = if i.natAbs < 16380 then i else s.hub.bat.lastMa := by
  have hv : sampleValid i = true ↔ i.natAbs < 16380 := decide_eq_true_iff
  unfold State.gaugeSampled
  dsimp only
  rw [State.hub_gaugeConverts, State.lastMa_gaugeFlow, State.bat_modBat]
  simp only [hv]

/-- `u` is `s` but for the hub and the ADC. -/
def HubAdcFrame (s u : State) : Prop := u = { s with hub := u.hub, adc := u.adc }

namespace HubAdcFrame

variable {t u : State}

theorem trans (h : HubAdcFrame s t) (k : HubAdcFrame t u) : HubAdcFrame s u :=
  Eq.trans k (congrArg (fun x : State => { x with hub := u.hub, adc := u.adc }) h)
theorem modBat (g : Bat → Bat) : HubAdcFrame s (s.modBat g) := rfl
theorem gaugeFlow (q : Int) : HubAdcFrame s (s.gaugeFlow q) := by
  unfold State.gaugeFlow
  split
  · exact modBat _
  · rfl
theorem gaugeConverts (n : Nat) : HubAdcFrame s (s.gaugeConverts n) := by
  unfold State.gaugeConverts
  split <;> rfl

end HubAdcFrame

/-- One gauge sample moves the hub's battery and the ADC's main path, and nothing else (R386). -/
theorem State.gaugeSampled_rest (i : Int) : HubAdcFrame s (s.gaugeSampled i) :=
  ((HubAdcFrame.modBat _).trans (.gaugeFlow _)).trans (.gaugeConverts _)

theorem State.gaugeValid_restCorrected (v : Nat) : (s.restCorrected v).hub.bat.gaugeValid = true := by
  have from_table (t : State) (n : Nat) : (t.gaugeFrom n true).hub.bat.gaugeValid = true := by
    rw [State.gaugeFrom, State.bat_modBat]
  unfold State.restCorrected
  dsimp only
  split
  · rw [State.bat_modBat]
    exact from_table _ _
  · exact from_table _ _

/-- Settles O38: the flow is clamped to 0 and `FCC`, and the lockout's rows turn on the inputs other than the battery. -/
theorem gaugeCountsAndLocksOut : Obligations.GaugeCountsAndLocksOut := by
  intro s
  refine ⟨fun hon hp hin i => ?sample, fun i => ⟨State.lastMa_gaugeSampled i, State.gaugeSampled_rest i⟩,
    fun b q => ?flow, fun hon hg hm t ht hin v => ⟨?rest, State.gaugeValid_restCorrected v⟩,
    fun hon hst hno hbit hbow => event_of hon (by simp [hst, hno, hbit, hbow]), fun hl hno => ⟨_, if_pos (by simp [hl, hno]), rfl⟩,
    fun hno => if_neg (by simp [hno])⟩
  case sample =>
    change execGaugeSample i s = _
    exact dueEvent_of_due hon hp hin _
  case flow =>
    obtain ⟨d, c, e⟩ := b.flow_eq q
    rw [e]
    generalize b.part 1000 = full
    refine ⟨min_le_left _ _, rfl, fun hlo hhi => ?_⟩
    dsimp only
    omega
  case rest =>
    change execRestCorrection v s = _
    unfold execRestCorrection
    rw [ht]
    exact dueEvent_of_due hon (by simp [hg, hm]) (.inr hin) _

end Sys2Proof.Machine
end

/-! ## The feeds (R294 to R313) -/

section
namespace Sys2Proof.Machine

variable {s : State}

theorem State.lostFeeds_unlose (b : Bus) (code : Nat) :
    ((s.unlose b code).feed b).lostFeeds = (s.feed b).lostFeeds.filter fun c => decide (c.toNat ≠ code) := by
  rw [State.unlose, State.feed_modFeed]

theorem State.not_available_of_lost {b : Bus} {code : Nat} (h : BitVec.ofNat 3 code ∈ (s.feed b).lostFeeds) :
    s.feedAvailable b code = false := by
  rw [State.feedAvailable, if_pos (by simpa using h)]

/-- An update of the hub that leaves its feed buses. -/
theorem State.feed_modHub {g : Hub → Hub} (h1 : ∀ h, (g h).feed1 = h.feed1) (h2 : ∀ h, (g h).feed2 = h.feed2) (b : Bus) :
    (s.modHub g).feed b = s.feed b := by
  cases b with
  | nbus1 => exact (State.feed1_modHub ..).trans (h1 _)
  | nbus2 => exact (State.feed2_modHub ..).trans (h2 _)

theorem State.feed_modCv (b : Bus) (c : Conv) (g : Cv → Cv) : (s.modCv c g).feed b = s.feed b := by
  cases c <;> exact State.feed_modHub (by intro _; rfl) (by intro _; rfl) b

theorem State.feed_hubClamp (b : Bus) (k : Nat) (act : Bool) : (s.hubClamp k act).feed b = s.feed b := by
  have raised (t : State) (w : Word) : (if act then t.orReg 0x0804 w else t).feed b = t.feed b := by
    split
    · cases b <;> rfl
    · rfl
  have posted (t : State) (r : Bool) (c : Byte) (a : Half) : (if r then t.postH c a else t).feed b = t.feed b := by
    split
    · cases b <;> rfl
    · rfl
  unfold State.hubClamp
  dsimp only
  exact (posted ..).trans ((State.feed_modHub (by intro _; rfl) (by intro _; rfl) b).trans (raised ..))

theorem State.feed_refreshConv (b : Bus) (c : Conv) (droop : Nat) : (s.refreshConv c droop).feed b = s.feed b := by
  have slewed (P : Prop) [Decidable P] (g : Cv → Cv) : (if P then s else s.modCv c g).feed b = s.feed b := by
    split
    · rfl
    · exact State.feed_modCv ..
  have stored (t : State) (i j : Nat) (v w : Word) : ((t.setReg i v).setReg j w).feed b = t.feed b := by cases b <;> rfl
  unfold State.refreshConv
  dsimp only
  rw [State.feed_hubClamp, State.feed_hubClamp, stored, slewed]

/-- R313: setting the droops leaves the limit of the share loop as it is written. -/
theorem State.shareLim_shareSet (b : Bus) (d1 d2 : Nat) (lim : Bool) : ((s.shareSet b d1 d2 lim).feed b).shareLim = lim := by
  have one (t : State) (c : Conv) (d : Nat) :
      (if t.convBus c = b then (t.modCv c fun v => { v with droop := min 25 d }).refreshConv c d else t).feed b = t.feed b := by
    split
    · rw [State.feed_refreshConv, State.feed_modCv]
    · rfl
  unfold State.shareSet
  dsimp only
  rw [one, one, State.feed_modFeed]

theorem State.feed_busLostNow (b : Bus) : (s.busLostNow b).feed b = { s.feed b with lost := true } := by
  have kept (t : State) (u src v : Nat) (l : Bool) (c : Byte) (a : Half) : ((t.postH c a).fault u src v l).feed b = t.feed b := by
    cases b <;> (simp only [State.feed, State.hub_fault]; rfl)
  unfold State.busLostNow
  rw [kept, State.feed_modFeed]

/-- Settles O32: each row of the feeds is an event of its own condition, or a write of its register. -/
theorem feedsChangeOver : Obligations.FeedsChangeOver := by
  intro b s hon
  refine ⟨fun code h => ⟨event_of hon (by simpa using h), ?marked, ?unavailable⟩, fun h => event_of hon h,
    fun code h0 h7 => ⟨event_of hon (by rw [decide_eq_true h0, decide_eq_true h7]; rfl), ?returned⟩,
    fun hl hlost => ⟨event_of hon (by simp [hl, hlost]), State.feed_busLostNow b⟩,
    fun hp d1 d2 lim => ⟨event_of hon (by simp [hp]), State.shareLim_shareSet b d1 d2 lim⟩,
    fun m v => powered_of_on s _ hon, fun m => ⟨powered_of_on s _ hon, powered_of_on s _ hon⟩⟩
  case marked => simpa using s.mem_lostFeeds_markLost b code.toNat
  case unavailable => exact State.not_available_of_lost (s.mem_lostFeeds_markLost b code.toNat)
  case returned => simp [State.lostFeeds_unlose]

end Sys2Proof.Machine
end

/-! ## Onyx's commands (R457, R458, R556) -/

section
namespace Sys2Proof.Machine

variable {s : State} {m : Master} {a : Half}

/-- The opcode of each Onyx command. -/
theorem exec_onyxRow {row : (Master → Half → Instr) × OnxOp} (h : IsOnyxRow row) :
    ∃ op, onxOpOf op = some row.2 ∧ ∀ (m : Master) (a : Half) (s : State), exec (row.1 m a) s = powered s (s.onxCmd m op a) := by
  simp only [IsOnyxRow, List.mem_cons, List.not_mem_nil, or_false] at h
  obtain rfl | rfl | rfl | rfl | rfl | rfl | rfl | rfl | rfl | rfl | rfl | rfl | rfl | rfl | rfl := h <;>
    exact ⟨_, rfl, fun _ _ _ => rfl⟩

/-- The state in which `m`, the owner, has just accessed Onyx's registers. -/
def State.onxOwned (s : State) (m : Master) : State := { s with onx := { s.onx with owner := some m, ownerAt := s.cycles } }

theorem State.onxMine_iff : s.onxMine m = true ↔ s.onx.owner = none ∨ s.onx.owner = some m := by
  unfold State.onxMine
  split <;> simp_all

theorem State.onxAccess_mine (h : s.onx.owner = none ∨ s.onx.owner = some m) (g : State → State) :
    s.onxAccess m g = g (s.onxOwned m) := if_pos (State.onxMine_iff.mpr h)

theorem State.onxAccess_other {o : Master} (h : s.onx.owner = some o) (hne : o ≠ m) (g : State → State) :
    s.onxAccess m g = s.orReg 0x0300 0x400 := by
  have hno : ¬ s.onxMine m = true := by simp [State.onxMine_iff, h, hne]
  exact if_neg hno

section
variable {op : Nat} {o : OnxOp} (hop : onxOpOf op = some o)
include hop

theorem State.onxJudge_badArg (ha : onxArgOk o a.toNat = false) : s.onxJudge m op a = s.onxResult m .refused .badCmd := by
  simp [State.onxJudge, hop, ha]

theorem State.onxJudge_wrongMode (ha : onxArgOk o a.toNat = true) (hm : s.mode ≠ .standby ∧ s.mode ≠ .run ∧ s.mode ≠ .safe) :
    s.onxJudge m op a = s.onxResult m .refused .deviceMode := by
  simp [State.onxJudge, hop, ha, hm]

/-- What is left to judge in a mode that takes the command. -/
theorem State.onxJudge_takes (ha : onxArgOk o a.toNat = true) (hm : s.mode = .standby ∨ s.mode = .run ∨ s.mode = .safe) :
    s.onxJudge m op a = if s.onxPre o a.toNat = false then s.onxResult m .refused .precondition
      else if s.onxAuth o a.toNat m = false then s.onxResult m .refused .notAuthenticated
      else s.onxStart o a m := by
  have hmode : ¬(s.mode ≠ .standby ∧ s.mode ≠ .run ∧ s.mode ≠ .safe) := by tauto
  simp only [State.onxJudge, hop, ha, if_neg hmode, Bool.not_eq_true', Bool.true_eq_false, if_false]

end

/-- RELEASE gives the registers back at once (R457). -/
theorem State.owner_onxStart_release : (s.onxStart .release a m).onx.owner = none := by
  unfold State.onxStart State.onxResult
  rw [if_pos rfl]
  dsimp only
  split <;> rfl

/-- Settles O52: the access tests the owner, a running command keeps the next waiting, and `onxJudge` tests in the order
stated. -/
theorem onyxCommandsAct : Obligations.OnyxCommandsAct := by
  intro row hrow m a s hon
  obtain ⟨op, hop, hexec⟩ := exec_onyxRow hrow
  intro mine gives
  have hown : mine = s.onxOwned m := rfl
  clear_value mine
  subst hown
  simp only [gives]
  rw [hexec, powered_of_on s _ hon, State.onxCmd]
  refine ⟨fun o ho hne => ?other, fun hmine hbusy => ?waits, fun hmine hfree => ?judged⟩
  case other => rw [State.onxAccess_other ho hne]
  case waits =>
    rw [State.onxAccess_mine hmine]
    have hb : (s.onxOwned m).onx.cmd.isSome = true := hbusy
    refine ⟨_, congrArg done (if_pos hb), rfl, ?_⟩
    exact List.length_append
  case judged =>
    have hf : ¬(s.onxOwned m).onx.cmd.isSome = true := by
      rw [show (s.onxOwned m).onx.cmd = none from hfree]
      decide
    rw [State.onxAccess_mine hmine]
    simp only [if_neg hf]
    refine ⟨fun ha => ?_, fun ha h1 h2 h3 => ?_, fun ha hm => ?_⟩
    · rw [State.onxJudge_badArg hop ha]
    · rw [State.onxJudge_wrongMode (s := s.onxOwned m) hop ha ⟨h1, h2, h3⟩]
    · rw [State.onxJudge_takes (s := s.onxOwned m) hop ha hm]
      refine ⟨fun hpre => ?_, fun hpre hauth => ?_, fun hpre hauth hrun => ?_, fun hpre hauth hrel => ?_⟩
      · rw [if_pos hpre]
      · rw [if_neg (by simp [hpre]), if_pos hauth]
      · rw [if_neg (by simp [hpre]), if_neg (by simp [hauth]), State.onxStart, if_neg hrun]
        rfl
      · rw [if_neg (by simp [hpre]), if_neg (by simp [hauth]), hrel]
        exact ⟨rfl, State.owner_onxStart_release⟩

end Sys2Proof.Machine
end

/-! ## What a fault event keeps, by closure -/

section
namespace Sys2Proof.Machine

variable {s : State}

/-- A property that every update of a fault event keeps is kept by the event: those of its unit, its counters' register, the
posted events, the owed actions and the journal. -/
theorem State.fault_closed {P : State → Prop} {u : Nat} (hF : ∀ t x, P t → P (t.setFlt u x))
    (hR : ∀ (t : State) w, P t → P (t.setReg (unitBase u + 9) w)) (hP : ∀ (t : State) l, P t → P { t with posts := l })
    (hT : ∀ (t : State) l, P t → P { t with todo := l }) (hJ : ∀ (t : State) typ l, P t → P (t.jrn typ l))
    (src v : Nat) (l3 : Bool) (h : P s) : P (s.fault u src v l3) := by
  unfold State.fault
  split
  · exact h
  · lift_lets
    extract_lets f0 c pend pl bus
    generalize countWindow (decide (s.fltCfg.reactions ≠ [])) c (BitVec.ofNat 8 src) f0.windows = r
    obtain ⟨ws, prom⟩ := r
    dsimp -zeta only
    extract_lets l esc raises w0 f1 s1 s2 s3 arg s4 s5 s6
    have h2 : P s2 := hR _ _ (hF _ _ h)
    have h3 : P s3 := by
      unfold s3; split
      · exact hR _ _ h2
      · exact h2
    have h4 : P s4 := by
      have posted (p : Port) : P (s3.postF p 0x31 arg) := by
        unfold State.postF
        dsimp only
        split
        · exact hP _ _ h3
        · exact hT _ _ (hP _ _ h3)
      unfold s4; split
      · exact h3
      · split
        · exact posted _
        · split
          · exact hP _ _ h3
          · exact h3
    have h5 : P s5 := by
      unfold s5; split
      · exact hJ _ _ _ h4
      · exact h4
    have h6 : P s6 := by
      unfold s6; split
      · exact hT _ _ h5
      · exact h5
    split
    · exact hT _ _ h6
    · exact h6

/-! ### The journal's own fields of Onyx -/

/-- `o'` is `o` but for the journal's count, tag and records since the last seal. -/
def JrnOnly (o o' : Onx) : Prop := ∃ n t k, o' = { o with jrnCount := n, jrnTag := t, sinceSeal := k }

theorem JrnOnly.jrnRaw {o : Onx} {t : State} (h : JrnOnly o t.onx) (typ fl : Nat) (l : List Byte) :
    JrnOnly o (t.jrnRaw typ fl l).onx := by
  obtain ⟨n, tag, k, e⟩ := h
  unfold State.jrnRaw State.nvmQueue
  dsimp only [State.modNvm, State.modOnx]
  rw [e]
  exact ⟨_, _, _, rfl⟩

theorem JrnOnly.jrnSeal {o : Onx} {t : State} (h : JrnOnly o t.onx) : JrnOnly o t.jrnSeal.onx := by
  unfold State.jrnSeal
  cases t.onx.jk with
  | none => exact h
  | some k =>
    obtain ⟨n, tag, k, e⟩ := h.jrnRaw 0x0C 0 (leBytes 16 (Config.cmac k (t.devId ++ leBytes 4 (t.onx.jrnCount - 1) ++ t.onx.jrnTag)).toNat)
    dsimp only [State.modOnx]
    rw [e]
    exact ⟨_, _, _, rfl⟩

theorem JrnOnly.jrn {o : Onx} {t : State} (h : JrnOnly o t.onx) (typ : Nat) (l : List Byte) (fw : Bool) :
    JrnOnly o (t.jrn typ l fw).onx := by
  unfold State.jrn
  have hraw := h.jrnRaw typ (if fw then 2 else 0) l
  generalize t.jrnRaw typ (if fw then 2 else 0) l = x at hraw
  split
  · dsimp only
    split
    · exact hraw.jrnSeal
    · exact hraw
  · exact h

/-- A fault event moves of Onyx only what its journal record moves. -/
theorem State.onx_fault (u src v : Nat) (l3 : Bool) : JrnOnly s.onx (s.fault u src v l3).onx :=
  State.fault_closed (P := fun t => JrnOnly s.onx t.onx) (fun t x h => by simpa using h) (fun _ _ h => h) (fun _ _ h => h)
    (fun _ _ h => h) (fun _ typ l h => h.jrn typ l false) src v l3 ⟨_, _, _, rfl⟩

theorem State.alarm_onxAlarm (code : Nat) : (s.onxAlarm code).onx.alarm = BitVec.ofNat 8 code := by
  obtain ⟨n, t, k, e⟩ := (s.modOnx fun o => { o with alarm := BitVec.ofNat 8 code }).onx_fault 5 0x0A code false
  rw [State.onxAlarm, e]
  rfl

/-! ## Onyx's events (R428 to R458) -/

theorem State.onx_reach (due : Nat) : (s.reach due).onx = s.onx := by
  rw [State.reach_rest]

/-- An end of time in Onyx: reached, it takes one thing of Onyx away. -/
theorem dueEvent_onx {on : Bool} {due : Nat} {g : Onx → Onx} (hon : s.on = true) (h : on = true)
    (hin : s.mode = .sentinel ∨ due ≤ s.nextTick) :
    ∃ u, dueEvent s (onxSpan on due) true (fun s => s.modOnx g) = done u ∧ u.onx = g s.onx ∧ u.cycles = max s.cycles due := by
  rw [onxSpan, if_pos h]
  exact ⟨_, dueEvent_of_due hon rfl hin _, congrArg g (State.onx_reach due), State.cycles_reach due⟩

theorem State.busRead_rng (m : Master) (c u : Bool) : (s.busRead m 0x0304 c u).1 = s.rngWord := rfl

/-- Settles O53: the ends of time are due events, each of its own field, and the random word is the draw of the counter. -/
theorem onyxEventsAct : Obligations.OnyxEventsAct := by
  intro s hon
  refine ⟨fun c r hc => event_of hon (by simp [hc]), fun m n v => ⟨fun hmine => ?mine, fun x hx hne => ?other⟩,
    fun m => ⟨fun hok => ⟨?draws, fun c u => ?word⟩, fun hno => ⟨?stays, fun c u => ?zero⟩⟩,
    fun h hin => dueEvent_onx hon h hin, fun h hin => dueEvent_onx hon h hin, fun h hin => dueEvent_onx hon h hin,
    fun h hin => dueEvent_onx hon h hin, fun hok => ⟨_, event_of hon hok, ?failed, State.alarm_onxAlarm 1⟩,
    fun hself hno => event_of hon (by simp [hself, hno]), event_of hon rfl, fun hc => ?glitch⟩
  case mine =>
    exact (powered_of_on s _ hon).trans (congrArg done (State.onxAccess_mine hmine _))
  case other => exact (powered_of_on s _ hon).trans (congrArg done (State.onxAccess_other hx hne _))
  case draws => exact (powered_of_on s _ hon).trans (congrArg done (if_pos hok))
  case word => rw [State.busRead_rng, State.rngWord, if_pos hok]
  case stays => exact (powered_of_on s _ hon).trans (congrArg done (if_neg (by simp [hno])))
  case zero => rw [State.busRead_rng, State.rngWord, if_neg (by simp [hno])]
  case failed =>
    obtain ⟨n, t, k, e⟩ := ((s.modOnx fun o => { o with rngOk := false }).modOnx fun o =>
      { o with alarm := BitVec.ofNat 8 1 }).onx_fault 5 0x0A 1 false
    rw [State.onxAlarm, e]
    rfl
  case glitch =>
    have hnone : (s.onxAlarm 4).onx.cmd = none := by
      obtain ⟨n, t, k, e⟩ := (s.modOnx fun o => { o with alarm := BitVec.ofNat 8 4 }).onx_fault 5 0x0A 4 false
      rw [State.onxAlarm, e]
      exact hc
    rw [State.glitched]
    simp only [hnone]
    exact State.alarm_onxAlarm 4

end Sys2Proof.Machine
end

/-! ## The loader's commands (R107 to R117, R556) -/

section
namespace Sys2Proof.Machine

variable {s : State} {m : Master} {a : Half}

/-- Each loader command is `cfgCmd` with its opcode. -/
theorem exec_loaderRow {row : (Master → Half → Instr) × Nat} (h : row ∈ loaderRows) :
    (∃ o, ldrOpOf row.2 = some o ∧ (o = .closeWrite ↔ row.2 = 3))
      ∧ ∀ (m : Master) (a : Half) (s : State), exec (row.1 m a) s = powered s (s.cfgCmd m row.2 a.toNat) := by
  simp only [loaderRows, List.mem_cons, List.not_mem_nil, or_false] at h
  obtain rfl | rfl | rfl | rfl | rfl := h <;> exact ⟨⟨_, rfl, by decide⟩, fun _ _ _ => rfl⟩

theorem State.cfgCmd_lost {op arg : Nat} (h : s.ldr.cmd.isSome = true ∨ s.ldr.waiting.isSome = true) :
    s.cfgCmd m op arg = s.orReg 0x0200 0x20 := if_pos (by simpa using h)

theorem State.cfgCmd_waits {op arg : Nat} (hc : s.ldr.cmd = none) (hw : s.ldr.waiting = none) (hb : s.liveBusy = true) :
    s.cfgCmd m op arg
      = (s.modLdr fun l => { l with waiting := some (m, fw 8 op ||| fw 16 arg) }).setReg 0x0202 (pendingWord 0 m) := by
  rw [State.cfgCmd, if_neg (by simp [hc, hw]), if_pos hb]

theorem State.cfgCmd_judged {op arg : Nat} (hc : s.ldr.cmd = none) (hw : s.ldr.waiting = none) (hb : s.liveBusy = false) :
    s.cfgCmd m op arg = s.cfgJudge m op arg := by
  rw [State.cfgCmd, if_neg (by simp [hc, hw]), if_neg (by simp [hb])]

/-- The order in which a command of a known opcode is judged (R556); `CLOSE_WRITE` has no argument. -/
theorem State.cfgJudge_eq {op arg : Nat} {o : LdrOp} (ho : ldrOpOf op = some o) (hclose : o = .closeWrite ↔ op = 3) :
    s.cfgJudge m op arg = if ¬(op = 3 ∨ (arg % 4 ≠ 3 ∧ arg < 24)) then s.cfgResult m .refused .badCmd
      else if s.mode ≠ .standby ∧ s.mode ≠ .run ∧ s.mode ≠ .safe then s.cfgResult m .refused .deviceMode
      else if s.cfgRefused o (arg % 4) (arg / 4 % 8) m then s.cfgResult m .refused .precondition
      else s.cfgStart o (arg % 4) (arg / 4 % 8) m := by
  have hnamed : (o ≠ .closeWrite ∧ (arg % 4 = 3 ∨ 5 < arg / 4 % 8 ∨ arg / 32 ≠ 0)) ↔ ¬(op = 3 ∨ (arg % 4 ≠ 3 ∧ arg < 24)) := by
    rw [ne_eq, hclose]
    omega
  rw [State.cfgJudge, ho]
  simp only [hnamed]

/-- Settles O49: `cfgCmd` tests for an outstanding command and a prepare or hold, and `cfgJudge` in the order stated. -/
theorem loaderCommandsAct : Obligations.LoaderCommandsAct := by
  intro s hon
  refine ⟨fun row hrow m a => ?_, fun c r hc => event_of hon (by simp [hc]), fun m v =>
    ⟨powered_of_on s _ hon, fun hn => by rw [State.cfgData, hn], powered_of_on s _ hon⟩⟩
  obtain ⟨⟨o, ho, hclose⟩, hexec⟩ := exec_loaderRow hrow
  dsimp only
  rw [hexec, powered_of_on s _ hon]
  refine ⟨fun h => ?lost, fun hc hw hb => ?waits, fun hc hw hb => ?judged⟩
  case lost => rw [State.cfgCmd_lost h]
  case waits => exact ⟨_, congrArg done (State.cfgCmd_waits hc hw hb), rfl, hc⟩
  case judged =>
    rw [State.cfgCmd_judged hc hw hb, State.cfgJudge_eq ho hclose]
    refine ⟨fun hn => by rw [if_pos hn], fun hn h1 h2 h3 => by rw [if_neg (not_not_intro hn), if_pos ⟨h1, h2, h3⟩],
      fun hn hm op hop => ?_⟩
    obtain rfl : o = op := Option.some.inj (ho.symm.trans hop)
    have hmode : ¬(s.mode ≠ .standby ∧ s.mode ≠ .run ∧ s.mode ≠ .safe) := by tauto
    rw [if_neg (not_not_intro hn), if_neg hmode]
    exact ⟨fun hr => by rw [if_pos hr], fun hr => by rw [if_neg (by simp [hr])]⟩

/-! ## The NVM controller (R510 to R515, R541 to R549) -/

theorem UnitFrame.capture {ps : List Port} {t : State} (h : UnitFrame ps s t) (j addr master typ size cause : Nat) :
    UnitFrame ps s (t.capture j addr master typ size cause) := by
  unfold State.capture
  dsimp only
  split
  · exact h
  · split
    · exact (h.count ..).fault ..
    · exact (((h.setReg ..).setReg ..).setReg ..).fault ..

theorem UnitFrame.busError {ps : List Port} {t : State} (h : UnitFrame ps s t) (i m : Nat) (wr : Bool) (size cause : Nat) :
    UnitFrame ps s (t.busError i m wr size cause) := h.capture ..

/-- An update of the NVM controller that leaves the array. -/
theorem UnitFrame.modNvm {ps : List Port} {t : State} (h : UnitFrame ps s t) {g : Nvm → Nvm} (hg : ∀ n, (g n).mem = n.mem) :
    UnitFrame ps s (t.modNvm g) :=
  h.trans ⟨fun _ _ => State.facet_modNvm .., hg _, rfl⟩

theorem UnitFrame.winWrite {ps : List Port} {t : State} (h : UnitFrame ps s t) (m : Master) (w : Nat) (v : Word) :
    UnitFrame ps s (t.winWrite m w v) := by
  have buffered (a : Nat) : UnitFrame ps s (t.bufWrite a v) := by
    unfold State.bufWrite
    dsimp only
    split
    · exact h.orReg ..
    · split
      · exact h.modNvm fun _ => rfl
      · split
        · exact h.modNvm fun _ => rfl
        · exact h.orReg ..
  unfold State.winWrite
  dsimp only
  split
  · exact buffered _
  · exact h.busError ..

theorem UnitFrame.winRead {ps : List Port} {t : State} (h : UnitFrame ps s t) (m w : Nat) (c u : Bool) :
    UnitFrame ps s (t.winRead m w c u) := by
  unfold State.winRead
  dsimp only
  split
  · exact h.busError ..
  · split
    · exact h
    · split
      · refine UnitFrame.capture ?_ _ _ _ _ _ _
        exact h.modNvm fun _ => rfl
      · split
        · exact (h.orReg ..).count ..
        · exact h

/-- Each command of the NVM controller is `nvmCmd` with its opcode. -/
theorem exec_nvmRow (hon : s.on = true) :
    exec (.flush m a) s = done (s.nvmCmd m 1 a.toNat) ∧ exec (.discard m a) s = done (s.nvmCmd m 2 a.toNat)
      ∧ exec (.nvmErase m a) s = done (s.nvmCmd m 3 a.toNat) :=
  ⟨powered_of_on s (s.nvmCmd m 1 a.toNat) hon, powered_of_on s (s.nvmCmd m 2 a.toNat) hon,
    powered_of_on s (s.nvmCmd m 3 a.toNat) hon⟩

/-- The opcodes of the NVM controller, each with an argument it takes (R513). -/
def NvmTakes (op arg : Nat) : Prop := op = 3 ∨ ((op = 1 ∨ op = 2) ∧ arg = 0)

theorem nvmTakes_iff {op arg : Nat} :
    (!(decide (op = 3) || (decide (op = 1 ∨ op = 2) && decide (arg = 0)))) = true ↔ ¬NvmTakes op arg := by
  simp only [NvmTakes, Bool.not_eq_true', Bool.or_eq_false_iff, Bool.and_eq_false_iff, decide_eq_false_iff_not, not_or, not_and_or]

theorem State.nvmCmd_badArg {op arg : Nat} (h : ¬NvmTakes op arg) : s.nvmCmd m op arg = s.nvmResult m .refused .badCmd := by
  exact if_pos (nvmTakes_iff.mpr h)

/-- The order in which a known command is judged (R556). -/
theorem State.nvmCmd_takes {op arg : Nat} (h : NvmTakes op arg) : s.nvmCmd m op arg =
    if s.mode ≠ .standby ∧ s.mode ≠ .run ∧ s.mode ≠ .safe then s.nvmResult m .refused .deviceMode
    else if s.nvm.flushing || (decide (op = 1) && s.nvm.buf.isNone) || (decide (op = 3) && decide (arg < 0xE100)) then
      s.nvmResult m .refused .precondition
    else if op = 1 then (s.nvmQueue (.flush (some m))).setReg 0x0603 (pendingWord 0 m)
    else if op = 2 then (s.modNvm fun v => { v with buf := none }).nvmResult m .accepted .none
    else ((s.modNvm fun v => { v with buf := v.buf.filter fun b => decide (b.1 ≠ arg) }).nvmQueue
      (.eraseUser arg m)).setReg 0x0603 (pendingWord 0 m) := by
  exact if_neg fun hno => nvmTakes_iff.mp hno h

/-- Settles O50: `nvmCmd` judges in the order stated, and each other row is an event of its own condition. -/
theorem nvmRowsAct : Obligations.NvmRowsAct := by
  intro s hon
  refine ⟨fun m a => ?commands, fun o l r ho => ?operation, fun m w v c u => ⟨powered_of_on s _ hon, powered_of_on s _ hon,
      fun hw => if_neg (by omega), UnitFrame.refl.winWrite .., UnitFrame.refl.winRead ..⟩,
    fun b p hdue => event_of hon hdue, fun ron osc t => event_of hon rfl, fun m => ⟨fun h1 h2 => ?saves, fun h => ?idle⟩,
    fun h1 h2 h3 => event_of hon (by simp [h1, h2, h3]), fun h1 h2 => event_of hon (by simp [h1, h2])⟩
  case operation =>
    refine (event_of hon (by simp [ho])).trans (congrArg done ?_)
    rw [State.arrayDone, ho]
    rfl
  case saves => exact (powered_of_on s _ hon).trans (congrArg done (if_neg (by simp [h1, h2])))
  case idle => exact (powered_of_on s _ hon).trans (congrArg done (if_pos h.symm))
  case commands =>
    obtain ⟨hf, hd, he⟩ := exec_nvmRow (m := m) (a := a) hon
    obtain ⟨hf0, hd0, -⟩ := exec_nvmRow (m := m) (a := 0) hon
    have takes : NvmTakes 1 (0 : Half).toNat ∧ NvmTakes 2 (0 : Half).toNat ∧ NvmTakes 3 a.toNat :=
      ⟨.inr ⟨.inl rfl, rfl⟩, .inr ⟨.inr rfl, rfl⟩, .inl rfl⟩
    obtain ⟨t1, t2, t3⟩ := takes
    refine ⟨fun ha => ?bad, fun h1 h2 h3 i hi => ?mode, fun hm => ?allowed⟩
    case bad =>
      have hne : a.toNat ≠ 0 := fun h => ha (BitVec.eq_of_toNat_eq h)
      rw [hf, hd, State.nvmCmd_badArg (by simp [NvmTakes, hne]), State.nvmCmd_badArg (by simp [NvmTakes, hne])]
      exact ⟨rfl, rfl⟩
    case mode =>
      simp only [List.mem_cons, List.not_mem_nil, or_false] at hi
      obtain rfl | rfl | rfl := hi
      · rw [hf0, State.nvmCmd_takes t1, if_pos ⟨h1, h2, h3⟩]
      · rw [hd0, State.nvmCmd_takes t2, if_pos ⟨h1, h2, h3⟩]
      · rw [he, State.nvmCmd_takes t3, if_pos ⟨h1, h2, h3⟩]
    case allowed =>
      have hmode : ¬(s.mode ≠ .standby ∧ s.mode ≠ .run ∧ s.mode ≠ .safe) := by tauto
      rw [hf0, hd0, he, State.nvmCmd_takes t1, State.nvmCmd_takes t2, State.nvmCmd_takes t3, if_neg hmode, if_neg hmode, if_neg hmode]
      refine ⟨fun hfl i hi => ?busy, fun hfl => ⟨fun hb => ?_, fun hb => ?_, ?_, fun hlo => ?_, fun hhi => ?_⟩⟩
      case busy =>
        simp only [List.mem_cons, List.not_mem_nil, or_false] at hi
        obtain rfl | rfl | rfl := hi
        · rw [hf0, State.nvmCmd_takes t1, if_neg hmode, if_pos (by simp [hfl])]
        · rw [hd0, State.nvmCmd_takes t2, if_neg hmode, if_pos (by simp [hfl])]
        · rw [he, State.nvmCmd_takes t3, if_neg hmode, if_pos (by simp [hfl])]
      · rw [if_neg (by simp [hfl, Option.isSome_iff_ne_none.mp hb]), if_pos rfl]
      · rw [if_pos (by simp [hb])]
      · rw [if_neg (by simp [hfl]), if_neg (by decide), if_pos rfl]
        exact ⟨_, rfl, rfl⟩
      · rw [if_pos (by simp [hlo])]
      · rw [if_neg (by simp [hfl, hhi]), if_neg (by decide), if_neg (by decide)]
        exact ⟨_, rfl, rfl⟩

end Sys2Proof.Machine
end

/-! ## Accesses to unmapped registers (R17, R405) -/

section
namespace Sys2Proof.Machine

variable {s : State}

/-- A fault event of a unit leaves every register but the unit's counters. -/
theorem RegKept.fault {i u : Nat} {t : State} (h : RegKept i s t) (hi : i ≠ unitBase u + 9) (src v : Nat) (l3 : Bool) :
    RegKept i s (t.fault u src v l3) := by
  refine State.fault_closed (P := RegKept i s) (fun x f hx => hx.of_regs ?_) (fun x w hx => hx.setReg w hi)
    (fun x l hx => hx.of_regs rfl) (fun x l hx => hx.of_regs rfl) (fun x typ l hx => hx.of_regs ?_) src v l3 h
  · simp
  · exact State.jrn_keep State.regs (fun _ _ => rfl) (fun _ _ => rfl) typ l false x

theorem masterId_lt (m : Master) : masterId m < 16 := by
  cases m with
  | link p => cases p <;> decide
  | _ => decide

/-- The word that identifies a captured access of the fabric: its master, its direction, a word's size and cause 1. -/
theorem captureWord_fields (m : Master) (wr : Bool) :
    let w := fw 0 (masterId m) ||| fw 4 (if wr then 1 else 0) ||| fw 6 2 ||| fw 8 1 ||| flag 16 true
    w.getLsbD 16 = true ∧ fld w 0 4 = masterId m ∧ fld w 4 2 = (if wr then 1 else 0) ∧ fld w 8 8 = 1 := by
  have fields : ∀ (k : Fin 16) (wr : Bool),
      let w := fw 0 k ||| fw 4 (if wr then 1 else 0) ||| fw 6 2 ||| fw 8 1 ||| flag 16 true
      w.getLsbD 16 = true ∧ fld w 0 4 = k ∧ fld w 4 2 = (if wr then 1 else 0) ∧ fld w 8 8 = 1 := by decide
  exact fields ⟨masterId m, masterId_lt m⟩ wr

/-- R405: a free capture whose source is enabled takes the access. -/
theorem State.reg_busError (hw : s.wf = true) (hfree : s.bit 0x0651 16 = false) (hon : s.bit 0x064A 4 = true)
    (i m size cause : Nat) (wr : Bool) :
    (s.busError i m wr size cause).reg 0x0650 = BitVec.ofNat 32 (0x40000000 + 4 * i)
      ∧ (s.busError i m wr size cause).reg 0x0651
        = fw 0 m ||| fw 4 (if wr then 1 else 0) ||| fw 6 size ||| fw 8 cause ||| flag 16 true := by
  have hen : ¬(!s.srcEnabled 5 (4 + 0)) = true := by rw [show s.srcEnabled 5 (4 + 0) = s.bit 0x064A 4 from rfl, hon]; decide
  have hfr : ¬s.bit (0x0650 + 4 * 0 + 1) 16 = true := by rw [show s.bit (0x0650 + 4 * 0 + 1) 16 = false from hfree]; decide
  unfold State.busError State.capture
  dsimp only
  rw [if_neg hen, if_neg hfr]
  have h0 := RegKept.regsWf hw
  have h1 := s.setReg_wf (0x0650 + 4 * 0) (BitVec.ofNat 32 (0x40000000 + 4 * i)) h0
  generalize BitVec.ofNat 32 (0x40000000 + 4 * i) = a at h1 ⊢
  generalize fw 0 m ||| fw 4 (if wr then 1 else 0) ||| fw 6 size ||| fw 8 cause ||| flag 16 true = w
  have h2 := (s.setReg (0x0650 + 4 * 0) a).setReg_wf (0x0650 + 4 * 0 + 1) w h1
  generalize ht : (s.setReg (0x0650 + 4 * 0) a).setReg (0x0650 + 4 * 0 + 1) w = t at h2
  have kept (j : Nat) (h2' : j ≠ 0x0652) (h9 : j ≠ 0x0649) :
      ((t.setReg (0x0650 + 4 * 0 + 2) s.stamp).fault 5 (4 + 0) 0).reg j = t.reg j :=
    (((RegKept.refl (s := t)).setReg s.stamp h2').fault (u := 5) h9 _ _ _ h2).2
  rw [kept 0x0650 (by decide) (by decide), kept 0x0651 (by decide) (by decide), ← ht,
    State.reg_setReg _ _ _ _ h1, State.reg_setReg _ _ _ _ h1, State.reg_setReg _ _ _ _ h0]
  exact ⟨rfl, rfl⟩

theorem State.busError_disabled (hoff : s.bit 0x064A 4 = false) (i m size cause : Nat) (wr : Bool) :
    s.busError i m wr size cause = s := by
  have hen : (!s.srcEnabled 5 (4 + 0)) = true := by rw [show s.srcEnabled 5 (4 + 0) = s.bit 0x064A 4 from rfl, hoff]; decide
  exact if_pos hen

/-- Settles O59: neither a read nor a write finds a row, and both go to the fabric's capture. -/
theorem unmappedAccessesAreRecorded : Obligations.UnmappedAccessesAreRecorded := by
  intro i m v s hon hwin hdbg hrow
  have h1 : ¬ 0x8000 ≤ i.toNat := by omega
  have h2 : ¬(0x2100 ≤ i.toNat ∧ i.toNat ≤ 0x21FF) := by omega
  refine ⟨?write, fun c u => ?read, fun wr hoff => State.busError_disabled hoff .., fun hw hfree hen wr => ?captured⟩
  case write =>
    refine (powered_of_on s (s.fabricWrite m i.toNat v) hon).trans (congrArg done ?_)
    rw [State.fabricWrite, if_neg (by simp; omega), State.busWrite, if_neg h1, if_neg h2, hrow]
  case read => rw [State.busRead, if_neg h1, if_neg h2, hrow]
  case captured =>
    obtain ⟨ha, hid⟩ := State.reg_busError hw hfree hen i.toNat (masterId m) 2 1 wr
    obtain ⟨hvalid, hm, hdir, hcause⟩ := captureWord_fields m wr
    dsimp only [State.bit, State.rf]
    rw [ha, hid]
    exact ⟨rfl, hvalid, hm, hdir, hcause⟩

end Sys2Proof.Machine
end

/-! ## Register fields (R6) -/

section
namespace Sys2Proof.Machine

variable {s : State}

/-- Registers with plain RW fields only, each with the mask of these. -/
def rwRegs : List (Nat × Word) :=
  [(0x0006, 0xFFFFFFFF#32), (0x0007, 0xFFFFFFFF#32), (0x0019, 0x03FFFFFF#32), (0x0103, 0xFFF#32), (0x0306, 0x3F#32)
  , (0x0508, 0x83FF03FF#32), (0x0600, 0x7F#32), (0x0723, 0x3F#32), (0x2008, 0xFFFFFFFF#32)]

/-- Registers with plain W1C flags only, each with the mask of these. -/
def w1cRegs : List (Nat × Word) := [(0x0108, 0x7F#32), (0x0502, 0xF#32), (0x0604, 7#32), (0x2001, 0x1FF#32), (0x2045, 0xF#32)]

theorem State.regWrite_of_rw {r : Nat × Word} (hr : r ∈ rwRegs) (v : Word) :
    s.regWrite r.1 v = s.setReg r.1 (((s.reg r.1 &&& ~~~ r.2) ||| (v &&& r.2)) ||| (v &&& 0#32)) := by
  simp only [rwRegs, List.mem_cons, List.not_mem_nil, or_false] at hr
  obtain rfl | rfl | rfl | rfl | rfl | rfl | rfl | rfl | rfl := hr <;> rfl

theorem State.regWrite_of_w1c {r : Nat × Word} (hr : r ∈ w1cRegs) (v : Word) : s.regWrite r.1 v = s.clrReg r.1 (v &&& r.2) := by
  simp only [w1cRegs, List.mem_cons, List.not_mem_nil, or_false] at hr
  obtain rfl | rfl | rfl | rfl | rfl := hr <;> rfl

/-! ### Writes that judge the charge again (R351) -/

theorem State.regs_judgeCharge : s.judgeCharge.regs = s.regs := by
  have phase (t : State) (x : ChgPhase) : (t.setPhase x).regs = t.regs := by
    unfold State.setPhase
    split <;> rfl
  have stop (x : ChgPhase) : (s.stopCharge x).regs = s.regs := (phase ..).trans rfl
  unfold State.judgeCharge
  dsimp only
  split
  · exact stop _
  · split
    · exact stop _
    · rfl

/-- The judgement of the unrouted monitor sets at most one flag of the battery. -/
theorem State.judgeWm_eq : s.judgeWm = s ∨ s.judgeWm = s.orReg 0x08CF (flag 9 true) := by
  unfold State.judgeWm
  split
  · exact .inr rfl
  · exact .inl rfl

theorem RegKept.judged {i : Nat} {t : State} (h : RegKept i s t) (hi : i ≠ 0x08CF) : RegKept i s t.judgeWm.judgeCharge := by
  refine RegKept.of_regs (t := t.judgeWm) ?_ State.regs_judgeCharge
  obtain e | e := t.judgeWm_eq
  · rw [e]; exact h
  · rw [e]; exact h.orReg _ hi

/-- Of the battery's flags, the judgements leave those below 9. -/
theorem State.flags_judged (h : spWf resetWord s.regs = true) {k : Nat} (hk : k < 9) :
    (s.judgeWm.judgeCharge.reg 0x08CF).getLsbD k = (s.reg 0x08CF).getLsbD k := by
  have hreg : s.judgeWm.judgeCharge.reg 0x08CF = s.judgeWm.reg 0x08CF := by
    unfold State.reg
    rw [State.regs_judgeCharge]
  rw [hreg]
  obtain e | e := s.judgeWm_eq
  · rw [e]
  · have hflag : (flag 9 true).getLsbD k = false := by
      have low : ∀ j : Fin 9, (flag 9 true).getLsbD j = false := by decide
      exact low ⟨k, hk⟩
    rw [e, State.orReg, State.reg_setReg _ _ _ _ h, if_pos rfl, BitVec.getLsbD_or, hflag, Bool.or_false]

/-- The words of a window monitor that are written: its thresholds are RW, its edges W1C. -/
theorem State.regWrite_thresholds (v : Word) : s.regWrite 0x0401 v
    = (s.setReg 0x0401 (((s.reg 0x0401 &&& ~~~ 0xFFFF#32) ||| (v &&& 0xFFFF#32)) ||| (v &&& 0#32))).judgeWm.judgeCharge := by
  rfl
theorem State.regWrite_edges (v : Word) :
    s.regWrite 0x0402 v = (s.clrReg 0x0402 (v &&& 0xF0#32)).judgeWm.judgeCharge := by
  rfl

/-- The battery's flags have no RW field, so a write, held or not, stores nothing but what it clears. -/
theorem State.regWrite_batteryFlags (v : Word) : ∃ t : State, s.regWrite 0x08CF v = t.judgeWm.judgeCharge
    ∧ t.regs = (s.clrReg 0x08CF (v &&& 0x3FF#32)).regs := by
  refine ⟨(s.clrReg 0x08CF (v &&& 0x3FF#32)).bankWrite 0x08CF v, rfl, ?_⟩
  have stored (t : State) : t.storeRw 0x08CF v = t := rfl
  have bank (t : State) : (t.bankWrite 0x08CF v).regs = t.regs := by
    have hf : facetOf 0x08CF = none := by decide
    rw [State.bankWrite]
    simp only [hf, if_pos (show 0x0800 ≤ 0x08CF ∧ 0x08CF < 0x1000 by decide), stored]
    split <;> rfl
  exact bank _

/-- Settles O60: a write of a plain field stores it, a write of a flag clears it, and what such a write sets going changes no
other register. -/
theorem registerFieldsBehaveAsTheirCodes : Obligations.RegisterFieldsBehaveAsTheirCodes := by
  intro v s hw
  have hr := RegKept.regsWf hw
  refine ⟨fun r h => ⟨?field, fun j hj => ?other⟩, fun r h => ⟨?flag, fun j hj => ?others⟩, ⟨?thresholds, ?edges, fun _ k hk => ?flags, ?kept⟩,
    fun hon m i => powered_of_on s _ hon⟩
  case field => rw [State.regWrite_of_rw h, State.reg_setReg _ _ _ _ hr, if_pos rfl, BitVec.and_zero, BitVec.or_zero]
  case other => rw [State.regWrite_of_rw h, State.reg_setReg _ _ _ _ hr, if_neg hj]
  case flag => rw [State.regWrite_of_w1c h, State.clrReg, State.reg_setReg _ _ _ _ hr, if_pos rfl]
  case others => rw [State.regWrite_of_w1c h, State.clrReg, State.reg_setReg _ _ _ _ hr, if_neg hj]
  case thresholds =>
    rw [State.regWrite_thresholds, (RegKept.refl.judged (by decide) (s.setReg_wf _ _ hr)).2, State.reg_setReg _ _ _ _ hr, if_pos rfl,
      BitVec.and_zero, BitVec.or_zero]
  case edges =>
    rw [State.regWrite_edges, (RegKept.refl.judged (by decide) (s.clrReg_wf _ _ hr)).2, State.clrReg, State.reg_setReg _ _ _ _ hr,
      if_pos rfl]
  case flags =>
    obtain ⟨t, e, he⟩ := s.regWrite_batteryFlags v
    have ht : spWf resetWord t.regs = true := he ▸ s.clrReg_wf _ _ hr
    have hreg : t.reg 0x08CF = s.reg 0x08CF &&& ~~~ (v &&& 0x3FF#32) := by
      unfold State.reg
      rw [he]
      exact (s.reg_setReg _ _ _ hr).trans (if_pos rfl)
    have hlow : (0x3FF#32).getLsbD k = true := by
      have low : ∀ j : Fin 9, (0x3FF#32).getLsbD j = true := by decide
      exact low ⟨k, hk⟩
    rw [e, State.flags_judged ht hk, hreg, BitVec.getLsbD_and, BitVec.getLsbD_not, BitVec.getLsbD_and, hlow, Bool.and_true]
    simp [show k < 32 by omega]
  case kept =>
    intro i hi j hj hflag
    simp only [List.mem_cons, List.not_mem_nil, or_false] at hi
    obtain rfl | rfl | rfl := hi
    · rw [State.regWrite_thresholds]
      exact ((RegKept.refl.setReg _ hj).judged hflag hr).2
    · rw [State.regWrite_edges]
      exact ((RegKept.refl.setReg _ hj).judged hflag hr).2
    · obtain ⟨t, e, he⟩ := s.regWrite_batteryFlags v
      rw [e]
      exact (((RegKept.refl.setReg _ hj).of_regs he).judged hflag hr).2

end Sys2Proof.Machine
end

/-! ## The tick (R25, R26): what follows its boundary leaves TIME and the next boundary -/

section
namespace Sys2Proof.Machine

variable {s t u : State}

/-- TIME, the next tick boundary and the length kept for the boundary after it are the same. -/
def TimeKept (s u : State) : Prop := u.cycles = s.cycles ∧ u.nextTick = s.nextTick ∧ u.tickOld = s.tickOld

theorem mem_allPorts (p : Port) : p ∈ allPorts := by cases p <;> decide

theorem PortFrame.owedOffer {p : Port} (h : PortFrame p s t) : PortFrame p s (t.owedOffer p) := by
  unfold State.owedOffer
  dsimp only
  split
  · exact h.sendCaps _
  · exact h

/-! ### Steps of the tick that change only units -/

section
variable (h : UnitFrame allPorts s t)
include h

theorem UnitFrame.judgePort (p : Port) : UnitFrame allPorts s (t.judgePort p) := by
  unfold State.judgePort
  exact h.modPp (mem_allPorts p) _

theorem UnitFrame.judgeLimits (c : Conv) (i : Int) : UnitFrame allPorts s (t.judgeLimits c i) := by
  unfold State.judgeLimits
  exact h.modCv ..

theorem UnitFrame.judgeNtc : UnitFrame allPorts s t.judgeNtc := by
  unfold State.judgeNtc
  exact h.modBat _

theorem UnitFrame.judgeBat : UnitFrame allPorts s t.judgeBat := by
  unfold State.judgeBat
  exact h.modBat _

theorem UnitFrame.judgeInLim : UnitFrame allPorts s t.judgeInLim := by
  unfold State.judgeInLim
  exact h.modBat _

theorem UnitFrame.setAvail : UnitFrame allPorts s t.setAvail := by
  unfold State.setAvail
  exact (h.modCv ..).modCv ..

theorem UnitFrame.measureF (p : Port) (m : Sense) : UnitFrame allPorts s (t.measureF p m) := by
  unfold State.measureF
  exact (h.setFld ..).setReg ..

theorem UnitFrame.measureDie (tj : Int) : UnitFrame allPorts s (t.measureDie tj) := by
  unfold State.measureDie
  dsimp only
  split
  · exact (((h.setReg ..).setFld ..).setFld ..).fault ..
  · exact ((h.setReg ..).setFld ..).setFld ..

theorem UnitFrame.breakFeed (code : Nat) : UnitFrame allPorts s (t.breakFeed code) := by
  unfold State.breakFeed
  split
  · dsimp only
    split
    · exact h
    · exact UnitFrame.modPp (mem_allPorts _) (UnitFrame.gates (mem_allPorts _) h _) _
  · split
    · exact h.hub _
    · exact h

theorem UnitFrame.foldl {α : Type} (g : State → α → State) (hg : ∀ x a, UnitFrame allPorts s x → UnitFrame allPorts s (g x a))
    (l : List α) : UnitFrame allPorts s (l.foldl g t) := by
  induction l generalizing t with
  | nil => exact h
  | cons a l ih => exact ih (hg _ a h)

theorem UnitFrame.latchFeed (b : Bus) : UnitFrame allPorts s (t.latchFeed b) := by
  have arm (x : State) (hx : UnitFrame allPorts s x) : UnitFrame allPorts s (x.armOthers b) := by
    refine hx.foldl _ (fun y c hy => ?_) _
    split
    · exact hy.breakFeed c
    · exact hy
  have share (x : State) (hx : UnitFrame allPorts s x) : UnitFrame allPorts s (x.admitShare b) := by
    have ports := hx.foldl (fun s p => if s.listed b (portNo p + 1) && s.feedArmed b (portNo p + 1) then
      s.modPp p fun x => { x with sw := .ramping, guardOk := true, stallRun := false } else s) (fun y p hy => by
        split
        · exact hy.modPp (mem_allPorts p) _
        · exact hy) allPorts
    unfold State.admitShare
    dsimp only
    split
    · exact ports.hub _
    · exact ports
  unfold State.latchFeed
  split
  · exact h
  · dsimp only
    split
    · exact arm _ (h.modFeed ..)
    · exact share _ (h.modFeed ..)

theorem UnitFrame.envelopes : UnitFrame allPorts s t.envelopes := by
  unfold State.envelopes
  refine UnitFrame.refreshBat (UnitFrame.refreshConv (UnitFrame.refreshConv ?_ _ _) _ _)
  exact (((h.refreshIlim (p := .a) (by decide)).refreshIlim (p := .b) (by decide)).refreshIlim (p := .c) (by decide)).refreshIlim
    (p := .d) (by decide)

theorem UnitFrame.syncFeeds : UnitFrame allPorts s t.syncFeeds := by
  have bus (x : State) (b : Bus) (hx : UnitFrame allPorts s x) : UnitFrame allPorts s (x.syncBus b) := by
    unfold State.syncBus
    split
    · exact hx
    · exact hx.modFeed ..
  unfold State.syncFeeds
  dsimp only
  split
  · exact bus _ _ (bus _ _ h)
  · exact (bus _ _ (bus _ _ h)).postH ..

theorem UnitFrame.setBudget (b : Bus) : UnitFrame allPorts s (t.setBudget b) := by
  unfold State.setBudget
  dsimp only
  split
  · exact ((h.setFld ..).modFeed ..).fault ..
  · exact (h.setFld ..).modFeed ..

theorem UnitFrame.grantOne (p : Port) : UnitFrame allPorts s (t.grantOne p) := by
  unfold State.grantOne
  dsimp only
  split
  · exact h
  · split
    · refine UnitFrame.port (mem_allPorts p) h ?_
      unfold State.grantFull
      exact ((PortFrame.refl.modCt _).postF ..).owedOffer
    · exact UnitFrame.postF (UnitFrame.modCt (mem_allPorts p) h _) ..

theorem UnitFrame.allocate : UnitFrame allPorts s t.allocate := by
  have resized (x : State) (p : Port) (n : Option Nat) (hx : UnitFrame allPorts s x) : UnitFrame allPorts s (x.resized p n) := by
    unfold State.resized
    split
    · exact hx
    · split
      · exact hx
      · exact hx.modCt (mem_allPorts p) _
  unfold State.allocate
  split
  · exact h
  · exact resized _ _ _ (resized _ _ _ (resized _ _ _ (resized _ _ _ (h.foldl _ (fun x p hx => hx.grantOne p) _))))

theorem UnitFrame.ownVset (b : Bus) : UnitFrame allPorts s (t.ownVset b) := by
  unfold State.ownVset
  split
  · exact h
  · dsimp only
    split
    · exact h
    · split
      · exact h
      · split
        · exact h
        · exact h.hubVset ..

theorem UnitFrame.tickPower : UnitFrame allPorts s t.tickPower := by
  unfold State.tickPower
  dsimp only
  refine UnitFrame.judgeCharge (UnitFrame.judgeInLim ?_)
  exact ((((h.syncFeeds.setAvail.setBudget _).setBudget _).allocate).ownVset _).ownVset _

end

/-! ### The whole tick -/

namespace TimeKept

theorem refl : TimeKept s s := ⟨rfl, rfl, rfl⟩
theorem trans (h : TimeKept s t) (k : TimeKept t u) : TimeKept s u := by
  obtain ⟨h1, h2, h3⟩ := h
  obtain ⟨k1, k2, k3⟩ := k
  exact ⟨k1.trans h1, k2.trans h2, k3.trans h3⟩
theorem ofWork (h : WorkFrame s u) : TimeKept s u := by
  rw [h]
  exact ⟨rfl, rfl, rfl⟩
theorem ofUnit (h : UnitFrame allPorts s u) : TimeKept s u := ofWork (WorkFrame.ofUnit h)
theorem ofRegs (h : RegFrame s u) : TimeKept s u := ofWork (WorkFrame.refl.regs h)

theorem ccHearAll : TimeKept s s.ccHearAll := by
  unfold State.ccHearAll
  exact ofUnit ((((UnitFrame.refl.ccHear (p := .a) (by decide)).ccHear (p := .b) (by decide)).ccHear (p := .c) (by decide)).ccHear
    (p := .d) (by decide))

theorem measure (m : Sense) : TimeKept s (s.measure m) := by
  have hsense : TimeKept s { s with sense := m } := ⟨rfl, rfl, rfl⟩
  refine hsense.trans (ofUnit ?_)
  unfold State.measure
  dsimp only
  refine UnitFrame.measureDie (UnitFrame.setReg (UnitFrame.judgeBat (UnitFrame.judgeNtc (UnitFrame.judgeLimits (UnitFrame.judgeLimits
    (UnitFrame.judgePort (UnitFrame.judgePort (UnitFrame.judgePort (UnitFrame.judgePort ?_ _) _) _) _) _ _) _ _))) _ _) _
  refine UnitFrame.setReg (UnitFrame.setReg (UnitFrame.setReg (UnitFrame.setReg ?_ _ _) _ _) _ _) _ _
  exact (((UnitFrame.refl.measureF _ _).measureF _ _).measureF _ _).measureF _ _

theorem tickCounters : TimeKept s s.tickCounters := by
  have timer (x : State) (n : Nat) : TimeKept x (x.tickTimer n) := by
    unfold State.tickTimer State.setTmr State.modLap
    split <;> exact ⟨rfl, rfl, rfl⟩
  have timers (n : Nat) : TimeKept s.tickWindows (s.tickWindows.tickTimers n) := by
    induction n with
    | zero => exact refl
    | succ n ih => exact ih.trans (timer _ n)
  have dog (x : State) : TimeKept x x.tickWatchdog := by
    unfold State.tickWatchdog
    split <;> exact ⟨rfl, rfl, rfl⟩
  exact (TimeKept.trans ⟨rfl, rfl, rfl⟩ (timers 8)).trans (dog _)

theorem adcTick : TimeKept s s.adcTick := by
  have converts (n : Nat) : TimeKept s (s.gaugeConverts n) := by
    unfold State.gaugeConverts
    split <;> exact ⟨rfl, rfl, rfl⟩
  have h := converts (if s.charging then 1 else 3)
  unfold State.adcTick
  generalize s.gaugeConverts (if s.charging then 1 else 3) = x at h ⊢
  dsimp only
  split
  · exact h
  · split
    · exact h.trans ⟨rfl, rfl, rfl⟩
    · exact h.trans ⟨rfl, rfl, rfl⟩

theorem sentTick : TimeKept s s.sentTick := by
  unfold State.sentTick
  split <;> exact ⟨rfl, rfl, rfl⟩

theorem refreshAll : TimeKept s s.refreshAll := by
  have hub (x : State) : RegFrame x x.refreshHub := by
    unfold State.refreshHub
    split
    · exact .refl
    · exact RegFrame.refl.putMirrors ..
  unfold State.refreshAll
  exact ofRegs (((((RegFrame.refl.refreshFacet _).refreshFacet _).refreshFacet _).refreshFacet _).trans (hub _))

end TimeKept

/-- R26: a tick runs `CLK` to its boundary and sets the next; what it measures, judges and refreshes leaves both. -/
theorem State.tick_timeKept (m : Sense) : TimeKept (s.reach s.nextTick).tickLength (s.tick m) := by
  unfold State.tick
  dsimp only
  refine ((((((TimeKept.ccHearAll.trans (.measure m)).trans (.ofUnit (UnitFrame.refl.latchFeed .nbus1))).trans
    (.ofUnit (UnitFrame.refl.latchFeed .nbus2))).trans (.ofUnit UnitFrame.refl.envelopes)).trans
    (.ofUnit UnitFrame.refl.tickPower)).trans .tickCounters).trans ?_
  refine TimeKept.trans (t := State.openWindow _) ⟨rfl, rfl, rfl⟩ ?_
  exact ((TimeKept.adcTick.trans .sentTick).trans ⟨rfl, rfl, rfl⟩).trans .refreshAll

theorem State.rf_reach (hw : s.wf = true) {i : Nat} (hi : NoMirror i) (due lo n : Nat) :
    (s.reach due).rf i lo n = s.rf i lo n := by
  unfold State.rf
  rw [(RegKept.reach hi due).reg hw]

theorem State.tick_ends (m : Sense) : (s.tick m).cycles = max s.cycles s.nextTick ∧ (s.tick m).tickOld = none
    ∧ (s.wf = true → (s.tick m).nextTick = max s.cycles s.nextTick + 24000 * s.tickOld.getD (s.rf 0x0010 0 6)) := by
  obtain ⟨hc, hn, ho⟩ := s.tick_timeKept m
  have hold : (s.reach s.nextTick).tickOld = s.tickOld := by rw [State.reach_rest]
  refine ⟨hc.trans (State.cycles_reach _), ho, fun hw => hn.trans ?_⟩
  change (s.reach s.nextTick).cycles + 24000 * (s.reach s.nextTick).tickOld.getD ((s.reach s.nextTick).rf 0x0010 0 6) = _
  rw [State.cycles_reach, hold, State.rf_reach hw ⟨by decide, by decide⟩]

end Sys2Proof.Machine
end

/-! ## Words put together from fields -/

section
namespace Sys2Proof.Machine

variable {s : State}

theorem fld_eq_of_bits {w : Word} {lo n x : Nat} (hx : x < 2 ^ n) (hbits : ∀ i, i < n → w.getLsbD (lo + i) = x.testBit i) :
    fld w lo n = x := by
  refine Nat.eq_of_testBit_eq fun i => ?_
  rw [testBit_fld]
  by_cases hi : i < n
  · rw [decide_eq_true hi, Bool.true_and, hbits i hi]
  · rw [decide_eq_false hi, Bool.false_and, Nat.testBit_lt_two_pow (lt_of_lt_of_le hx (Nat.pow_le_pow_right Nat.two_pos (by omega)))]

theorem fld_lt (w : Word) (lo n : Nat) : fld w lo n < 2 ^ n := Nat.mod_lt _ (Nat.two_pow_pos n)

/-- The bits of a word of a low field `a`, a field `c` from bit `k` and a flag `b`. -/
theorem getLsbD_fields {a c k j i : Nat} (b : Bool) (hj : j < 32) (hi : i < 32) :
    (fw 0 a ||| flag j b ||| fw k c).getLsbD i
      = (a.testBit i || (b && decide (i = j)) || (decide (k ≤ i) && c.testBit (i - k))) := by
  rw [BitVec.getLsbD_or, BitVec.getLsbD_or, getLsbD_fw, getLsbD_fw, getLsbD_flag hj]
  simp [hi]

/-! ## The tick length (R26) -/

/-- The fields of `TICK_CFG`, once they are put together. -/
theorem tickWord_fields {a c : Nat} (b : Bool) (ha : a < 64) (hc : c < 64) :
    fld (fw 0 a ||| flag 6 b ||| fw 8 c) 0 6 = a ∧ fld (fw 0 a ||| flag 6 b ||| fw 8 c) 8 6 = c
      ∧ (fw 0 a ||| flag 6 b ||| fw 8 c).getLsbD 6 = b := by
  have high {i : Nat} (hi : 6 ≤ i) : a.testBit i = false :=
    Nat.testBit_lt_two_pow (lt_of_lt_of_le (show a < 2 ^ 6 from ha) (Nat.pow_le_pow_right Nat.two_pos hi))
  refine ⟨fld_eq_of_bits ha fun i hi => ?_, fld_eq_of_bits hc fun i hi => ?_, ?_⟩
  · rw [getLsbD_fields b (by decide) (by omega)]
    simp [show ¬ i = 6 by omega, show ¬ 8 ≤ i by omega]
  · rw [getLsbD_fields b (by decide) (by omega), high (by omega)]
    simp [show ¬ 8 + i = 6 by omega]
  · rw [getLsbD_fields b (by decide) (by decide), high (by decide)]
    simp

/-- The fields of `TICK_CFG` as a write leaves them: the length written, `TICK_PEND` set and `TICK_NOW` as it was. -/
theorem tickWritten_fields (old v : Word) :
    let w := (((old &&& ~~~ 0x3F#32) ||| (v &&& 0x3F#32)) ||| (v &&& 0#32)) ||| flag 6 true
    fld w 0 6 = fld v 0 6 ∧ fld w 8 6 = fld old 8 6 ∧ w.getLsbD 6 = true := by
  have low {i : Nat} : (0x3F#32).getLsbD i = decide (i < 6) := by
    have : (0x3F#32) = BitVec.ofNat 32 (2 ^ 6 - 1) := rfl
    rw [this, BitVec.getLsbD_ofNat, Nat.testBit_two_pow_sub_one]
    by_cases h : i < 6
    · simp [h, show i < 32 by omega]
    · simp [h]
  have bits {i : Nat} (hi : i < 32) : ((((old &&& ~~~ 0x3F#32) ||| (v &&& 0x3F#32)) ||| (v &&& 0#32)) ||| flag 6 true).getLsbD i
      = (((old.getLsbD i && !decide (i < 6)) || (v.getLsbD i && decide (i < 6))) || decide (i = 6)) := by
    simp only [BitVec.getLsbD_or, BitVec.getLsbD_and, BitVec.getLsbD_not, low, getLsbD_flag (show 6 < 32 by decide), hi]
    simp
  refine ⟨fld_eq_of_bits (fld_lt ..) fun i hi => ?_, fld_eq_of_bits (fld_lt ..) fun i hi => ?_, ?_⟩
  · rw [bits (by omega), testBit_fld]
    simp [hi, show ¬ i = 6 by omega]
  · rw [bits (by omega), testBit_fld]
    simp [hi, show ¬ 8 + i < 6 by omega, show ¬ 8 + i = 6 by omega]
  · rw [bits (by decide)]
    simp

theorem State.regWrite_tickCfg {v : Word} (hlo : 1 ≤ fld v 0 6) (hhi : fld v 0 6 ≤ 32) : s.regWrite 0x0010 v
    = { s.setReg 0x0010 (((s.reg 0x0010 &&& ~~~ 0x3F#32) ||| (v &&& 0x3F#32)) ||| (v &&& 0#32)) with
        tickOld := if s.nextTick ≤ s.cycles then some (s.tickOld.getD (fld (s.reg 0x0010) 0 6)) else none }.orReg 0x0010 (flag 6 true) := by
  have hstore : s.regWrite 0x0010 v = s.storeRw 0x0010 v := rfl
  have hrow : regRow 0x0010 = some ⟨0x0010, 1, 1, 0x3F, 0, 0, 0⟩ := by decide
  have hin : (decide (fld v 0 6 = 0) || decide (32 < fld v 0 6)) = false := by simp; omega
  rw [hstore, State.storeRw, hrow]
  dsimp only
  rw [if_neg (by rw [hin]; decide)]
  rfl

theorem State.regWrite_tickCfg_ignored {v : Word} (h : fld v 0 6 = 0 ∨ 32 < fld v 0 6) : s.regWrite 0x0010 v = s := by
  have hstore : s.regWrite 0x0010 v = s.storeRw 0x0010 v := rfl
  have hrow : regRow 0x0010 = some ⟨0x0010, 1, 1, 0x3F, 0, 0, 0⟩ := by decide
  have hout : (decide (fld v 0 6 = 0) || decide (32 < fld v 0 6)) = true := by simpa using h
  rw [hstore, State.storeRw, hrow]
  dsimp only
  rw [if_pos (by rw [hout]; decide)]

/-- The word of `TICK_CFG` that a boundary writes. -/
theorem State.reg_tickLength (hw : s.wf = true) : s.tickLength.reg 0x0010
    = fw 0 (s.rf 0x0010 0 6) ||| flag 6 s.tickOld.isSome ||| fw 8 (s.tickOld.getD (s.rf 0x0010 0 6)) :=
  (s.reg_setReg _ _ _ (RegKept.regsWf hw)).trans (if_pos rfl)

/-- Settles O16: a write keeps the length in force where it falls in the cycle of a boundary, and the boundary takes it. -/
theorem tickLengthWaitsForBoundary : Obligations.TickLengthWaitsForBoundary := by
  intro v s hw
  have hr := RegKept.regsWf hw
  have hq : s.rf 0x0010 0 6 < 64 := fld_lt ..
  refine ⟨fun hon m => powered_of_on s _ hon, fun hlo hhi => ?written, State.regWrite_tickCfg_ignored, fun hold => ?inForce,
    fun q hq64 hold => ?kept⟩
  case written =>
    obtain ⟨hf, hn, hp⟩ := tickWritten_fields (s.reg 0x0010) v
    have hreg : (s.regWrite 0x0010 v).reg 0x0010
        = (((s.reg 0x0010 &&& ~~~ 0x3F#32) ||| (v &&& 0x3F#32)) ||| (v &&& 0#32)) ||| flag 6 true := by
      rw [State.regWrite_tickCfg hlo hhi, State.orReg]
      refine (State.reg_setReg _ _ _ _ ((s.setReg_wf _ _ hr :))).trans ((if_pos rfl).trans ?_)
      exact congrArg (· ||| flag 6 true) ((s.reg_setReg _ _ _ hr).trans (if_pos rfl))
    dsimp only [State.rf, State.bit]
    rw [hreg]
    exact ⟨hf, hp, hn, by rw [State.regWrite_tickCfg hlo hhi]; rfl⟩
  case inForce =>
    obtain ⟨ha, hn, hb⟩ := tickWord_fields s.tickOld.isSome hq (show s.tickOld.getD (s.rf 0x0010 0 6) < 64 by rw [hold]; exact hq)
    refine ⟨(congrArg (fld · 0 6) (State.reg_tickLength hw)).trans ha, (congrArg (fld · 8 6) (State.reg_tickLength hw)).trans (hn.trans ?_),
      (congrArg (BitVec.getLsbD · 6) (State.reg_tickLength hw)).trans (hb.trans ?_), ?_⟩
    · rw [hold]; rfl
    · rw [hold]; rfl
    · change s.cycles + 24000 * s.tickOld.getD (s.rf 0x0010 0 6) = _
      rw [hold]; rfl
  case kept =>
    obtain ⟨ha, hn, hb⟩ := tickWord_fields s.tickOld.isSome hq (show s.tickOld.getD (s.rf 0x0010 0 6) < 64 by rw [hold]; exact hq64)
    refine ⟨(congrArg (fld · 0 6) (State.reg_tickLength hw)).trans ha, (congrArg (fld · 8 6) (State.reg_tickLength hw)).trans (hn.trans ?_),
      (congrArg (BitVec.getLsbD · 6) (State.reg_tickLength hw)).trans (hb.trans ?_), rfl, ?_⟩
    · rw [hold]; rfl
    · rw [hold]; rfl
    · change s.cycles + 24000 * s.tickOld.getD (s.rf 0x0010 0 6) = _
      rw [hold]; rfl

/-! ## TIME, epochs and a stop of `CLK` (R27, R28, R41, R330, R333) -/

theorem State.wraps_lt : s.wraps < 2 ^ 15 := Nat.mod_lt _ (by decide)

/-- The fields of `GLB_TIME_HI` as a read of `GLB_TIME_LO` catches them. -/
theorem timeWord_fields {t w : Nat} (b : Bool) (ht : t < 2 ^ 16) (hw : w < 2 ^ 15) :
    fld (fw 0 t ||| fw 16 w ||| flag 31 b) 0 16 = t ∧ fld (fw 0 t ||| fw 16 w ||| flag 31 b) 16 15 = w
      ∧ (fw 0 t ||| fw 16 w ||| flag 31 b).getLsbD 31 = b := by
  have order : fw 0 t ||| fw 16 w ||| flag 31 b = fw 0 t ||| flag 31 b ||| fw 16 w := by
    rw [BitVec.or_assoc, BitVec.or_comm (fw 16 w), ← BitVec.or_assoc]
  have high {i : Nat} (hi : 16 ≤ i) : t.testBit i = false :=
    Nat.testBit_lt_two_pow (lt_of_lt_of_le ht (Nat.pow_le_pow_right Nat.two_pos hi))
  rw [order]
  refine ⟨fld_eq_of_bits ht fun i hi => ?_, fld_eq_of_bits hw fun i hi => ?_, ?_⟩
  · rw [getLsbD_fields b (by decide) (by omega)]
    simp [show ¬ i = 31 by omega, show ¬ 16 ≤ i by omega]
  · rw [getLsbD_fields b (by decide) (by omega), high (by omega)]
    simp [show ¬ 16 + i = 31 by omega]
  · rw [getLsbD_fields b (by decide) (by decide), high (by decide), Nat.testBit_lt_two_pow hw]
    simp

theorem State.timeSnap_fields (hw : s.wf = true) : s.timeSnap.rf 0x0012 0 16 = s.time / 2 ^ 32 ∧ s.timeSnap.rf 0x0012 16 15 = s.wraps
    ∧ s.timeSnap.bit 0x0012 31 = decide (s.mode = .sentinel) := by
  have hreg : s.timeSnap.reg 0x0012 = _ := (s.reg_setReg 0x0012 _ _ (RegKept.regsWf hw)).trans (if_pos rfl)
  have ht : s.time / 2 ^ 32 < 2 ^ 16 := by
    have h : s.time < 2 ^ 48 := Nat.mod_lt _ (by decide)
    omega
  dsimp only [State.rf, State.bit]
  rw [hreg]
  exact timeWord_fields _ ht State.wraps_lt

theorem State.busRead_timeLo (m : Master) (c u : Bool) : s.busRead m 0x0011 c u = (BitVec.ofNat 32 s.time, s.timeSnap) := by
  have hread : s.busRead m 0x0011 c u = (fw 0 (s.time % 2 ^ 32), s.timeSnap) := rfl
  have hword : fw 0 (s.time % 2 ^ 32) = BitVec.ofNat 32 s.time := by
    refine BitVec.eq_of_toNat_eq ?_
    simp [fw]
  rw [hread, hword]

theorem State.reach_wrap (h : s.wrapAt = (s.cycles / 2 ^ 48 + 1) * 2 ^ 48) :
    (s.reach s.wrapAt).time = 0 ∧ (s.reach s.wrapAt).wraps = (s.wraps + 1) % 2 ^ 15 := by
  have hc : (s.reach s.wrapAt).cycles = (s.cycles / 2 ^ 48 + 1) * 2 ^ 48 := by
    rw [State.cycles_reach, h]
    omega
  unfold State.time State.wraps
  rw [hc]
  omega

/-- A unit's epoch, whether an advance of it is pending, and the cycle of its last. -/
def State.epochOf (s : State) : Option Port → Byte × Bool × Option Nat
  | some p => ((s.facet p).epoch, (s.facet p).epPend, (s.facet p).epLast)
  | none => (s.hub.epoch, s.hub.epPend, s.hub.epLast)

/-- One unit's share of the advances that are due. -/
def State.passAdvance (now : Nat) (s : State) (h : Option Port) : State :=
  if s.advancePends h && decide (s.advanceAt h ≤ now) then s.advanceUnit now h else s

theorem State.epochOf_refresh {t : State} (h : RegFrame s t) (x : Option Port) : t.epochOf x = s.epochOf x := by
  rw [show _ = _ from h]
  cases x with
  | none => rfl
  | some p => cases p <;> rfl

theorem RegFrame.refreshHub {t : State} (h : RegFrame s t) : RegFrame s t.refreshHub := by
  unfold State.refreshHub
  split
  · exact h
  · exact h.putMirrors ..

theorem State.epochOf_advanceUnit (now : Nat) (x : Option Port) :
    (s.advanceUnit now x).epochOf x = ((s.epochOf x).1 + 1, false, some (s.advanceAt x)) := by
  cases x with
  | none => exact State.epochOf_refresh (RegFrame.refl.refreshHub) none
  | some p =>
    refine (State.epochOf_refresh (RegFrame.refl.refreshFacet p) (some p)).trans ?_
    simp only [State.epochOf, State.facet_setFacet]
    rfl

theorem State.epochOf_passAdvance_ne (now : Nat) {x y : Option Port} (h : x ≠ y) : (s.passAdvance now y).epochOf x = s.epochOf x := by
  unfold State.passAdvance
  split
  · cases y with
    | none =>
      refine (State.epochOf_refresh (RegFrame.refl.refreshHub) x).trans ?_
      cases x with
      | none => exact absurd rfl h
      | some p => cases p <;> rfl
    | some q =>
      refine (State.epochOf_refresh (RegFrame.refl.refreshFacet q) x).trans ?_
      cases x with
      | none => simp only [State.epochOf, State.setFacet_hub]
      | some p =>
        have hpq : p ≠ q := fun e => h (congrArg some e)
        simp only [State.epochOf, State.facet_setFacet_ne _ _ _ _ hpq]
  · rfl

theorem State.epochOf_foldl_ne (now : Nat) {x : Option Port} {l : List (Option Port)} (h : x ∉ l) (s : State) :
    (l.foldl (State.passAdvance now) s).epochOf x = s.epochOf x := by
  induction l generalizing s with
  | nil => rfl
  | cons y l ih =>
    simp only [List.mem_cons, not_or] at h
    exact (ih h.2 _).trans (State.epochOf_passAdvance_ne now h.1)

theorem State.advance_congr {t : State} {x : Option Port} (h : t.epochOf x = s.epochOf x) :
    t.advancePends x = s.advancePends x ∧ t.advanceAt x = s.advanceAt x := by
  cases x <;> simp only [State.epochOf, Prod.mk.injEq] at h <;>
    (obtain ⟨-, hp, hl⟩ := h; simp only [State.advancePends, State.advanceAt, hp, hl, and_self])

/-- R41: an advance that pends and whose cycle is reached is made, once. -/
theorem State.epochOf_passAdvances {now : Nat} {x : Option Port} (hp : s.advancePends x = true) (hd : s.advanceAt x ≤ now) :
    (s.passAdvances now).epochOf x = ((s.epochOf x).1 + 1, false, some (s.advanceAt x)) := by
  have hmem : x ∈ allUnits := by
    cases x with
    | none => decide
    | some p => cases p <;> decide
  have hnodup : allUnits.Nodup := by decide
  obtain ⟨l, r, e⟩ := List.append_of_mem hmem
  rw [e] at hnodup
  obtain ⟨-, hr, hdis⟩ := List.nodup_append.mp hnodup
  have hl : x ∉ l := fun h => hdis x h x List.mem_cons_self rfl
  have hr' : x ∉ r := (List.nodup_cons.mp hr).1
  have hfold : s.passAdvances now = (l ++ x :: r).foldl (State.passAdvance now) s := e ▸ rfl
  rw [hfold, List.foldl_append, List.foldl_cons, State.epochOf_foldl_ne now hr']
  have hsame := State.epochOf_foldl_ne now hl s
  obtain ⟨hp', ha'⟩ := State.advance_congr hsame
  generalize l.foldl (State.passAdvance now) s = t at hsame hp' ha' ⊢
  rw [State.passAdvance, if_pos (by rw [hp', ha', hp, decide_eq_true hd]; rfl), State.epochOf_advanceUnit, hsame, ha']

theorem State.epochOf_reach {due : Nat} (x : Option Port) :
    (s.reach due).epochOf x = (s.passAdvances (max s.cycles due)).epochOf x := by
  unfold State.reach
  rw [State.elapse_pwmPass_rest]
  cases x with
  | some p => cases p <;> rfl
  | none =>
    obtain ⟨hf, -, -⟩ := PwmMoves.pwmPass ((s.passAdvances (max s.cycles due)).elapse (due - s.cycles)) (due - s.cycles)
    dsimp only [State.epochOf]
    rw [show _ = _ from hf]
    rfl

theorem State.epochOf_epochAdvance {x : Option Port} (hp : s.advancePends x = true) :
    (s.epochAdvance x).epochOf x = ((s.epochOf x).1 + 1, false, some (s.advanceAt x)) := by
  rw [State.epochAdvance, State.epochOf_reach, State.epochOf_passAdvances hp (le_max_right _ _)]

/-! ### A stop of `CLK` -/

/-- A leg that its off-conditions keep off runs off. -/
theorem State.legRuns_off {c : Conv} {o : Bool}
    (h : (!(s.cv c).switching || (s.cv c).peakLatch || (s.cv c).clampOff || (!o && (s.cv c).legsOff)) = true) : s.legRuns c o = legOff := by
  unfold State.legRuns
  refine if_pos ?_
  generalize (s.cv c).switching = a, (s.cv c).peakLatch = b, (s.cv c).clampOff = d, (s.cv c).legsOff = e, (s.cv c).acted = f at h ⊢
  revert a b d e f o
  decide

theorem State.frozen_freeze : s.freeze.hub.frozen = true := by
  unfold State.freeze
  split
  · next hf => exact hf
  · rfl

theorem State.cycles_freeze : s.freeze.cycles = s.cycles := by
  unfold State.freeze
  split <;> rfl

theorem State.cv_freeze (c : Conv) (hf : s.hub.frozen = false) :
    s.freeze.cv c = { s.cv c with heldB := s.legRuns c false, heldO := s.legRuns c true } := by
  unfold State.freeze
  rw [if_neg (by rw [hf]; decide)]
  cases c <;> rfl

/-- R330: a stop of `CLK` leaves a leg at the level at which it finds it. -/
theorem State.leg_freeze (c : Conv) (o : Bool) : s.freeze.leg c o = s.leg c o := by
  by_cases hf : s.hub.frozen = true
  · rw [State.freeze, if_pos hf]
  · have hf' : s.hub.frozen = false := by simpa using hf
    unfold State.leg
    rw [State.frozen_freeze, s.cv_freeze c hf', if_pos rfl, if_neg hf]
    dsimp only
    split
    · next h => exact (State.legRuns_off h).symm
    · cases o <;> rfl

/-- R330: a stop of `CLK` leaves a GPWM pin at the level at which it finds it. -/
theorem State.gpwmPin_freeze (second : Bool) : s.freeze.gpwmPin second = s.gpwmPin second := by
  by_cases hf : s.hub.frozen = true
  · rw [State.freeze, if_pos hf]
  · have hm : s.freeze.mode = s.mode := by rw [State.freeze, if_neg hf]
    have hg : s.freeze.hub.gheld = (s.gpwmRuns false, s.gpwmRuns true) := by rw [State.freeze, if_neg hf]
    unfold State.gpwmPin
    rw [State.frozen_freeze, hm, hg, if_pos rfl, if_neg hf]
    cases second <;> rfl

theorem State.frozen_restartLoop (c : Conv) : (s.restartLoop c).hub.frozen = s.hub.frozen := by
  rw [State.restartLoop, State.modCv, State.frozen_modHub]
  cases c <;> rfl

theorem State.frozen_gpwmCtlDone : s.gpwmCtlDone.hub.frozen = s.hub.frozen := by
  unfold State.gpwmCtlDone
  split <;> rfl

theorem State.frozen_unfreeze : s.unfreeze.hub.frozen = false := by
  unfold State.unfreeze
  split
  · rw [State.frozen_gpwmCtlDone, State.frozen_restartLoop, State.frozen_restartLoop]
  · next hf => simpa using hf

theorem State.clkStopped_gpwmCtlDone : s.gpwmCtlDone.clkStopped = s.clkStopped := by
  unfold State.gpwmCtlDone
  split <;> rfl

theorem State.clkStopped_restartLoop (c : Conv) : (s.restartLoop c).clkStopped = s.clkStopped := by cases c <;> rfl

theorem State.clkStopped_unfreeze : s.unfreeze.clkStopped = s.clkStopped := by
  unfold State.unfreeze
  split
  · rw [State.clkStopped_gpwmCtlDone, State.clkStopped_restartLoop, State.clkStopped_restartLoop]
  · rfl

theorem State.regs_gpwmCtlDone : s.gpwmCtlDone.regs = s.regs := by
  unfold State.gpwmCtlDone
  split <;> rfl

theorem State.regs_restartLoop (c : Conv) : (s.restartLoop c).regs = s.regs := by cases c <;> rfl

theorem State.regs_unfreeze : s.unfreeze.regs = s.regs := by
  unfold State.unfreeze
  split
  · rw [State.regs_gpwmCtlDone, State.regs_restartLoop, State.regs_restartLoop]
  · rfl

/-- What `CLK`'s return does before it records the loss. -/
def State.clockRuns (s : State) : State :=
  if s.lap.run = .halted then { s with clkStopped := false } else { s with clkStopped := false }.unfreeze

theorem State.clockBack_eq : s.clockBack = (s.clockRuns.orReg 0x0003 (flag 8 true)).fault 5 0x02 0 := rfl

theorem State.clkStopped_clockBack : s.clockBack.clkStopped = false := by
  rw [State.clockBack_eq, State.clkStopped_fault]
  change s.clockRuns.clkStopped = false
  unfold State.clockRuns
  split
  · rfl
  · rw [State.clkStopped_unfreeze]

theorem State.frozen_clockBack : s.clockBack.hub.frozen = (s.hub.frozen && decide (s.lap.run = .halted)) := by
  rw [State.clockBack_eq, State.hub_fault]
  change s.clockRuns.hub.frozen = _
  unfold State.clockRuns
  split
  · next h => rw [decide_eq_true h, Bool.and_true]
  · next h => rw [State.frozen_unfreeze, decide_eq_false h, Bool.and_false]

theorem State.regs_clockRuns : s.clockRuns.regs = s.regs := by
  unfold State.clockRuns
  split
  · rfl
  · rw [State.regs_unfreeze]

/-- R29: what the loss of `CLK` leaves recorded. -/
theorem State.bit_clockBack (hw : s.wf = true) : s.clockBack.bit 0x0003 8 = true := by
  rw [State.clockBack_eq]
  have hr : spWf resetWord s.clockRuns.regs = true := by rw [State.regs_clockRuns]; exact RegKept.regsWf hw
  have hr' : spWf resetWord (s.clockRuns.orReg 0x0003 (flag 8 true)).regs = true := State.setReg_wf _ _ _ hr
  have hk := (RegKept.refl (i := 0x0003) (s := s.clockRuns.orReg 0x0003 (flag 8 true))).fault (u := 5) (by decide) 0x02 0 false
  unfold State.bit
  rw [(hk hr').2, State.orReg, State.reg_setReg _ _ _ _ hr, if_pos rfl, BitVec.getLsbD_or, show (flag 8 true).getLsbD 8 = true from rfl, Bool.or_true]

/-- Settles O15: the tick, TIME, the epochs and a stop of `CLK`, each by what its row makes of the state. -/
theorem clockRowsAnswer : Obligations.ClockRowsAnswer := by
  unfold Obligations.ClockRowsAnswer
  intro s hon
  have hadv : ∀ x, s.advancePends x = true → (s.mode = .sentinel ∨ s.advanceAt x ≤ s.nextTick) →
      exec (.epochAdvance x) s = done (s.epochAdvance x) := by
    intro x hp hin
    change execEpochAdvance x s = _
    exact event_of hon (by rw [hp, State.inTick, Bool.true_and, Bool.or_eq_true, decide_eq_true_iff, decide_eq_true_iff]; exact hin)
  refine ⟨fun m hm => ⟨?tick, (s.tick_ends m).1, ?next, (s.tick_ends m).2.1⟩, fun hm => ⟨fun m => ?_, ?_, ?_⟩,
    fun m => ⟨?read, fun c u => s.busRead_timeLo m c u, State.timeSnap_fields⟩, fun hm hle => ⟨?wrap, State.reach_wrap rfl⟩,
    fun p hp hin => ⟨hadv _ hp hin, ?_⟩, fun hp hin => ⟨hadv _ hp hin, ?_⟩,
    fun hm => ⟨?stop, s.frozen_freeze, s.cycles_freeze, s.leg_freeze, s.gpwmPin_freeze, ?loss, State.clkStopped_clockBack,
      fun hw => State.bit_clockBack hw, State.frozen_clockBack⟩⟩
  case tick => exact event_of hon (decide_eq_true hm)
  case next => exact (s.tick_ends m).2.2
  case refine_1 => exact event_not (decide_eq_false (not_not.mpr hm))
  case refine_2 => exact event_not (by rw [decide_eq_false (not_not.mpr hm), Bool.false_and])
  case refine_3 => exact event_not (decide_eq_false (not_not.mpr hm))
  case read => exact powered_of_on s _ hon
  case wrap => exact event_of hon (by rw [State.inTick, decide_eq_true hm, decide_eq_true hle, Bool.or_true, Bool.and_true])
  case stop => exact event_of hon (decide_eq_true hm)
  case loss =>
    exact if_pos (by rw [State.stalled, decide_eq_true (State.mode_of_on hon)]; exact decide_eq_true hm)
  case refine_4 =>
    have h := State.epochOf_epochAdvance (x := some p) hp
    simp only [State.epochOf, Prod.mk.injEq] at h
    exact ⟨h.1, h.2.1, State.cycles_reach _⟩
  case refine_5 =>
    have h := State.epochOf_epochAdvance (x := none) hp
    simp only [State.epochOf, Prod.mk.injEq] at h
    exact ⟨h.1, h.2.1, State.cycles_reach _⟩

end Sys2Proof.Machine
end

/-! ## SENTINEL's bursts (R63, R67, R29) -/

section
namespace Sys2Proof.Machine

variable {s t u : State}

/-- The mode, `CLK`'s count and SENTINEL's own records are kept. -/
def BurstFrame (s u : State) : Prop :=
  u.mode = s.mode ∧ u.cycles = s.cycles ∧ u.burst = s.burst ∧ u.lastWake = s.lastWake ∧ u.wakes = s.wakes

namespace BurstFrame

theorem refl : BurstFrame s s := ⟨rfl, rfl, rfl, rfl, rfl⟩
theorem trans (h : BurstFrame s t) (k : BurstFrame t u) : BurstFrame s u := by
  obtain ⟨h1, h2, h3, h4, h5⟩ := h
  obtain ⟨k1, k2, k3, k4, k5⟩ := k
  exact ⟨k1.trans h1, k2.trans h2, k3.trans h3, k4.trans h4, k5.trans h5⟩
theorem ofWork (h : WorkFrame s u) : BurstFrame s u := by
  rw [h]
  exact refl
theorem ofUnit (h : UnitFrame allPorts s u) : BurstFrame s u := ofWork (WorkFrame.ofUnit h)

theorem passAdvances (now : Nat) : BurstFrame s (s.passAdvances now) := by
  rw [(EpochFrame.refl.passAdvances (s := s) now).rest]
  exact refl

theorem tickCounters : BurstFrame s s.tickCounters := by
  have timer (x : State) (n : Nat) : BurstFrame x (x.tickTimer n) := by
    unfold State.tickTimer State.setTmr State.modLap
    split <;> exact refl
  have timers (n : Nat) : BurstFrame s.tickWindows (s.tickWindows.tickTimers n) := by
    induction n with
    | zero => exact refl
    | succ n ih => exact ih.trans (timer _ n)
  have dog (x : State) : BurstFrame x x.tickWatchdog := by
    unfold State.tickWatchdog
    split <;> exact refl
  exact (timers 8).trans (dog _)

theorem refreshAll : BurstFrame s s.refreshAll :=
  ofWork (WorkFrame.refl.regs (((((RegFrame.refl.refreshFacet _).refreshFacet _).refreshFacet _).refreshFacet _).refreshHub))

end BurstFrame

theorem PortFrame.runTerm {p : Port} (h : PortFrame p s t) : PortFrame p s (t.runTerm p) := by
  unfold State.runTerm
  dsimp only
  split
  · exact (h.present _).ccArm
  · exact h.present _

theorem UnitFrame.runTerm (p : Port) (h : UnitFrame allPorts s t) : UnitFrame allPorts s (t.runTerm p) :=
  h.port (mem_allPorts p) (PortFrame.runTerm .refl)

theorem UnitFrame.sample (p : Port) (v w : Pins) (h : UnitFrame allPorts s t) : UnitFrame allPorts s (t.sample p v w) := by
  unfold State.sample
  dsimp only
  split
  · exact h
  · split
    · exact ((h.orReg _ _).setTc (mem_allPorts p) _).modCc (mem_allPorts p) _
    · exact h.orReg _ _

theorem UnitFrame.gaugeFlow (q : Int) (h : UnitFrame ps s t) : UnitFrame ps s (t.gaugeFlow q) := by
  unfold State.gaugeFlow
  split
  · exact h.modHub _
  · exact h

theorem State.wmPowerAll_wms (n : Nat) : ∃ a b c d, s.wmPowerAll n = { s with wmHi := a, wmLo := b, wmSetHi := c, wmSetLo := d } := by
  induction n with
  | zero => exact ⟨_, _, _, _, rfl⟩
  | succ n ih =>
    obtain ⟨a, b, c, d, e⟩ := ih
    unfold State.wmPowerAll
    dsimp only
    rw [e]
    split
    · exact ⟨_, _, _, _, rfl⟩
    · exact ⟨_, _, _, _, rfl⟩

theorem BurstFrame.wmPowerAll (n : Nat) : BurstFrame s (s.wmPowerAll n) := by
  obtain ⟨a, b, c, d, e⟩ := s.wmPowerAll_wms n
  rw [e]
  exact refl

theorem BurstFrame.gpwmCtlDone : BurstFrame s s.gpwmCtlDone := by
  unfold State.gpwmCtlDone
  split
  · exact refl
  · exact refl

/-- A wake records its cause, starts `CLK`, the monitors and the GPWM channels and puts the ports' terminations back. -/
theorem State.wakeNow_parts (hm : s.mode = .sentinel) : ∃ x : State, RegFrame s x ∧ s.wakeNow
    = (((((({ x.clkUp with mode := .run } : State).wmPowerAll 32).gpwmCtlDone.runTerm .a).runTerm .b).runTerm .c).runTerm .d) := by
  unfold State.wakeNow
  rw [if_pos hm]
  refine ⟨_, ?_, rfl⟩
  split
  · exact RegFrame.refl.setReg _ _
  · exact .refl

/-- R67: a wake leaves SENTINEL for RUN, in the cycle in which it comes. -/
theorem State.wakeNow_ends (hm : s.mode = .sentinel) : s.wakeNow.mode = .run ∧ s.wakeNow.cycles = s.cycles ∧ s.wakeNow.burst = none := by
  obtain ⟨x, hx, e⟩ := State.wakeNow_parts hm
  obtain ⟨hxm, hxc, -, -, -⟩ := BurstFrame.ofWork (WorkFrame.refl.regs hx)
  have h := (BurstFrame.wmPowerAll (s := { x.clkUp with mode := .run }) 32).trans (.trans .gpwmCtlDone
    (.ofUnit ((((UnitFrame.refl.runTerm .a).runTerm .b).runTerm .c).runTerm .d)))
  rw [← e] at h
  obtain ⟨h1, h2, h3, -, -⟩ := h
  refine ⟨h1, h2.trans ?_, h3.trans ?_⟩
  · change x.clkUp.cycles = _
    unfold State.clkUp
    rw [if_pos (hxm.trans hm)]
    exact hxc
  · change x.clkUp.burst = _
    unfold State.clkUp
    rw [if_pos (hxm.trans hm)]

/-- R67: the end of a burst. -/
theorem State.burstOver_ends {b : Burst} (hm : s.mode = .sentinel) (hb : s.burst = some b) : s.burstOver.cycles = s.cycles + b.left
    ∧ s.burstOver.burst = none ∧ s.burstOver.mode = if b.forced = true ∨ b.cause ≠ 0 then .run else .sentinel := by
  obtain ⟨x, e, hx⟩ : ∃ x : State, s.burstOver = (if b.forced || decide (b.cause ≠ 0) then x.wakeNow else { x with burst := none })
      ∧ BurstFrame { s.passAdvances (s.cycles + b.left) with cycles := s.cycles + b.left } x := by
    unfold State.burstOver
    rw [hb]
    exact ⟨_, rfl, BurstFrame.tickCounters.trans .refreshAll⟩
  obtain ⟨hxm, hxc, -, -, -⟩ := hx
  obtain ⟨hpm, -, -, -, -⟩ := BurstFrame.passAdvances (s := s) (s.cycles + b.left)
  have hmode : x.mode = .sentinel := hxm.trans (hpm.trans hm)
  rw [e]
  by_cases hd : b.forced = true ∨ b.cause ≠ 0
  · obtain ⟨hr, hc, hn⟩ := State.wakeNow_ends hmode
    rw [if_pos (by rw [Bool.or_eq_true, decide_eq_true_iff]; exact hd), if_pos hd]
    exact ⟨hc.trans hxc, hn, hr⟩
  · rw [if_neg (by rw [Bool.or_eq_true, decide_eq_true_iff]; exact hd), if_neg hd]
    exact ⟨hxc, rfl, hmode⟩

/-- R67, R29: a burst begins an interval after the last wake. -/
theorem State.burstStart_begins (early late : Four Pins) :
    (s.burstStart early late).cycles = max s.cycles (s.lastWake + s.estCycles)
      ∧ (s.burstStart early late).lastWake = max s.cycles (s.lastWake + s.estCycles)
      ∧ (s.burstStart early late).wakes = s.wakes + 1 ∧ (s.burstStart early late).mode = s.mode := by
  obtain ⟨x, y, b, hx, e, hs⟩ : ∃ (x y : State) (b : Option Burst), x = { s.passAdvances (max s.cycles (s.lastWake + s.estCycles)) with
        cycles := max s.cycles (s.lastWake + s.estCycles), lastWake := max s.cycles (s.lastWake + s.estCycles), wakes := s.wakes + 1 }
      ∧ s.burstStart early late = { y with burst := b } ∧ BurstFrame x.tickLength y := by
    refine ⟨_, _, _, rfl, rfl, ?_⟩
    exact .ofUnit ((((UnitFrame.sample .a early.a late.a (UnitFrame.gaugeFlow _ UnitFrame.refl)).sample .b _ _).sample .c _ _).sample .d _ _)
  obtain ⟨hm, hc, -, hl, hw⟩ := hs
  obtain ⟨hpm, -, -, -, -⟩ := BurstFrame.passAdvances (s := s) (max s.cycles (s.lastWake + s.estCycles))
  rw [e]
  subst hx
  exact ⟨hc, hl, hw, hm.trans hpm⟩

theorem State.mode_sentinelEntered (m : Master) (est : Nat) : (s.sentinelEntered m est).mode = .sentinel := by
  rfl

theorem State.estCycles_measured (hw : s.wf = true) (est : BitVec 24) : (s.setReg 0x0013 (fw 0 est.toNat)).estCycles = est.toNat := by
  unfold State.estCycles State.rf
  rw [State.reg_setReg _ _ _ _ (RegKept.regsWf hw), if_pos rfl]
  exact fld_eq_of_bits est.isLt fun i hi => by rw [getLsbD_fw]; simp [show i < 32 by omega]

/-- Settles O13: the entry, the wakes and the calibration of SENTINEL, by what a burst's start and end keep. -/
theorem sentinelCountsItsIntervals : Obligations.SentinelCountsItsIntervals := by
  unfold Obligations.SentinelCountsItsIntervals
  refine ⟨fun m est s hcal hmode => ?entry, fun early late s hm => ?wake, fun est s hm hmod hpos hw => ⟨if_pos ⟨hm, hmod, hpos⟩, State.estCycles_measured hw est⟩⟩
  case entry =>
    have hrow : exec (.sentinelEntryComplete est) s = done (if s.sentReady then s.sentinelEntered m est.toNat else s.sentCancel) := by
      change execSentinelEntryComplete est s = _
      unfold execSentinelEntryComplete
      rw [hcal]
      exact if_pos (by rw [State.awake, Bool.or_eq_true, decide_eq_true_iff, decide_eq_true_iff]; exact hmode)
    exact ⟨fun hr => ⟨by rw [hrow, if_pos hr], State.mode_sentinelEntered m est.toNat⟩, fun hr => by rw [hrow, if_neg (by rw [hr]; decide)]⟩
  case wake =>
    have hrow : exec (.wakeTimerExpiry early late) s
        = done (if s.burstOver.mode = .sentinel then (s.burstOver.burstStart early late).burstCheck else s.burstOver) := by
      change execWakeTimerExpiry early late s = _
      unfold execWakeTimerExpiry
      rw [if_pos hm]
    obtain ⟨hc, hl, hk, hmode⟩ := s.burstStart_begins early late
    refine ⟨fun hb => ?_, hrow, hc, hl, hk, hmode.trans hm, fun b hb => State.burstOver_ends hm hb⟩
    have hover : s.burstOver = s := by rw [State.burstOver, hb]
    rw [hrow, hover, if_pos hm]

end Sys2Proof.Machine
end

/-! ## The facet opcodes are judged (R44, R119, R229, R266, R271) -/

section
namespace Sys2Proof.Machine

variable {p : Port} {s : State} {e : Byte} {op arg k : Nat} {src : Src} {i : Instr} {why : Reason}

/-! ### The order of the checks -/

theorem State.judgeFacet_badArg (ha : facetArgOk op arg = false) : s.judgeFacet p op e arg src = (.refused, .badCmd, 0) := by
  simp [State.judgeFacet, ha]

theorem State.judgeFacet_stale (ha : facetArgOk op arg = true) (h : (s.facet p).epoch ≠ e ∨ (s.facet p).epPend = true) :
    s.judgeFacet p op e arg src = (.stale, .none, 0) := by
  simp [State.judgeFacet, ha, h]

theorem State.judgeFacet_wrongMode (ha : facetArgOk op arg = true) (he : (s.facet p).epoch = e) (hp : (s.facet p).epPend = false)
    (h : s.mode ≠ .standby ∧ s.mode ≠ .run) : s.judgeFacet p op e arg src = (.refused, .deviceMode, 0) := by
  simp [State.judgeFacet, ha, he, hp, h]

/-- What is left to judge of a command whose argument, epoch and mode are in order. -/
theorem State.judgeFacet_takes (h : s.takesF p e) (ha : facetArgOk op arg = true) :
    s.judgeFacet p op e arg src =
      (let rc := decide (0x30 ≤ op ∧ op ≤ 0x33)
      if !facetAllowed op (s.facet p).fstate then (.refused, .facetState, 0)
      else if op = 3 ∧ s.switchHardware p = true then (.refused, .hardware, 0)
      else if rc && decide ((s.facet p).fstate = .held) then (.refused, .precondition, 0)
      else if rc && decide (s.rcfgRefuse p op ≠ 0) then (.refused, .precondition, s.rcfgRefuse p op)
      else if !s.facetOk p op arg then (.refused, .precondition, 0)
      else if op = 0x40 ∧ s.granted 2 (portNo p) (srcMaster src) = false then (.refused, .notAuthenticated, 0)
      else (.accepted, .none, 0)) := by
  obtain ⟨-, -, he, hp, hm⟩ := h
  have hmode : ¬(s.mode ≠ .standby ∧ s.mode ≠ .run) := by tauto
  rw [State.judgeFacet]
  dsimp only
  rw [if_neg (by simp [ha]), if_neg (by simp [he, hp]), if_neg hmode]

theorem State.judgeFacet_wrongState (h : s.takesF p e) (ha : facetArgOk op arg = true)
    (hst : facetAllowed op (s.facet p).fstate = false) : s.judgeFacet p op e arg src = (.refused, .facetState, 0) := by
  rw [State.judgeFacet_takes h ha]
  exact if_pos (by rw [hst]; rfl)

/-- An opcode of the facet itself or of USB PD, in a state that allows it, comes down to its precondition. -/
theorem State.judgeFacet_plain (h : s.takesF p e) (ha : facetArgOk op arg = true) (hst : facetAllowed op (s.facet p).fstate = true)
    (h3 : op ≠ 3) (hop : op < 0x30) :
    s.judgeFacet p op e arg src = if s.facetOk p op arg then (.accepted, .none, 0) else (.refused, .precondition, 0) := by
  rw [State.judgeFacet_takes h ha]
  cases s.facetOk p op arg <;> simp [hst, h3, show ¬ 0x30 ≤ op by omega, show op ≠ 0x40 by omega]

/-- A reconfiguration opcode outside HELD comes down to its refusal's code. -/
theorem State.judgeFacet_rcfg (h : s.takesF p e) (ha : facetArgOk op arg = true) (hst : facetAllowed op (s.facet p).fstate = true)
    (hheld : (s.facet p).fstate ≠ .held) (hlo : 0x30 ≤ op) (hhi : op ≤ 0x33) :
    s.judgeFacet p op e arg src
      = if s.rcfgRefuse p op = 0 then (.accepted, .none, 0) else (.refused, .precondition, s.rcfgRefuse p op) := by
  rw [State.judgeFacet_takes h ha]
  by_cases hr : s.rcfgRefuse p op = 0
  · have hok : s.facetOk p op arg = true := by
      simp [State.facetOk, show op ≠ 1 by omega, show op ≠ 3 by omega, show op ≠ 5 by omega, show op ≠ 7 by omega, show op ≠ 8 by omega,
        show ¬ op ≤ 0x1A by omega]
    simp [hst, hheld, hr, hok, show op ≠ 3 by omega, show op ≠ 0x40 by omega]
  · simp [hst, hheld, hlo, hhi, hr, show op ≠ 3 by omega]

/-! ### What a judgement makes of the state -/

/-- A refused command, with no code for `REFUSE`, changes only its report. -/
theorem State.facetCmd_refused (h : s.judgeFacet p op e arg src = (.refused, why, 0)) :
    s.facetCmd p op e arg src = s.reportF p src .refused why := by
  rw [State.facetCmd, h]; rfl

theorem State.facetCmd_stale (h : s.judgeFacet p op e arg src = (.stale, .none, 0)) :
    s.facetCmd p op e arg src = s.reportF p src .stale .none := by
  rw [State.facetCmd, h]; rfl

theorem State.facetCmd_accepted (h : s.judgeFacet p op e arg src = (.accepted, .none, 0)) :
    s.facetCmd p op e arg src = (s.runFacet p op arg).reportF p src .accepted .none := by
  rw [State.facetCmd, h]

/-- A refusal's code is kept for `REFUSE`. -/
theorem State.facetCmd_refusedFor (h : s.judgeFacet p op e arg src = (.refused, why, k)) (hk : k ≠ 0) :
    s.facetCmd p op e arg src = (s.modRc p fun c => { c with refuse := BitVec.ofNat 4 k }).reportF p src .refused why := by
  rw [State.facetCmd, h]
  exact congrArg (fun x : State => x.reportF p src .refused why) (if_neg hk)

theorem powered_unitRow_facet (hon : s.on = true) (hnone : s.awaits = []) :
    powered s (s.unitRow (some p) op e arg src) = done (s.facetCmd p op e arg src) := by
  rw [powered_of_on s _ hon, State.unitRow, if_pos hnone, State.unitCmd]

theorem powered_facetRow (h : s.takesF p e) (op arg : Nat) (src : Src) :
    powered s (s.unitRow (some p) op e arg src) = done (s.facetCmd p op e arg src) := by
  obtain ⟨hon, hnone, -⟩ := h
  exact powered_unitRow_facet hon hnone

/-- Each row of `facetRows` is a row of a facet with its opcode, whose arguments and states are those a facet takes. -/
theorem facetRows_row : ∀ r ∈ facetRows, (∀ (p : Port) (e : Byte) (a : Half) (src : Src) (s : State),
    exec (r.cmd p e a src) s = powered s (s.unitRow (some p) r.op e a.toNat src)) ∧ (∀ n, facetArgOk r.op n = r.argOk n)
      ∧ ∀ x, facetAllowed r.op x = decide (x ∈ r.states) := by
  intro r hr
  simp only [facetRows, List.mem_append, List.mem_cons, List.not_mem_nil, or_false] at hr
  rcases hr with (rfl | rfl | rfl | rfl | rfl | rfl | rfl | rfl | rfl | rfl | rfl | rfl | rfl | rfl | rfl | rfl | rfl | rfl | rfl)
    | (rfl | rfl | rfl | rfl | rfl) <;>
    exact ⟨fun _ _ _ _ _ => rfl, fun _ => by simp [facetArgOk], fun x => by cases x <;> decide⟩

/-- Settles O17: `judgeFacet` tests argument, epoch, mode and facet state in this order, and a waiting command is queued. -/
theorem facetCommandsAreJudgedInOrder : Obligations.FacetCommandsAreJudgedInOrder := by
  intro r hr p e a src s hon
  obtain ⟨hrow, harg, hstates⟩ := facetRows_row r hr
  have ok {n : Nat} (h : r.argOk n = true) : facetArgOk r.op n = true := (harg n).trans h
  dsimp only
  rw [hrow]
  refine ⟨fun hnone => ?_, fun hwait => ⟨?_, fun hsrc => ?_⟩⟩
  · rw [powered_unitRow_facet hon hnone]
    refine ⟨fun ha => ?_, fun ha h => ?_, fun ha he hp hm hm' => ?_, fun ha ht hst => ?_⟩
    · rw [State.facetCmd_refused (State.judgeFacet_badArg ((harg _).trans ha))]
    · rw [State.facetCmd_stale (State.judgeFacet_stale (ok ha) h)]
    · rw [State.facetCmd_refused (State.judgeFacet_wrongMode (ok ha) he hp ⟨hm, hm'⟩)]
    · rw [State.facetCmd_refused (State.judgeFacet_wrongState ht (ok ha) ((hstates _).trans (decide_eq_false hst)))]
  · rw [powered_of_on s _ hon, State.unitRow, if_neg hwait]
  · rw [State.unitWrite, if_neg (fun h => hsrc h.1)]
    rfl

section
variable (hi : exec i s = powered s (s.unitRow (some p) op e arg src)) (h : s.takesF p e) (ha : facetArgOk op arg = true)
  (hst : facetAllowed op (s.facet p).fstate = true)
include hi h ha hst

theorem exec_facet_refused (h3 : op ≠ 3) (hop : op < 0x30) (hno : s.facetOk p op arg = false) :
    exec i s = done (s.reportF p src .refused .precondition) := by
  rw [hi, powered_facetRow h, State.facetCmd_refused (by rw [State.judgeFacet_plain h ha hst h3 hop, if_neg (by simp [hno])])]

theorem exec_facet_accepted (h3 : op ≠ 3) (hop : op < 0x30) (hok : s.facetOk p op arg = true) :
    exec i s = done ((s.runFacet p op arg).reportF p src .accepted .none) := by
  rw [hi, powered_facetRow h, State.facetCmd_accepted (by rw [State.judgeFacet_plain h ha hst h3 hop, if_pos hok])]

theorem exec_rcfg_refused (hheld : (s.facet p).fstate ≠ .held) (hlo : 0x30 ≤ op) (hhi : op ≤ 0x33) (hk : s.rcfgRefuse p op = k)
    (h0 : k ≠ 0) :
    exec i s = done ((s.modRc p fun r => { r with refuse := BitVec.ofNat 4 k }).reportF p src .refused .precondition) := by
  rw [hi, powered_facetRow h, State.facetCmd_refusedFor (k := k) (by rw [State.judgeFacet_rcfg h ha hst hheld hlo hhi, hk, if_neg h0]) h0]

theorem exec_rcfg_accepted (hheld : (s.facet p).fstate ≠ .held) (hlo : 0x30 ≤ op) (hhi : op ≤ 0x33) (hk : s.rcfgRefuse p op = 0) :
    exec i s = done ((s.runFacet p op arg).reportF p src .accepted .none) := by
  rw [hi, powered_facetRow h, State.facetCmd_accepted (by rw [State.judgeFacet_rcfg h ha hst hheld hlo hhi, if_pos hk])]

end

/-! ### SWITCH_ON -/

/-- Settles O19: `SWITCH_ON` is judged for the hardware before its precondition. -/
theorem switchOnIsRefused : Obligations.SwitchOnIsRefused := by
  intro p e src s h hlive hsw
  have hst : facetAllowed 3 (s.facet p).fstate = true := by rw [hlive]; rfl
  have hi : exec (.switchOn p e 0 src) s = powered s (s.unitRow (some p) 3 e 0 src) := rfl
  refine ⟨fun hw => ?_, fun h1 h2 h3 h4 hno => ?_⟩
  · have hhw : s.switchHardware p = true := by simpa [State.switchHardware, hsw, or_assoc] using hw
    rw [hi, powered_facetRow h, State.facetCmd_refused (why := .hardware)]
    rw [State.judgeFacet_takes h rfl]
    simp [hst, hhw]
  · have hhw : s.switchHardware p = false := by simp [State.switchHardware, h1, h2, h3, h4]
    have hbad : s.switchOk p = false := by
      simp only [State.switchOk, hsw, Bool.false_or]
      rcases hno with e | e | e | e <;> simp [e]
    rw [hi, powered_facetRow h, State.facetCmd_refused (why := .precondition)]
    rw [State.judgeFacet_takes h rfl]
    simp [hst, hhw, State.facetOk, hbad]

/-! ### The other opcodes -/

theorem facetAllowed_liveOrTripped (h : (s.facet p).fstate = .live ∨ (s.facet p).fstate = .tripped)
    (hop : op ∈ [5, 7, 8, 0x13, 0x17, 0x1A]) : facetAllowed op (s.facet p).fstate = true := by
  have all : ∀ o ∈ [5, 7, 8, 0x13, 0x17, 0x1A], facetAllowed o .live = true ∧ facetAllowed o .tripped = true := by decide
  rcases h with e | e
  · rw [e]; exact (all op hop).1
  · rw [e]; exact (all op hop).2

theorem facetAllowed_live (h : (s.facet p).fstate = .live) (h1 : op ≠ 1) (h40 : op ≠ 0x40) : facetAllowed op (s.facet p).fstate = true := by
  rw [h]
  exact decide_eq_true ⟨h1, h40⟩

/-- Settles O20: each opcode's precondition is a conjunction, and each listed condition denies one of its parts. -/
theorem facetPreconditionsAreChecked : Obligations.FacetPreconditionsAreChecked := by
  intro p e src s h f no
  have hf : f = s.facet p := rfl
  clear_value f
  subst hf
  refine ⟨fun hst hno => ?off, fun hst => ?both, fun hst => ?live⟩
  case off =>
    exact exec_facet_refused (op := 1) rfl h rfl (by rw [hst]; rfl) (by decide) (by decide) (by simpa [State.facetOk] using hno)
  case both =>
    have refuse {i : Instr} {op arg : Nat} (hi : exec i s = powered s (s.unitRow (some p) op e arg src)) (ha : facetArgOk op arg = true)
        (hop : op ∈ [5, 7, 8, 0x13, 0x17, 0x1A]) (hno : s.facetOk p op arg = false) : no i :=
      exec_facet_refused hi h ha (facetAllowed_liveOrTripped hst hop) (by rintro rfl; revert hop; decide)
        (by revert hop; simp; omega) hno
    refine ⟨fun hno => refuse (op := 5) rfl rfl (by decide) ?_, fun hno => refuse (op := 7) rfl rfl (by decide) ?_,
      fun hno => ⟨refuse (op := 7) rfl rfl (by decide) ?_, refuse (op := 7) rfl rfl (by decide) ?_⟩,
      fun hno => refuse (op := 8) rfl rfl (by decide) ?_, fun hno => refuse (op := 0x13) rfl rfl (by decide) ?_,
      fun hno => ⟨refuse (op := 0x17) rfl rfl (by decide) ?_, refuse (op := 0x17) rfl rfl (by decide) ?_⟩,
      fun hno => refuse (op := 0x17) rfl rfl (by decide) ?_, fun hno => refuse (op := 0x1A) rfl rfl (by decide) ?_⟩
    all_goals
      refine Bool.eq_false_iff.mpr fun hok => ?_
      simp [State.facetOk, State.contractOk, Facet.mayReset, Facet.drsAllowed, Facet.swapFree] at hok
      grind
  case live =>
    have refuse {i : Instr} {op arg : Nat} (hi : exec i s = powered s (s.unitRow (some p) op e arg src)) (ha : facetArgOk op arg = true)
        (hop : 0x10 ≤ op ∧ op < 0x30) (hno : s.facetOk p op arg = false) : no i :=
      exec_facet_refused hi h ha (facetAllowed_live hst (by omega) (by omega)) (by omega) hop.2 hno
    refine ⟨fun hno => ⟨refuse (op := 0x10) rfl rfl (by decide) ?_, refuse (op := 0x10) rfl rfl (by decide) ?_⟩,
      fun a ha hno => refuse (op := 0x11) rfl (by simpa [facetArgOk] using ha) (by decide) ?_, fun hno => refuse (op := 0x12) rfl rfl (by decide) ?_,
      fun hno => refuse (op := 0x14) rfl rfl (by decide) ?_, fun hno => refuse (op := 0x15) rfl rfl (by decide) ?_,
      fun hno => refuse (op := 0x16) rfl rfl (by decide) ?_, fun hno => refuse (op := 0x18) rfl rfl (by decide) ?_,
      fun hno => refuse (op := 0x19) rfl rfl (by decide) ?_⟩
    all_goals
      refine Bool.eq_false_iff.mpr fun hok => ?_
      simp [State.facetOk, State.contractOk, State.prsAllowed, State.vcsAllowed, Facet.sinking, Facet.swapFree] at hok
      grind

/-! ### Reconfiguration refused (R122, R124) -/

theorem State.applyRefuse_busy (h : s.otherBusy (some p) = true ∨ (s.facet p).rc.offApply = true) : s.applyRefuse p = 7 := by
  rw [State.applyRefuse]
  exact if_pos (by rw [Bool.or_eq_true]; exact h)

theorem State.applyRefuse_free (h : ¬(s.otherBusy (some p) = true ∨ (s.facet p).rc.offApply = true)) : s.applyRefuse p
    = match (s.facet p).rc.phase, (s.facet p).rc.shadow with
      | .ready, some b =>
        let f := s.facet p
        let live := decide (f.fstate = .live)
        if live && f.cc.attached && !f.ct.contract then 2
        else if live && !f.noSeq then 3
        else if live && f.pp.ilimAct then 4
        else if live && f.cc.attached && (!b.cfg.present || decide (b.cfg.role = if f.ct.prole then 0 else 1)) then 5
        else if live && f.ct.linkOn && !keepsLink b.vdm then 6
        else 0
      | _, _ => 1 := by
  rw [State.applyRefuse]
  exact if_neg (by rw [Bool.or_eq_true]; exact h)

theorem State.applyRefuse_unstaged (h : ¬(s.otherBusy (some p) = true ∨ (s.facet p).rc.offApply = true))
    (hno : (s.facet p).rc.phase ≠ .ready ∨ (s.facet p).rc.shadow = none) : s.applyRefuse p = 1 := by
  rw [State.applyRefuse_free h]
  split
  · next hp hs => simp [hp, hs] at hno
  · rfl

theorem State.applyRefuse_live {b : Bank} (h : ¬(s.otherBusy (some p) = true ∨ (s.facet p).rc.offApply = true))
    (hp : (s.facet p).rc.phase = .ready) (hb : (s.facet p).rc.shadow = some b) (hl : (s.facet p).fstate = .live) : s.applyRefuse p
    = let f := s.facet p
      if f.cc.attached = true ∧ f.ct.contract = false then 2
      else if f.noSeq = false then 3
      else if f.pp.ilimAct = true then 4
      else if f.cc.attached = true ∧ (b.cfg.present = false ∨ b.cfg.role = if f.ct.prole then 0 else 1) then 5
      else if f.ct.linkOn = true ∧ keepsLink b.vdm = false then 6
      else 0 := by
  rw [State.applyRefuse_free h, hp, hb]
  simp only [hl, decide_true, Bool.true_and, Bool.and_eq_true, Bool.or_eq_true, Bool.not_eq_true', decide_eq_true_eq]

/-- Settles O24: `applyRefuse` takes the first condition that holds, and any code refuses. -/
theorem reconfigurationIsRefused : Obligations.ReconfigurationIsRefused := by
  intro p e src s h f no busy
  have hf : f = s.facet p := rfl
  clear_value f
  subst hf
  have apply {k : Nat} (hst : (s.facet p).fstate = .off ∨ (s.facet p).fstate = .live) (hk : s.applyRefuse p = k) (h0 : k ≠ 0) :
      exec (.rcfgApply (some p) e 0 src) s
        = done ((s.modRc p fun r => { r with refuse := BitVec.ofNat 4 k }).reportF p src .refused .precondition) := by
    refine exec_rcfg_refused (op := 0x31) (arg := 0) rfl h rfl ?_ ?_ (by decide) (by decide) hk h0
    · rcases hst with e | e <;> rw [e] <;> rfl
    · rcases hst with e | e <;> rw [e] <;> decide
  refine ⟨fun hheld => ?held, fun hst => ⟨fun hb => apply hst (State.applyRefuse_busy hb) (by decide),
    fun hb hno => apply hst (State.applyRefuse_unstaged hb hno) (by decide)⟩, fun hst hbusy hready b hb => ?first, fun hst hno => ?prepare⟩
  case held =>
    have all {op : Nat} (hlo : 0x30 ≤ op) (hhi : op ≤ 0x33) : powered s (s.unitRow (some p) op e 0 src)
        = done (s.reportF p src .refused .precondition) := by
      have ha : facetArgOk op 0 = true := by
        simp [facetArgOk, show ¬ op ≤ 6 by omega, show op ≠ 7 by omega, show op ≠ 8 by omega, show op ≠ 0x10 by omega, show op ≠ 0x11 by omega,
          show op ≠ 0x17 by omega, show ¬ op ≤ 0x1A by omega, hlo, hhi]
      have hst : facetAllowed op .held = true := decide_eq_true ⟨hlo, hhi⟩
      rw [powered_facetRow h, State.facetCmd_refused (why := .precondition)]
      rw [State.judgeFacet_takes h ha]
      simp [hst, hheld, hlo, hhi, show op ≠ 3 by omega]
    intro c hc
    simp only [List.mem_cons, List.not_mem_nil, or_false] at hc
    rcases hc with rfl | rfl | rfl | rfl
    · exact all (op := 0x30) (by decide) (by decide)
    · exact all (op := 0x31) (by decide) (by decide)
    · exact all (op := 0x32) (by decide) (by decide)
    · exact all (op := 0x33) (by decide) (by decide)
  case first =>
    have hk := State.applyRefuse_live hbusy hready hb hst
    intro wait role
    refine ⟨fun h2 => apply (.inr hst) (hk.trans (if_pos h2)) (by decide), fun h2 h3 => apply (k := 3) (.inr hst) (hk.trans ?_) (by decide),
      fun h2 h3 h4 => apply (k := 4) (.inr hst) (hk.trans ?_) (by decide), fun h2 h3 h4 h5 => apply (k := 5) (.inr hst) (hk.trans ?_) (by decide),
      fun h2 h3 h4 h5 h6 h7 => apply (k := 6) (.inr hst) (hk.trans ?_) (by decide)⟩
    · exact (if_neg h2).trans (if_pos h3)
    · exact (if_neg h2).trans ((if_neg (by simp [h3])).trans (if_pos h4))
    · exact (if_neg h2).trans ((if_neg (by simp [h3])).trans ((if_neg (by simp [h4])).trans (if_pos h5)))
    · exact (if_neg h2).trans ((if_neg (by simp [h3])).trans ((if_neg (by simp [h4])).trans ((if_neg h5).trans (if_pos ⟨h6, h7⟩))))
  case prepare =>
    have code {op : Nat} (hop : op = 0x30 ∨ op = 0x33) : s.rcfgRefuse p op = 7 := by
      rw [State.rcfgRefuse, if_neg (by omega), if_pos hop]
      exact if_pos (by rw [Bool.or_eq_true]; exact hno)
    have hheld : (s.facet p).fstate ≠ .held := by rcases hst with e | e | e <;> rw [e] <;> decide
    constructor
    · refine exec_rcfg_refused (op := 0x30) (arg := 0) rfl h rfl ?_ hheld (by decide) (by decide) (code (.inl rfl)) (by decide)
      rcases hst with e | e | e <;> rw [e] <;> rfl
    · refine exec_rcfg_refused (op := 0x33) (arg := 0) rfl h rfl ?_ hheld (by decide) (by decide) (code (.inr rfl)) (by decide)
      rcases hst with e | e | e <;> rw [e] <;> rfl

end Sys2Proof.Machine
end

/-! ## What the shared operations of a port change of its facet -/

section
namespace Sys2Proof.Machine

theorem Facet.mask_mask {ps qs : List Part} (hs : ps ⊆ qs) (f : Facet) : (f.mask ps).mask qs = f.mask qs := by
  have key {α : Type} {x : Part} (a b : α) : (if x ∈ qs then a else if x ∈ ps then a else b) = if x ∈ qs then a else b := by
    by_cases h : x ∈ qs
    · rw [if_pos h, if_pos h]
    · rw [if_neg h, if_neg h, if_neg fun k => h (hs k)]
  have disch (x : Pp) : (if .pp ∈ qs then Pp.reset else if .disch ∈ qs then
        { (if .pp ∈ ps then Pp.reset else if .disch ∈ ps then { x with disch := .off } else x) with disch := .off }
        else if .pp ∈ ps then Pp.reset else if .disch ∈ ps then { x with disch := .off } else x)
      = if .pp ∈ qs then Pp.reset else if .disch ∈ qs then { x with disch := .off } else x := by
    by_cases h : .pp ∈ qs
    · rw [if_pos h, if_pos h]
    · rw [if_neg h, if_neg h, if_neg fun k => h (hs k)]
      by_cases k : .disch ∈ qs
      · rw [if_pos k, if_pos k]
        split <;> rfl
      · rw [if_neg k, if_neg k, if_neg fun l => k (hs l)]
  simp only [Facet.mask, key, disch]

namespace PartFrame

variable {ps : List Part} {p : Port} {s t u : State}

/-- What an operation changes it may change. -/
theorem mono {qs : List Part} (h : PartFrame ps p s t) (hs : ps ⊆ qs := by decide) : PartFrame qs p s t := by
  unfold PartFrame
  rw [← Facet.mask_mask hs (t.facet p), ← Facet.mask_mask hs (s.facet p)]
  exact congrArg (Facet.mask qs) h

theorem setFlt (h : PartFrame ps p s t) (u : Nat) (f : FltUnit) : PartFrame ps p s (t.setFlt u f) := h.of_facet (State.facet_setFlt ..)

theorem foldl {α : Type} {g : State → α → State} (hg : ∀ x a, PartFrame ps p s x → PartFrame ps p s (g x a)) (l : List α)
    (h : PartFrame ps p s t) : PartFrame ps p s (l.foldl g t) := by
  induction l generalizing t with
  | nil => exact h
  | cons a l ih => exact ih (hg _ a h)

theorem pdo (h : PartFrame ps p s u) (hn : .cfg ∉ ps := by decide) : (u.facet p).pdo = (s.facet p).pdo := by
  simpa only [Facet.mask, if_neg hn] using congrArg Facet.pdo h
theorem vdm (h : PartFrame ps p s u) (hn : .cfg ∉ ps := by decide) : (u.facet p).vdm = (s.facet p).vdm := by
  simpa only [Facet.mask, if_neg hn] using congrArg Facet.vdm h

/-! ### The CC pins -/

theorem refreshRp (h : PartFrame ps p s t) (hin : .cc ∈ ps := by decide) : PartFrame ps p s (t.refreshRp p) := by
  unfold State.refreshRp
  exact h.ite (h.modCc _ hin)

theorem refreshVconn (h : PartFrame ps p s t) (hin : .cc ∈ ps := by decide) : PartFrame ps p s (t.refreshVconn p) := by
  unfold State.refreshVconn
  exact h.ite (h.modCc _ hin)

theorem present (h : PartFrame ps p s t) (x : Term) (hin : .cc ∈ ps := by decide) : PartFrame ps p s (t.present p x) :=
  (h.modCc _ hin).refreshRp hin

theorem refreshDisch (h : PartFrame ps p s t) (hin : .disch ∈ ps := by decide) : PartFrame ps p s (t.refreshDisch p) := by
  unfold State.refreshDisch
  exact (h.modDisch _ hin).ite h

theorem setTc (h : PartFrame ps p s t) (x : TcState) (hc : .cc ∈ ps := by decide) (hd : .disch ∈ ps := by decide) :
    PartFrame ps p s (t.setTc p x) := ((h.modCc _ hc).refreshRp hc).refreshDisch hd

theorem latchDrp (h : PartFrame ps p s t) (hin : .cc ∈ ps := by decide) : PartFrame ps p s (t.latchDrp p) := h.modCc _ hin

theorem homeTc (h : PartFrame ps p s t) (x : TcState) (hc : .cc ∈ ps := by decide) (hd : .disch ∈ ps := by decide) :
    PartFrame ps p s (t.homeTc p x) := (h.setTc x hc hd).latchDrp hc

theorem accEval (h : PartFrame ps p s t) (hin : .cc ∈ ps := by decide) : PartFrame ps p s (t.accEval p) := h.modCc _ hin

theorem raEval (h : PartFrame ps p s t) (hin : .cc ∈ ps := by decide) : PartFrame ps p s (t.raEval p) := by
  unfold State.raEval
  exact h.ite ((h.modCc _ hin).refreshVconn hin)

/-! ### Transmission -/

theorem turnNg (h : PartFrame ps p s t) (hc : .cc ∈ ps := by decide) (hp : .pd ∈ ps := by decide) : PartFrame ps p s (t.turnNg p) := by
  unfold State.turnNg
  exact ((h.modPd _ hp).refreshRp hc).ite h

theorem pump (h : PartFrame ps p s t) (hc : .cc ∈ ps := by decide) (hp : .pd ∈ ps := by decide) : PartFrame ps p s (t.pump p) := by
  unfold State.pump
  dsimp only
  split
  · exact (h.turnNg hc hp).modPd _ hp
  · exact h.turnNg hc hp

theorem fwFailed (h : PartFrame ps p s t) (m : TxMsg) (hin : .pd ∈ ps := by decide) : PartFrame ps p s (t.fwFailed p m) := by
  unfold State.fwFailed
  exact (h.modPd _ hin).ite h

theorem send (h : PartFrame ps p s t) (m : TxMsg) (hc : .cc ∈ ps := by decide) (hp : .pd ∈ ps := by decide) :
    PartFrame ps p s (t.send p m) := by
  unfold State.send
  exact (h.fwFailed m hp).ite ((h.modPd _ hp).pump hc hp)

theorem setSeq (h : PartFrame ps p s t) (q : Seq) (hin : .pd ∈ ps := by decide) : PartFrame ps p s (t.setSeq p q) := h.modPd _ hin
theorem endSeq (h : PartFrame ps p s t) (hin : .pd ∈ ps := by decide) : PartFrame ps p s (t.endSeq p) := h.setSeq _ hin
theorem postSwap (h : PartFrame ps p s t) (k : Nat) (ok : Bool) : PartFrame ps p s (t.postSwap p k ok) := h.postF _ _ _

theorem swapLost (h : PartFrame ps p s t) : PartFrame ps p s (t.swapLost p) := by
  unfold State.swapLost
  split
  · exact h.postSwap _ _
  · exact h.postSwap _ _
  · exact h.postSwap _ _
  · exact h.postSwap _ _
  · exact h

theorem cutTx (h : PartFrame ps p s t) (hin : .pd ∈ ps := by decide) : PartFrame ps p s (t.cutTx p) := by
  unfold State.cutTx
  refine (foldl (fun x m hx => hx.fwFailed m hin) _ ?_).modPd _ hin
  split
  · split
    · exact (h.swapLost.fwFailed _ hin).orReg _ _
    · exact h.swapLost
  · exact h.swapLost

theorem abandon (h : PartFrame ps p s t) (hp : .pd ∈ ps := by decide) (hc : .ct ∈ ps := by decide) : PartFrame ps p s (t.abandon p) :=
  (h.swapLost.modPd _ hp).modCt _ hc

theorem partnerRpEval (h : PartFrame ps p s t) (hc : .cc ∈ ps := by decide) (hp : .pd ∈ ps := by decide) :
    PartFrame ps p s (t.partnerRpEval p) := by
  unfold State.partnerRpEval
  exact h.ite ((h.modCc _ hc).pump hc hp)

theorem ccArm (h : PartFrame ps p s t) (hc : .cc ∈ ps := by decide) (hp : .pd ∈ ps := by decide) : PartFrame ps p s (t.ccArm p) := by
  unfold State.ccArm
  dsimp only
  split
  all_goals first
    | exact h
    | exact h.accEval hc
    | exact h.partnerRpEval hc hp
    | exact (h.raEval hc).modCc _ hc
    | exact h.modCc _ hc

theorem ccEval (h : PartFrame ps p s t) (hc : .cc ∈ ps := by decide) (hd : .disch ∈ ps := by decide) (hp : .pd ∈ ps := by decide) :
    PartFrame ps p s (t.ccEval p) := by
  unfold State.ccEval
  refine ccArm ?_ hc hp
  split
  · exact (h.setTc _ hc hd).ite h
  · exact (h.setTc _ hc hd).ite h
  · exact (h.homeTc _ hc hd).ite h
  · exact (h.setTc _ hc hd).ite h
  · exact (h.homeTc _ hc hd).ite h
  · exact h

theorem enterTc (h : PartFrame ps p s t) (x : TcState) (hc : .cc ∈ ps := by decide) (hd : .disch ∈ ps := by decide)
    (hp : .pd ∈ ps := by decide) : PartFrame ps p s (t.enterTc p x) := by
  unfold State.enterTc
  exact (((h.setTc x hc hd).latchDrp hc).ite (h.setTc x hc hd)).ccEval hc hd hp

theorem runTerm (h : PartFrame ps p s t) (hc : .cc ∈ ps := by decide) (hp : .pd ∈ ps := by decide) : PartFrame ps p s (t.runTerm p) := by
  unfold State.runTerm
  exact ((h.present _ hc).ccArm hc hp).ite (h.present _ hc)

/-! ### The facet's state, its contract and its power path -/

theorem setFState (h : PartFrame ps p s t) (x : FState) (hin : .fstate ∈ ps := by decide) : PartFrame ps p s (t.setFState p x) := by
  unfold State.setFState
  exact h.ite ((h.modF _ fun f => by simp only [Facet.mask, if_pos hin]).postF _ _ _)

theorem refreshIlim (h : PartFrame ps p s t) (hin : .clamp ∈ ps := by decide) : PartFrame ps p s (t.refreshIlim p) := by
  unfold State.refreshIlim
  dsimp only
  have clamp {x : State} (hx : PartFrame ps p s x) (b : Bool) : PartFrame ps p s (x.modF p fun f => { f with clampIlim := b }) :=
    hx.modF _ fun f => by simp only [Facet.mask, if_pos hin]
  refine h.ite ?_
  split
  · exact (clamp (((h.setReg _ _).orReg _ _).ite (h.setReg _ _)) _).postF _ _ _
  · exact clamp (((h.setReg _ _).orReg _ _).ite (h.setReg _ _)) _

theorem linkOff (h : PartFrame ps p s t) (hl : .lk ∈ ps := by decide) (hc : .ct ∈ ps := by decide) : PartFrame ps p s (t.linkOff p) := by
  unfold State.linkOff
  exact ((h.modF _ fun f => by simp only [Facet.mask, if_pos hl, if_pos hc]).postF _ _ _).ite h

theorem endContract (h : PartFrame ps p s t) (hc : .ct ∈ ps := by decide) (hcc : .cc ∈ ps := by decide) :
    PartFrame ps p s (t.endContract p) := by
  unfold State.endContract
  exact (((h.modCt _ hc).refreshRp hcc).postF _ _ _).ite (h.modCt _ hc)

theorem unlose (h : PartFrame ps p s t) (b : Bus) (c : Nat) : PartFrame ps p s (t.unlose b c) := h.modFeed _ _
theorem markLost (h : PartFrame ps p s t) (b : Bus) (c : Nat) : PartFrame ps p s (t.markLost b c) := (h.unlose _ _).modFeed _ _

theorem todo (h : PartFrame ps p s t) (k : List Act) : PartFrame ps p s { t with todo := k } := h.of_facet (by cases p <;> rfl)

theorem feedGone (h : PartFrame ps p s t) (q : Port) : PartFrame ps p s (t.feedGone q) := by
  unfold State.feedGone
  dsimp only
  split
  · split
    · exact (h.markLost _ _).todo _
    · exact h.markLost _ _
  · exact h

theorem pgDown (h : PartFrame ps p s t) (hin : .pp ∈ ps := by decide) : PartFrame ps p s (t.pgDown p) := by
  unfold State.pgDown
  exact (((h.modPp _ hin).orReg _ _).postF _ _ _).ite h

theorem gates (h : PartFrame ps p s t) (cmd : Bool) (hin : .pp ∈ ps := by decide) : PartFrame ps p s (t.gates p cmd) :=
  ((h.modPp _ hin).modPp _ hin).pgDown hin

theorem openSwitch (h : PartFrame ps p s t) (hin : .pp ∈ ps := by decide) : PartFrame ps p s (t.openSwitch p) := by
  unfold State.openSwitch
  exact ((h.gates _ hin).feedEnd _ _).ite (h.gates _ hin)

end PartFrame

/-! ### The switch and the facet's state after an operation on them -/

section
variable {p : Port} {s : State}

theorem State.fstate_setFState (x : FState) : ((s.setFState p x).facet p).fstate = x := by
  unfold State.setFState
  split
  · next h => exact h
  · simp
end

end Sys2Proof.Machine
end

/-! ## A facet leaves its state (R39, R70) -/

section
namespace Sys2Proof.Machine

variable {p : Port} {s : State}

/-- What an unattached port keeps of its facet after its switch is open. -/
theorem PartFrame.unattach_open (p : Port) (s : State) (x : TcState) :
    ∃ t : State, PartFrame [.cc, .pd, .ct, .lk] p s t ∧ PartFrame [.cc, .disch, .pd, .ct, .rc] p (t.openSwitch p) (s.unattach p x) := by
  refine ⟨(((((s.linkOff p).endContract p).cutTx p).abandon p).feedGone p).modCc p fun c => { c with tc := x },
    ((((PartFrame.refl.linkOff.endContract).cutTx).abandon).feedGone p).modCc _, ?_⟩
  unfold State.unattach
  refine PartFrame.setTc ?_ _
  refine PartFrame.setReg ?_ _ _
  exact PartFrame.modF .refl _ fun f => rfl

theorem State.swCmd_unattach (x : TcState) : ((s.unattach p x).facet p).pp.swCmd = false := by
  obtain ⟨t, -, h⟩ := PartFrame.unattach_open p s x
  exact h.swCmd.trans (State.swCmd_openSwitch _ p)

/-- A facet that leaves its state is in the one it goes to, its switch commanded open. -/
theorem State.leave_ends (x : FState) : ((s.leave p x).facet p).fstate = x ∧ ((s.leave p x).facet p).pp.swCmd = false := by
  obtain ⟨t, ht, hs⟩ : ∃ t : State, (t.facet p).pp.swCmd = false
      ∧ s.leave p x = (((((t.modCc p fun c => { c with term := if (t.facet p).cfg.present then .rd else .deadRd }).modPd p
        fun d => { d with hrPhase := 0, hrSink := false }).refreshRp p).setFState p x).refreshIlim p) := by
    unfold State.leave
    refine ⟨_, ?_, rfl⟩
    split
    · exact State.swCmd_unattach _
    · exact (PartFrame.setTc (ps := [.cc, .disch]) PartFrame.refl .disabled).swCmd.trans (State.swCmd_openSwitch _ p)
  rw [hs]
  generalize hu : (((t.modCc p fun c => { c with term := if (t.facet p).cfg.present then .rd else .deadRd }).modPd p
        fun d => { d with hrPhase := 0, hrSink := false }).refreshRp p) = u
  have hsw : PartFrame [.cc, .pd] p t u := hu ▸ ((PartFrame.refl.modCc _).modPd _).refreshRp
  constructor
  · exact (PartFrame.refreshIlim (ps := [.clamp]) PartFrame.refl).fstate.trans (State.fstate_setFState x)
  · exact (((PartFrame.refl.setFState (ps := [.clamp, .fstate]) x).refreshIlim).swCmd).trans (hsw.swCmd.trans ht)

theorem State.cutHold_idle (h : (s.facet p).rc.phase ≠ .holding) : s.cutHold p = s := by
  unfold State.cutHold
  split
  · next e => exact absurd e h
  · rfl

/-- R70, R39: what SAFE entry makes of a facet that is neither QUARANTINED nor in a hold. -/
theorem State.portSafe_ends (hq : (s.facet p).fstate ≠ .quarantined) (hh : (s.facet p).rc.phase ≠ .holding) :
    ((s.portSafe p).facet p).pp.swCmd = false
      ∧ ((s.portSafe p).facet p).fstate = if (s.facet p).qPending then .quarantined else .off := by
  obtain ⟨hst, hsw⟩ := State.leave_ends (s := s) (p := p) (if (s.facet p).qPending then .quarantined else .off)
  have h : PartFrame [.cc, .disch, .quarantine] p (s.leave p (if (s.facet p).qPending then .quarantined else .off)) (s.portSafe p) := by
    unfold State.portSafe
    rw [State.cutHold_idle hh]
    refine PartFrame.present ?_ _
    refine PartFrame.modF ?_ _ fun f => rfl
    refine PartFrame.modDisch ?_ _
    rw [if_neg hq]
    exact .refl
  exact ⟨h.swCmd.trans hsw, h.fstate.trans hst⟩

/-- Settles O9: SAFE entry's outputs, and what it makes of a facet. -/
theorem safeEntryStopsEverything : Obligations.SafeEntryStopsEverything := by
  intro s
  refine ⟨fun cause cls block hs hc => ?_, fun p hq hh => State.portSafe_ends hq hh⟩
  obtain ⟨h1, h2, h3, h4, h5, h6, h7⟩ := s.enterSafe_outputs cause cls block hs hc
  exact ⟨h1, h2, h3, h4, h5, h6, h7⟩

end Sys2Proof.Machine
end

/-! ## The floor (R21, R22, R23) -/

section
namespace Sys2Proof.Machine

variable {p : Port} {s t : State}

/-! ### Gates and trips -/

theorem State.pp_pgDown : ∃ g, ((s.pgDown p).facet p).pp = { (s.facet p).pp with pg := g } := by
  unfold State.pgDown
  split
  · exact ⟨false, by rw [State.facet_postF, State.orReg, State.facet_setReg, State.pp_modPp_same]⟩
  · exact ⟨_, rfl⟩

/-- What gates off leave of the power path. -/
theorem State.pp_gates (cmd : Bool) :
    ∃ d g, ((s.gates p cmd).facet p).pp = { (s.facet p).pp.gatesOff with swCmd := cmd, disch := d, pg := g } := by
  obtain ⟨g, e⟩ : ∃ g : Pp → Disch, s.gates p cmd
      = ((s.modPp p fun x => { x.gatesOff with swCmd := cmd }).modPp p fun x => { x with disch := g x }).pgDown p := ⟨_, rfl⟩
  rw [e]
  obtain ⟨y, hy⟩ := State.pp_pgDown (s := (s.modPp p fun x => { x.gatesOff with swCmd := cmd }).modPp p fun x => { x with disch := g x }) (p := p)
  rw [hy, State.pp_modPp_same, State.pp_modPp_same]
  exact ⟨_, _, rfl⟩

/-- A trip closes again by itself (R285). -/
def State.retries (s : State) (p : Port) (cause : Nat) : Bool :=
  (s.bit (fx p 0x142) 8 && decide (cause ≠ 3)) && (decide (s.rf (fx p 0x142) 11 4 = 0) || decide (0 < s.retryLeft p))

/-- The facet of a port that trips: the gates are off, and its state and cause are set. -/
theorem State.facet_trip (p : Port) (cause : Nat) : (s.trip p cause).facet p
    = (((s.feedGone p).gates p (((s.feedGone p).facet p).pp.swCmd && s.retries p cause)).modF p fun f =>
        { f with fstate := if f.fstate = .live then .tripped else f.fstate
                 pp := { f.pp with tripCause := BitVec.ofNat 2 cause, sw := if s.retries p cause then .retryWait else .open } }).facet p := by
  unfold State.trip State.retries
  dsimp only
  rw [State.facet_postF, apply_ite (State.facet · p), State.facet_postF, ite_self, apply_ite (State.facet · p), State.facet_feedEnd,
    ite_self, State.facet_count, State.orReg, State.facet_setReg, Bool.and_assoc (((s.feedGone p).facet p).pp.swCmd)]

/-- The state and the power path of a facet that trips. -/
theorem State.trip_ends (p : Port) (cause : Nat) :
    ((s.trip p cause).facet p).fstate = (if (s.facet p).fstate = .live then .tripped else (s.facet p).fstate)
      ∧ ∃ d g, ((s.trip p cause).facet p).pp
          = { (s.facet p).pp.gatesOff with
              swCmd := (s.facet p).pp.swCmd && s.retries p cause, disch := d, pg := g, tripCause := BitVec.ofNat 2 cause
              sw := if s.retries p cause then .retryWait else .open } := by
  have hpp : ((s.feedGone p).facet p).pp = (s.facet p).pp := (PartFrame.feedGone (ps := []) .refl p).pp
  have hst (cmd : Bool) : (((s.feedGone p).gates p cmd).facet p).fstate = (s.facet p).fstate :=
    ((PartFrame.feedGone (ps := [.pp]) .refl p).gates cmd).fstate
  obtain ⟨d, g, hg⟩ := State.pp_gates (s := s.feedGone p) (p := p) (((s.feedGone p).facet p).pp.swCmd && s.retries p cause)
  rw [State.facet_trip, State.modF_fstate, State.modF_pp]
  dsimp only
  rw [hst, hg, hpp]
  exact ⟨rfl, d, g, rfl⟩

theorem State.retries_floor : s.retries p 3 = false := by simp [State.retries]

/-! ### A wake keeps what the floor does -/

theorem State.cvs_gpwmCtlDone : s.gpwmCtlDone.hub.cv1 = s.hub.cv1 ∧ s.gpwmCtlDone.hub.cv2 = s.hub.cv2 := by
  unfold State.gpwmCtlDone
  split <;> exact ⟨rfl, rfl⟩

theorem PartFrame.runTermAny {ps : List Part} (q : Port) (h : PartFrame ps p s t) (hc : .cc ∈ ps := by decide) (hp : .pd ∈ ps := by decide) :
    PartFrame ps p s (t.runTerm q) := by
  by_cases hq : p = q
  · subst hq
    exact h.runTerm hc hp
  · exact h.ofOther (PortFrame.runTerm .refl) hq

theorem State.facet_wmPowerAll (n : Nat) (p : Port) : (s.wmPowerAll n).facet p = s.facet p := by
  obtain ⟨a, b, c, d, e⟩ := s.wmPowerAll_wms n
  rw [e]
  cases p <;> rfl

theorem State.facet_gpwmCtlDone (p : Port) : s.gpwmCtlDone.facet p = s.facet p := by
  unfold State.gpwmCtlDone
  split
  · rfl
  · cases p <;> rfl

theorem State.hub_clkUp (m : Mode) : ({ s.clkUp with mode := m } : State).hub = s.hub := by
  unfold State.clkUp
  dsimp only
  split <;> rfl

theorem State.facet_clkUp (m : Mode) (p : Port) : ({ s.clkUp with mode := m } : State).facet p = s.facet p := by
  unfold State.clkUp
  dsimp only
  split <;> cases p <;> rfl

/-- A wake changes of a facet at most its CC pins and its transmission. -/
theorem PartFrame.wakeNow {ps : List Part} (h : PartFrame ps p s t) (hc : .cc ∈ ps := by decide) (hp : .pd ∈ ps := by decide) :
    PartFrame ps p s t.wakeNow := by
  by_cases hm : t.mode = .sentinel
  · obtain ⟨x, hx, e⟩ := State.wakeNow_parts hm
    rw [e]
    refine PartFrame.runTermAny _ (PartFrame.runTermAny _ (PartFrame.runTermAny _ (PartFrame.runTermAny _ ?_ hc hp) hc hp) hc hp) hc hp
    refine h.of_facet ?_
    rw [State.facet_gpwmCtlDone, State.facet_wmPowerAll, State.facet_clkUp, hx]
    cases p <;> rfl
  · rw [State.wakeNow, if_neg hm]
    exact h

theorem State.cvs_wakeNow : s.wakeNow.hub.cv1 = s.hub.cv1 ∧ s.wakeNow.hub.cv2 = s.hub.cv2 := by
  by_cases hm : s.mode = .sentinel
  · obtain ⟨x, hx, e⟩ := State.wakeNow_parts hm
    have hr (q : Port) (y : State) : (y.runTerm q).hub = y.hub := by
      obtain ⟨-, hrest⟩ := PortFrame.runTerm (p := q) (PortFrame.refl (s := y))
      rw [hrest]
    have hw (y : State) : (y.wmPowerAll 32).hub = y.hub := by
      obtain ⟨a, b, c, d, e⟩ := y.wmPowerAll_wms 32
      rw [e]
    rw [e, hr, hr, hr, hr, State.cvs_gpwmCtlDone.1, State.cvs_gpwmCtlDone.2, hw, State.hub_clkUp, hx]
    exact ⟨rfl, rfl⟩
  · rw [State.wakeNow, if_neg hm]
    exact ⟨rfl, rfl⟩

theorem UnitFrame.convsOff {ps : List Port} (h : UnitFrame ps s t) : UnitFrame ps s t.convsOff := by
  unfold State.convsOff
  dsimp only
  split
  · exact (((h.stopCharge _).modCv _ _).modCv _ _).modHub _
  · exact ((h.modCv _ _).modCv _ _).modHub _

theorem State.facet_convsOff (p : Port) : s.convsOff.facet p = s.facet p := by
  obtain ⟨h, -, -⟩ := UnitFrame.convsOff (ps := []) (UnitFrame.refl (s := s))
  exact h p List.not_mem_nil

/-- R23: with every switch opened, each is commanded open. -/
theorem State.swCmd_openAll (p : Port) : (s.openAll.facet p).pp.swCmd = false := by
  have keep (q : Port) (hq : p ≠ q) {x : State} (h : (x.facet p).pp.swCmd = false) : ((x.openSwitch q).facet p).pp.swCmd = false := by
    have hf : UnitFrame [q] x (x.openSwitch q) := UnitFrame.refl.openSwitch (List.mem_singleton_self q)
    obtain ⟨hother, -, -⟩ := hf
    rw [hother p (by simpa using hq)]
    exact h
  unfold State.openAll
  cases p with
  | a => exact keep .d (by decide) (keep .c (by decide) (keep .b (by decide) (State.swCmd_openSwitch _ _)))
  | b => exact keep .d (by decide) (keep .c (by decide) (State.swCmd_openSwitch _ _))
  | c => exact keep .d (by decide) (State.swCmd_openSwitch _ _)
  | d => exact State.swCmd_openSwitch _ _

/-- Settles O14: each act of the floor, its effect kept by the fault event and the wake that follow it. -/
theorem floorActsWithoutClock : Obligations.FloorActsWithoutClock := by
  intro s hm
  have wake (p : Port) (x : State) : PartFrame [.cc, .pd] p x x.wakeNow := PartFrame.refl.wakeNow
  refine ⟨fun p i => ⟨floor_of hm rfl, ?port⟩, fun c hc => floor_of hm hc, fun b hb => floor_of hm (by rw [hb]; rfl),
    fun hl => ⟨floor_of hm (by rw [hl]; rfl), ?legs⟩, fun tj => ⟨floor_of hm rfl, ?off⟩, fun b hb => ⟨floor_of hm hb, ?released⟩⟩
  case port =>
    have h : PartFrame [.cc, .pd] p ((s.modPp p fun x => { x with floorLatch := true, overFloor := true }).trip p 3) (s.portFloor p i) :=
      (PartFrame.refl.fault _ _ _ _).wakeNow
    obtain ⟨-, d, g, hpp⟩ := State.trip_ends (s := s.modPp p fun x => { x with floorLatch := true, overFloor := true }) p 3
    rw [h.pp, hpp, State.retries_floor, State.pp_modPp_same]
    exact ⟨rfl, Bool.and_false _⟩
  case legs =>
    obtain ⟨g, e, g1, g2⟩ : ∃ g : Hub → Hub, s.batClamp = ((s.modHub g).fault 4 0x10 s.sense.bat).wakeNow
        ∧ (g s.hub).cv1.legsOff = true ∧ (g s.hub).cv2.legsOff = true := ⟨_, rfl, rfl, rfl⟩
    obtain ⟨h1, h2⟩ := State.cvs_wakeNow (s := (s.modHub g).fault 4 0x10 s.sense.bat)
    rw [e, h1, h2, State.hub_fault, State.cv1_modHub, State.cv2_modHub]
    exact ⟨g1, g2⟩
  case off =>
    obtain ⟨t, ht⟩ : ∃ t : State, s.thermal tj = ((t.openAll.convsOff).fault 5 0x01 (Int.toNat (tj + 64) % 256)).wakeNow := ⟨_, rfl⟩
    obtain ⟨h1, h2⟩ := State.cvs_wakeNow (s := (t.openAll.convsOff).fault 5 0x01 (Int.toNat (tj + 64) % 256))
    obtain ⟨k1, k2⟩ := t.openAll.st_convsOff
    rw [ht]
    refine ⟨(congrArg Cv.st h1).trans ?_, (congrArg Cv.st h2).trans ?_, fun p => ?_⟩
    · rw [State.hub_fault, k1]
    · rw [State.hub_fault, k2]
    · have h : PartFrame [.cc, .pd] p t.openAll (((t.openAll.convsOff).fault 5 0x01 (Int.toNat (tj + 64) % 256)).wakeNow) :=
        ((PartFrame.refl.of_facet (State.facet_convsOff p)).fault _ _ _ _).wakeNow
      exact h.swCmd.trans (t.swCmd_openAll p)
  case released =>
    cases b with
    | none =>
      unfold State.clampEnd State.clampHolds
      dsimp only
      rw [State.bat_modHub]
    | some b =>
      have one (x : State) (c : Conv) (h : (x.feed b).clamped = false) :
          ((if x.convBus c = b then x.modCv c fun y => { y with clampOff := false } else x).feed b).clamped = false := by
        split
        · rw [State.feed_modCv]; exact h
        · exact h
      unfold State.clampEnd State.clampHolds
      refine one _ _ (one _ _ ?_)
      rw [State.feed_modFeed]

end Sys2Proof.Machine
end

/-! ## The opcodes of a facet's state and switch (R39, R271, R442) -/

section
namespace Sys2Proof.Machine

variable {p : Port} {s : State} {e : Byte} {src : Src}

/-- `SWITCH_ON`, where no hardware fault and no precondition stands against it. -/
theorem exec_switchOn_accepted (h : s.takesF p e) (hst : (s.facet p).fstate = .live) (hhw : s.switchHardware p = false)
    (hok : s.switchOk p = true) :
    exec (.switchOn p e 0 src) s = done ((s.runFacet p 3 0).reportF p src .accepted .none) := by
  have hj : s.judgeFacet p 3 e 0 src = (.accepted, .none, 0) := by
    rw [State.judgeFacet_takes h rfl]
    have hal : facetAllowed 3 (s.facet p).fstate = true := facetAllowed_live hst (by decide) (by decide)
    simp [hal, hhw, State.facetOk, hok]
  have hi : exec (.switchOn p e 0 src) s = powered s (s.unitRow (some p) 3 e 0 src) := rfl
  rw [hi, powered_facetRow h, State.facetCmd_accepted hj]

theorem State.tc_setTc (x : TcState) : ((s.setTc p x).facet p).cc.tc = x := by
  obtain ⟨g, e, hg⟩ : ∃ g : Cc → Cc, s.setTc p x = (((s.modCc p g).refreshRp p).refreshDisch p) ∧ ∀ c, (g c).tc = x := ⟨_, rfl, fun _ => rfl⟩
  have hd : PartFrame [.disch] p ((s.modCc p g).refreshRp p) (s.setTc p x) := by rw [e]; exact PartFrame.refl.refreshDisch
  rw [hd.cc]
  unfold State.refreshRp
  split
  · rw [State.modCc, State.modF_cc]; exact hg _
  · rw [State.modCc, State.modF_cc, State.modCc, State.modF_cc]; exact hg _

/-- R39: a facet that goes LIVE, or TRIPPED where the floor's latch stands. -/
theorem State.fstate_goLive : ((s.goLive p).facet p).fstate = if (s.facet p).pp.floorLatch then .tripped else .live := by
  have h : PartFrame [.fstate, .cc, .disch, .pd] p s ((s.goLiveNow p).enterTc p ((s.goLiveNow p).facet p).homeState) :=
    ((PartFrame.refl.setFState .live).setTc _).enterTc _
  have hlatch := congrArg Pp.floorLatch h.ppBut
  have hlive : (((s.goLiveNow p).enterTc p ((s.goLiveNow p).facet p).homeState).facet p).fstate = .live :=
    ((PartFrame.setTc (ps := [.cc, .disch, .pd]) .refl _).enterTc _).fstate.trans (State.fstate_setFState .live)
  unfold State.goLive
  dsimp only at hlatch ⊢
  rw [apply_ite (State.facet · p), hlatch]
  split
  · exact State.fstate_setFState .tripped
  · exact hlive

/-- R39, R271: what `SWITCH_OFF` leaves. -/
theorem State.switchOff_ends : ((s.switchOff p).facet p).pp.swCmd = false
    ∧ ((s.switchOff p).facet p).pp.floorLatch
        = ((s.facet p).pp.floorLatch && (s.facet p).pp.overFloor && ((s.facet p).pp.swObs || (s.facet p).pp.leak))
    ∧ ((s.switchOff p).facet p).fstate
        = if (s.facet p).fstate = .tripped ∧ ((s.facet p).pp.floorLatch && (s.facet p).pp.overFloor && ((s.facet p).pp.swObs || (s.facet p).pp.leak)) = false
          then .live else (s.facet p).fstate := by
  generalize hl : ((s.facet p).pp.floorLatch && (s.facet p).pp.overFloor && ((s.facet p).pp.swObs || (s.facet p).pp.leak)) = latch
  obtain ⟨g, e, g1, g2⟩ : ∃ g : Pp → Pp, s.switchOff p = (if (s.facet p).fstate = .tripped ∧ latch = false
      then ((s.openSwitch p).modPp p g).setFState p .live else (s.openSwitch p).modPp p g) ∧ (∀ x, (g x).swCmd = x.swCmd) ∧ ∀ x, (g x).floorLatch = latch := by
    subst hl
    exact ⟨_, rfl, fun _ => rfl, fun _ => rfl⟩
  have hpp : ((s.switchOff p).facet p).pp = g ((s.openSwitch p).facet p).pp := by
    rw [e, apply_ite (State.facet · p), apply_ite Facet.pp, (PartFrame.setFState (ps := [.fstate]) .refl .live).pp, ite_self, State.pp_modPp_same]
  rw [hpp, g1, g2]
  refine ⟨State.swCmd_openSwitch _ p, rfl, ?_⟩
  rw [e, apply_ite (State.facet · p), apply_ite Facet.fstate, State.fstate_setFState, State.fstate_modPp, State.fstate_openSwitch]

theorem State.swCmd_closeSwitch (h : (s.facet p).ct.prole = true ∨ s.listed (s.busOf p) (portNo p + 1) = true) :
    ((s.closeSwitch p).facet p).pp.swCmd = true := by
  unfold State.closeSwitch
  dsimp only
  rw [if_neg (by rcases h with e | e <;> simp [e])]
  split
  · split
    · rw [State.pp_modPp_same]
    · rw [State.pp_modPp_same]
  · rw [State.pp_modPp_same]

/-- A sink whose switch may close is listed on its bus (R271, R294). -/
theorem State.listed_of_switchOk (hsw : (s.facet p).pp.swCmd = false) (hok : s.switchOk p = true) :
    (s.facet p).ct.prole = true ∨ s.listed (s.busOf p) (portNo p + 1) = true := by
  cases hp : (s.facet p).ct.prole with
  | true => exact .inl rfl
  | false =>
    simp [State.switchOk, hsw, hp] at hok
    exact .inr (by simpa [State.listed] using hok.2.1.2)

theorem UnitFrame.switchOff {t : State} (h : UnitFrame [p] s t) : UnitFrame [p] s (t.switchOff p) := by
  have hp : p ∈ [p] := List.mem_singleton_self p
  unfold State.switchOff
  dsimp only
  split
  · exact ((h.openSwitch hp).modPp hp _).setFState hp _
  · exact (h.openSwitch hp).modPp hp _

/-- R442: a repair leaves the facet OFF and spends the grant. -/
theorem State.repairCmd_ends : ((s.repairCmd p).facet p).fstate = .off ∧ (s.repairCmd p).onx.grant = none := by
  obtain ⟨t, x, l, e, ht⟩ : ∃ (t : State) (x : Term) (l : List Byte), s.repairCmd p
      = (((t.present p x).setFState p .off).nvmQueue (.quarantine p false)).jrn 0x0E l ∧ t.onx.grant = none := ⟨_, _, _, rfl, rfl⟩
  constructor
  · have h : (((((t.present p x).setFState p .off).nvmQueue (.quarantine p false)).jrn 0x0E l).facet p)
        = ((((t.present p x).setFState p .off).nvmQueue (.quarantine p false)).facet p) :=
      State.jrn_keep (State.facet · p) (fun y g => State.facet_modOnx _ g p) (fun y g => State.facet_modNvm _ g p) _ _ _ _
    rw [e, h, State.facet_nvmQueue, State.fstate_setFState]
  · have hq : (((t.present p x).setFState p .off).nvmQueue (.quarantine p false)).onx = t.onx := by
      obtain ⟨-, hr⟩ := ((PortFrame.refl (p := p) (s := t)).present x).setFState .off
      change (((t.present p x).setFState p .off)).onx = _
      rw [hr]
    obtain ⟨n, k, m, hj⟩ := JrnOnly.jrn (o := t.onx) ⟨_, _, _, hq⟩ 0x0E l false
    rw [e, hj]
    exact ht

/-- Settles O21: each opcode's judgement comes to its operation, whose effect on the facet is the operation's own lemma. -/
theorem facetStateCommandsTakeEffect : Obligations.FacetStateCommandsTakeEffect := by
  intro p e src s h f does
  have hf : f = s.facet p := rfl
  clear_value f
  subst hf
  have run {op : Nat} {i : Instr} {u : State} (hi : exec i s = powered s (s.unitRow (some p) op e 0 src)) (ha : facetArgOk op 0 = true)
      (hst : facetAllowed op (s.facet p).fstate = true) (h3 : op ≠ 3) (hop : op < 0x30) (hok : s.facetOk p op 0 = true)
      (hu : s.runFacet p op 0 = u) (hfr : UnitFrame [p] s u) : does i u :=
    ⟨(exec_facet_accepted hi h ha hst h3 hop hok).trans (by rw [hu]), hfr⟩
  have self : UnitFrame [p] s s := .refl
  have hp : p ∈ [p] := List.mem_singleton_self p
  obtain ⟨hoff, hlatch, hstate⟩ := State.switchOff_ends (s := s) (p := p)
  refine ⟨fun hst hpr => ⟨run (op := 1) rfl rfl (by rw [hst]; rfl) (by decide) (by decide) hpr rfl (self.goLive hp), State.fstate_goLive, State.tc_setTc _⟩,
    fun hst => ⟨run (op := 2) rfl rfl (by rw [hst]; rfl) (by decide) (by decide) rfl rfl (self.leave hp _), State.leave_ends _⟩,
    fun hst hsw => ⟨?already, self⟩, fun hst hsw h1 h2 h3 h4 hok => ⟨⟨?close, self.closeSwitch hp⟩, State.swCmd_closeSwitch (State.listed_of_switchOk hsw hok)⟩,
    fun hst => ⟨run (op := 4) rfl rfl (by rw [hst]; rfl) (by decide) (by decide) rfl rfl self.switchOff, hoff, ?offLive⟩,
    fun hst => ⟨run (op := 4) rfl rfl (by rw [hst]; rfl) (by decide) (by decide) rfl rfl self.switchOff, hoff, hlatch, ?offTripped⟩,
    fun hst => ⟨?quarantine, State.leave_ends _⟩, fun hst hg => ⟨?repair, ?off, ?spent⟩, fun hst hg => ?refused⟩
  case already =>
    rw [exec_switchOn_accepted h hst (by simp [State.switchHardware, hsw]) (by simp [State.switchOk, hsw])]
    exact congrArg (fun u : State => done (u.reportF p src .accepted .none)) (if_pos hsw)
  case close =>
    rw [exec_switchOn_accepted h hst (by simp [State.switchHardware, h1, h2, h3, h4]) hok]
    exact congrArg (fun u : State => done (u.reportF p src .accepted .none)) (if_neg (by rw [hsw]; decide))
  case offLive =>
    rw [hstate, if_neg (by rw [hst]; simp), hst]
  case offTripped =>
    rw [hstate, hst]
    split <;> split <;> simp_all
  case quarantine =>
    refine run (op := 6) rfl rfl ?_ (by decide) (by decide) rfl ?_ ((self.leave hp _).nvmQueue _)
    · rcases hst with e | e <;> rw [e] <;> rfl
    · change s.quarantine p = _
      unfold State.quarantine
      rcases hst with e | e <;> rw [e]
  case repair =>
    refine ⟨?_, self.repairCmd hp⟩
    have hj : s.judgeFacet p 0x40 e 0 src = (.accepted, .none, 0) := by
      rw [State.judgeFacet_takes h rfl]
      simp [hst, facetAllowed, State.facetOk, hg]
    have hi : exec (.repair p e 0 src) s = powered s (s.unitRow (some p) 0x40 e 0 src) := rfl
    rw [hi, powered_facetRow h, State.facetCmd_accepted hj]
    rfl
  case off => exact State.repairCmd_ends.1
  case spent => exact State.repairCmd_ends.2
  case refused =>
    have hj : s.judgeFacet p 0x40 e 0 src = (.refused, .notAuthenticated, 0) := by
      rw [State.judgeFacet_takes h rfl]
      simp [hst, facetAllowed, State.facetOk, hg]
    have hi : exec (.repair p e 0 src) s = powered s (s.unitRow (some p) 0x40 e 0 src) := rfl
    rw [hi, powered_facetRow h, State.facetCmd_refused hj]

end Sys2Proof.Machine
end

/-! ## A facet's reconfiguration (R119 to R140) -/

section
namespace Sys2Proof.Machine

variable {p : Port} {s t : State} {e : Byte} {src : Src}

/-! ### The staged section in force -/

theorem PortFrame.afterF {o : Nat} {raw : Word} (h : PortFrame p s t) : PortFrame p s (t.afterF p o raw) := by
  unfold State.afterF
  split
  · exact h.refreshRp.refreshVconn
  · split
    · exact h
    · exact h.modPd _
  · exact h.refreshIlim
  · split
    · exact h.orReg _ _
    · exact h
  · split
    · exact h
    · exact h.setReg _ _
  · exact h.modLk _
  · split
    · exact h
    · exact h.setReg _ _
  · exact h

theorem PartFrame.afterF {o : Nat} {raw : Word} (h : PartFrame [.cc, .pd, .lk, .clamp] p s t) :
    PartFrame [.cc, .pd, .lk, .clamp] p s (t.afterF p o raw) := by
  unfold State.afterF
  split
  · exact h.refreshRp.refreshVconn
  · exact h.ite (h.modPd _)
  · exact h.refreshIlim
  · exact (h.orReg _ _).ite h
  · exact h.ite (h.setReg _ _)
  · exact h.modLk _
  · exact h.ite (h.setReg _ _)
  · exact h

/-- A write of a facet's block changes of a facet at most its pins, its messages, its link and its clamp. -/
theorem PartFrame.storeRw {i : Nat} (hlo : 0x1000 ≤ i) (hhi : i < 0x2000) (v : Word) (h : PartFrame [.cc, .pd, .lk, .clamp] p s t) :
    PartFrame [.cc, .pd, .lk, .clamp] p s (t.storeRw i v) := by
  unfold State.storeRw
  split
  · exact h
  · dsimp only
    refine h.ite ?_
    unfold State.afterStore
    split
    · exact ((h.setReg _ _).setFlt _ _).ite (h.setReg _ _)
    · split
      · next q o hq =>
        by_cases hpq : p = q
        · subst hpq
          exact (h.setReg _ _).afterF
        · exact (h.setReg _ _).ofOther (PortFrame.afterF .refl) hpq
      · next hf => simp [facetOf, hlo, hhi] at hf

theorem PartFrame.swapIn (regs : List (Nat × Word)) (n i : Nat) (hlo : 0x1000 ≤ i) (hhi : i + n ≤ 0x2000)
    (h : PartFrame [.cc, .pd, .lk, .clamp] p s t) : PartFrame [.cc, .pd, .lk, .clamp] p s (t.swapIn regs i n) := by
  induction n generalizing i t with
  | zero => exact h
  | succ n ih =>
    unfold State.swapIn
    exact ih (i + 1) (by omega) (by omega) ((h.storeRw hlo (by omega) _).ite h)

/-- R137: the tables of a section in force are its own. -/
theorem State.applyBank_tables (b : Bank) : PartFrame [.cc, .pd, .lk, .clamp] p (s.modF p fun f => { f with cfg := b.cfg, pdo := b.pdo, vdm := b.vdm })
    (s.applyBank p b) := by
  unfold State.applyBank
  refine PartFrame.swapIn _ _ _ ?_ ?_ ?_
  · cases p <;> decide
  · cases p <;> decide
  · unfold State.swapBlocked
    exact (PartFrame.refl.orReg _ _).ite .refl

theorem PartFrame.offTerm {ps : List Part} (h : PartFrame ps p s t) (hc : .cc ∈ ps := by decide) : PartFrame ps p s (t.offTerm p) :=
  h.present _ hc

theorem State.facet_fillSel (p : Port) : s.fillSel.facet p = s.facet p := by
  unfold State.fillSel
  dsimp only
  split <;> simp only [State.facet_setReg]

theorem State.rc_modRc (g : Rcfg Bank → Rcfg Bank) : ((s.modRc p g).facet p).rc = g (s.facet p).rc := State.modF_rc _ _ _

/-! ### The opcodes -/

theorem State.holdFacet_ends : ((s.holdFacet p).facet p).fstate = .held ∧ ((s.holdFacet p).facet p).rc.phase = .holding
    ∧ ((s.holdFacet p).facet p).pp = (s.facet p).pp ∧ ((s.holdFacet p).facet p).cc = (s.facet p).cc := by
  obtain ⟨g, e, hg⟩ : ∃ g : Rcfg Bank → Rcfg Bank, s.holdFacet p = ((s.modRc p g).setFState p .held).postF p 0x38 3
      ∧ ∀ r, (g r).phase = .holding := ⟨_, rfl, fun _ => rfl⟩
  have h : PartFrame [.rc, .fstate] p s (s.holdFacet p) := by
    rw [e]
    exact ((PartFrame.refl.modRc g).setFState _).postF _ _ _
  have hrc : PartFrame [.fstate] p (s.modRc p g) (s.holdFacet p) := by
    rw [e]
    exact (PartFrame.refl.setFState _).postF _ _ _
  refine ⟨?_, ?_, h.pp, h.cc⟩
  · rw [e, State.facet_postF, State.fstate_setFState]
  · rw [hrc.rc, State.rc_modRc, hg]

theorem PortFrame.holdFacet : PortFrame p s (s.holdFacet p) := by
  unfold State.holdFacet
  exact ((PortFrame.refl.modRc _).setFState _).postF _ _ _

theorem State.modF_tables (s : State) (p : Port) (b : Bank) :
    let f := (s.modF p fun f => { f with cfg := b.cfg, pdo := b.pdo, vdm := b.vdm }).facet p
    f.cfg = b.cfg ∧ f.pdo = b.pdo ∧ f.vdm = b.vdm ∧ f.rc = (s.facet p).rc ∧ f.fstate = (s.facet p).fstate := by
  have h := s.facet_modF p fun f => { f with cfg := b.cfg, pdo := b.pdo, vdm := b.vdm }
  intro f
  have hf : f = _ := h
  split at hf
  · rw [hf]
    exact ⟨rfl, rfl, rfl, rfl, rfl⟩
  · obtain ⟨h1, h2, h3, h4, -, -, -, -, -, h5, -⟩ :=
      Facet.advance_rest s.cycles ({ s.facet p with cfg := b.cfg, pdo := b.pdo, vdm := b.vdm } : Facet)
    rw [hf]
    exact ⟨h2, h3, h4, h5, h1⟩

/-- R137: an OFF facet's apply puts the staged section in force and keeps the one before. -/
theorem State.offApplyStart_ends {b : Bank} (hb : (s.facet p).rc.shadow = some b) : ((s.offApplyStart p).facet p).rc.offApply = true
    ∧ ((s.offApplyStart p).facet p).cfg = b.cfg ∧ ((s.offApplyStart p).facet p).pdo = b.pdo
    ∧ ((s.offApplyStart p).facet p).vdm = b.vdm ∧ ((s.offApplyStart p).facet p).fstate = (s.facet p).fstate := by
  obtain ⟨g, e, hg⟩ : ∃ g : Rcfg Bank → Rcfg Bank, s.offApplyStart p = ((s.modRc p g).applyBank p b).offTerm p ∧ ∀ r, (g r).offApply = true := by
    unfold State.offApplyStart
    rw [hb]
    exact ⟨_, rfl, fun _ => rfl⟩
  have h : PartFrame [.cc, .pd, .lk, .clamp] p ((s.modRc p g).modF p fun f => { f with cfg := b.cfg, pdo := b.pdo, vdm := b.vdm })
      (s.offApplyStart p) := by
    rw [e]
    exact (State.applyBank_tables b).offTerm
  obtain ⟨k1, k2, k3, k4, k5⟩ := (s.modRc p g).modF_tables p b
  refine ⟨?_, h.cfg.trans k1, h.pdo.trans k2, h.vdm.trans k3, ?_⟩
  · rw [h.rc, k4, State.rc_modRc, hg]
  · rw [h.fstate, k5, (PartFrame.modRc (ps := [.rc]) .refl g).fstate]

/-- Settles O23: each opcode's judgement comes to its operation on the facet's reconfiguration. -/
theorem reconfigurationOpcodesTakeEffect : Obligations.ReconfigurationOpcodesTakeEffect := by
  intro p e src s h f does
  have hf : f = s.facet p := rfl
  clear_value f
  subst hf
  have self : PortFrame p s s := .refl
  have run {op : Nat} {i : Instr} {u : State} (hi : exec i s = powered s (s.unitRow (some p) op e 0 src)) (ha : facetArgOk op 0 = true)
      (hst : facetAllowed op (s.facet p).fstate = true) (hheld : (s.facet p).fstate ≠ .held) (hlo : 0x30 ≤ op) (hhi : op ≤ 0x33)
      (hk : s.rcfgRefuse p op = 0) (hu : s.runFacet p op 0 = u) : exec i s = done (u.reportF p src .accepted .none) :=
    (exec_rcfg_accepted hi h ha hst hheld hlo hhi hk).trans (by rw [hu])
  have outside (hst : (s.facet p).fstate = .off ∨ (s.facet p).fstate = .live ∨ (s.facet p).fstate = .tripped) : (s.facet p).fstate ≠ .held
      ∧ ∀ op ∈ [0x30, 0x32, 0x33], facetAllowed op (s.facet p).fstate = true := by
    rcases hst with e | e | e <;> rw [e] <;> decide
  refine ⟨fun hst hbusy hoff => ?prepare, fun hst hr hoff => ?cancel, fun hst hno => ?nothing, fun hst hk => ?hold, fun hst hk => ?apply⟩
  case prepare =>
    obtain ⟨hheld, hal⟩ := outside hst
    have hk {op : Nat} (h31 : op ≠ 0x31) : s.rcfgRefuse p op = 0 := by
      simp [State.rcfgRefuse, h31, hbusy, hoff]
    have hfr (base : Bool) : PortFrame p s (s.prepareFacet p base) := (self.modRc _).postF _ _ _
    refine ⟨⟨run (op := 0x30) rfl rfl (hal _ (by decide)) hheld (by decide) (by decide) (hk (by decide)) rfl, hfr _⟩,
      ⟨run (op := 0x33) rfl rfl (hal _ (by decide)) hheld (by decide) (by decide) (hk (by decide)) rfl, hfr _⟩, fun base => ?_⟩
    unfold State.prepareFacet
    rw [State.facet_postF, State.rc_modRc]
    exact ⟨rfl, rfl, (PartFrame.modRc (ps := [.rc]) .refl _).fstate⟩
  case cancel =>
    obtain ⟨hheld, hal⟩ := outside hst
    have he : s.cancelCmd p = (s.modRc p fun r => { r.discard with err := 0 }).postF p 0x38 0 :=
      if_pos (by rw [Rcfg.isStaged, hr, hoff]; rfl)
    refine ⟨⟨run (op := 0x32) rfl rfl (hal _ (by decide)) hheld (by decide) (by decide) rfl rfl, ?_⟩, ?_⟩
    · rw [he]
      exact (self.modRc _).postF _ _ _
    · rw [he, State.facet_postF, State.rc_modRc]
      exact ⟨rfl, rfl⟩
  case nothing =>
    obtain ⟨hheld, hal⟩ := outside hst
    refine ⟨run (op := 0x32) rfl rfl (hal _ (by decide)) hheld (by decide) (by decide) rfl (if_neg ?_), self⟩
    rcases hno with h | h <;> simp [Rcfg.isStaged, h]
  case hold =>
    refine ⟨⟨run (op := 0x31) rfl rfl (facetAllowed_live hst (by decide) (by decide)) (by rw [hst]; decide) (by decide) (by decide) hk ?_, .holdFacet⟩,
      State.holdFacet_ends⟩
    exact if_neg (by rw [hst]; decide)
  case apply =>
    refine ⟨run (op := 0x31) rfl rfl (by rw [hst]; rfl) (by rw [hst]; decide) (by decide) (by decide) hk (if_pos hst), ?_⟩
    have hready : (s.facet p).rc.phase = .ready ∧ ∃ b, (s.facet p).rc.shadow = some b := by
      by_cases hbusy : s.otherBusy (some p) = true ∨ (s.facet p).rc.offApply = true
      · rw [State.applyRefuse_busy hbusy] at hk
        exact absurd hk (by decide)
      · by_contra hno
        have hone := State.applyRefuse_unstaged hbusy (by
          by_contra hc
          rw [not_or, not_ne_iff] at hc
          exact hno ⟨hc.1, Option.ne_none_iff_exists'.mp hc.2⟩)
        rw [hone] at hk
        exact absurd hk (by decide)
    obtain ⟨hr, b, hb⟩ := hready
    obtain ⟨h1, h2, h3, h4, h5⟩ := State.offApplyStart_ends hb
    exact ⟨hr, b, hb, h1, h2, h3, h4, h5.trans hst⟩

/-! ### The ends (R129 to R140) -/

/-- R137: an OFF apply's verification ends. -/
theorem State.offApplyDone_ends {v : Verify} (ho : (s.facet p).rc.offApply = true) (hs : (s.facet p).rc.shadow.isSome = true) :
    ((s.offApplyDone p v).facet p).rc.offApply = false
      ∧ ((s.offApplyDone p v).facet p).rc.phase = if v = .pass then .applied else .rolledBack := by
  obtain ⟨b, hb⟩ := Option.isSome_iff_exists.mp hs
  obtain ⟨t, g, e, hg, hp⟩ : ∃ (t : State) (g : Rcfg Bank → Rcfg Bank), (s.offApplyDone p v).facet p = (t.modRc p g).facet p
      ∧ (∀ r, (g r).offApply = false) ∧ ∀ r, (g r).phase = if v = .pass then .applied else .rolledBack := by
    unfold State.offApplyDone
    dsimp only
    rw [ho, hb]
    cases v with
    | pass => exact ⟨_, _, State.facet_postF .., fun _ => rfl, fun _ => rfl⟩
    | mismatch => exact ⟨_, _, (State.facet_fault ..).trans (State.facet_postF ..), fun _ => rfl, fun _ => rfl⟩
    | selfCheck => exact ⟨_, _, (State.facet_fault ..).trans (State.facet_postF ..), fun _ => rfl, fun _ => rfl⟩
    | timeout => exact ⟨_, _, (State.facet_fault ..).trans (State.facet_postF ..), fun _ => rfl, fun _ => rfl⟩
  rw [e, State.rc_modRc]
  exact ⟨hg _, hp _⟩

theorem State.fstate_leaveHold : ((s.leaveHold p).facet p).fstate
    = if (s.facet p).qPending then .quarantined else if (s.facet p).pp.floorLatch then .tripped else .live := by
  unfold State.leaveHold
  dsimp only
  split
  · exact (State.leave_ends .quarantined).1
  · split
    · exact State.fstate_setFState .tripped
    · exact State.fstate_setFState .live

/-- Settles O25: each end is its row's operation; a facet's state after it is `leave`'s or `setFState`'s. -/
theorem reconfigurationEnds : Obligations.ReconfigurationEnds := by
  intro s hon
  exact ⟨fun u hu => event_of hon (decide_eq_true hu), fun u v hu => ⟨event_of hon (decide_eq_true hu), event_of hon (decide_eq_true hu)⟩,
    fun p v ho => ⟨event_of hon ho, fun hs => State.offApplyDone_ends ho hs⟩, fun p => State.fstate_leaveHold⟩

end Sys2Proof.Machine
end

/-! ## The power path of a port (R271 to R293) -/

section
namespace Sys2Proof.Machine

variable {p : Port} {s t : State}

theorem State.mem_self (p : Port) : p ∈ [p] := List.mem_singleton_self p

/-! ### The close sequence -/

/-- A ramp admits no port but those that await their guard. -/
theorem State.facet_admitOthers {q : Port} (hq : q = p ∨ (s.facet q).pp.sw ≠ .guardWait) : (s.admitOthers p).facet q = s.facet q := by
  unfold State.admitOthers
  dsimp only
  have step (l : List Port) (x : State) (hx : x.facet q = s.facet q) :
      (l.foldl (fun y r => if r ≠ p ∧ y.busOf r = s.busOf p ∧ (y.facet r).sinking = true ∧ (y.facet r).pp.sw = .guardWait
        then y.closeSwitch r else y) x).facet q = s.facet q := by
    induction l generalizing x with
    | nil => exact hx
    | cons r l ih =>
      refine ih _ ?_
      beta_reduce
      split
      · next h =>
        obtain ⟨hrp, -, -, hsw⟩ := h
        have hne : q ≠ r := by
          rintro rfl
          rw [hx] at hsw
          exact hq.elim hrp fun k => k hsw
        have hf : UnitFrame [r] x (x.closeSwitch r) := UnitFrame.refl.closeSwitch (State.mem_self r)
        obtain ⟨hother, -, -⟩ := hf
        exact (hother q (by simpa using hne)).trans hx
      · exact hx
  exact step _ _ rfl

/-- The guard is met: the gates ramp. -/
theorem State.guardPassed_ends : ((s.guardPassed p).facet p).pp = { (s.facet p).pp with sw := .ramping, guardOk := true, disch := .off }
    ∧ ((s.facet p).ct.prole = true → PortFrame p s (s.guardPassed p))
    ∧ ∀ q, q ≠ p → (s.facet q).pp.sw ≠ .guardWait → (s.guardPassed p).facet q = s.facet q := by
  obtain ⟨x, e, hpp, hct, hfr⟩ : ∃ x : State, s.guardPassed p = (if (x.facet p).ct.prole then x else x.admitOthers p)
      ∧ (x.facet p).pp = { (s.facet p).pp with sw := .ramping, guardOk := true, disch := .off } ∧ (x.facet p).ct = (s.facet p).ct
      ∧ PortFrame p s x := ⟨_, rfl, State.pp_modPp_same .., (PartFrame.modPp (ps := [.pp]) .refl _).ct, PortFrame.refl.modPp _⟩
  have hother := hfr.1
  rw [e]
  refine ⟨?_, fun hs => ?_, fun q hq hsw => ?_⟩
  · split
    · exact hpp
    · rw [State.facet_admitOthers (.inl rfl)]; exact hpp
  · rw [if_pos (by rw [hct]; exact hs)]
    exact hfr
  · split
    · exact hother q hq
    · rw [State.facet_admitOthers (.inr (by rw [hother q hq]; exact hsw)), hother q hq]

theorem UnitFrame.guardAbandoned (h : UnitFrame [p] s t) : UnitFrame [p] s (t.guardAbandoned p) :=
  (((h.openSwitch (State.mem_self p)).refreshDisch (State.mem_self p)).orReg _ _).fault _ _ _ _

theorem State.swCmd_guardAbandoned : ((s.guardAbandoned p).facet p).pp.swCmd = false := by
  have h : PartFrame [.disch] p (s.openSwitch p) (s.guardAbandoned p) := ((PartFrame.refl.refreshDisch).orReg _ _).fault _ _ _ _
  exact h.swCmd.trans (State.swCmd_openSwitch _ p)

/-- R274: a stall opens the switch and is kept. -/
theorem State.gateStalled_ends : ((s.gateStalled p).facet p).pp.stall = true ∧ ((s.gateStalled p).facet p).pp.swCmd = false
    ∧ UnitFrame [p] s (s.gateStalled p) := by
  have h : ((s.gateStalled p).facet p).pp = { ((s.openSwitch p).facet p).pp with stall := true } := by
    unfold State.gateStalled
    dsimp only
    rw [State.facet_fault, State.facet_postF, State.orReg, State.facet_setReg, State.pp_modPp_same]
  have hf : UnitFrame [p] s (s.gateStalled p) :=
    ((((UnitFrame.refl.openSwitch (State.mem_self p)).modPp (State.mem_self p) _).orReg _ _).postF _ _ _).fault _ _ _ _
  rw [h]
  exact ⟨rfl, State.swCmd_openSwitch _ p, hf⟩

/-- Settles O33: each row of the close sequence is its operation. -/
theorem closeSequenceRuns : Obligations.CloseSequenceRuns := by
  intro p s hon
  dsimp only
  obtain ⟨hpp, hframe, hothers⟩ := State.guardPassed_ends (s := s) (p := p)
  refine ⟨fun hg hb hf => ⟨event_of hon ?_, ?_, ?_, ?_, hframe, hothers⟩,
    fun hg => ⟨event_of hon (decide_eq_true hg), UnitFrame.refl.guardAbandoned, State.swCmd_guardAbandoned⟩,
    fun hr => ⟨event_of hon (decide_eq_true hr), event_of hon (decide_eq_true hr), ?_, ?_, PortFrame.refl.modPp _⟩,
    fun h1 h2 => event_of hon (by rw [h1, h2]; rfl), fun h1 h2 => event_of hon (by rw [h1, h2]; rfl), State.gateStalled_ends⟩
  · unfold State.guardReady
    rw [hg, hb]
    rcases hf with h | h <;> simp [h]
  · rw [hpp]
  · rw [hpp]
  · rw [hpp]
  · rw [State.pp_modPp_same]; rfl
  · rw [State.pp_modPp_same]; rfl

/-! ### Current limit, trips and retries -/

theorem PortFrame.ilimStart : PortFrame p s (s.ilimStart p) := by
  unfold State.ilimStart
  exact ((PortFrame.refl.modPp _).orReg _ _).postF _ _ _

theorem State.pp_ilimStart : ((s.ilimStart p).facet p).pp
    = { (s.facet p).pp with ilimAct := true, timing := true, ftSince := some s.cycles
                            sw := if (s.facet p).pp.sw = .closed then .regulating else (s.facet p).pp.sw } := by
  unfold State.ilimStart
  dsimp only
  rw [State.facet_postF, State.orReg, State.facet_setReg, State.pp_modPp_same]

theorem State.pp_ilimEnded : ((s.ilimEnded p).facet p).pp
    = { (s.facet p).pp with ilimAct := false, ftCount := (s.facet p).pp.ftNow s.cycles, ftSince := none
                            sw := if (s.facet p).pp.sw = .regulating then .closed else (s.facet p).pp.sw } := by
  unfold State.ilimEnded
  rw [State.facet_postF, State.pp_modPp_same]

/-- R281, R282: where the fault timer runs, it is due when it holds the effective fault time. -/
theorem State.ftNow_faultDue {mv t : Nat} (hs : (s.facet p).pp.ftSince ≠ none) (ht : s.faultDue p mv = some t) :
    (s.facet p).pp.ftNow t = max (s.facet p).pp.ftCount (s.faultTime p mv) := by
  obtain ⟨t0, h0⟩ := Option.ne_none_iff_exists'.mp hs
  simp only [State.faultDue, h0, Option.some.injEq] at ht
  simp only [Pp.ftNow, h0]
  omega

theorem UnitFrame.timerTrip (drop : Nat) (h : UnitFrame [p] s t) : UnitFrame [p] s (t.timerTrip p drop) := by
  unfold State.timerTrip
  dsimp only
  split
  · exact ((h.trip (State.mem_self p) _).modPp (State.mem_self p) _).fault _ _ _ _
  · exact ((h.trip (State.mem_self p) _).modPp (State.mem_self p) _).fault _ _ _ _

theorem State.tripCause_timerTrip (drop : Nat) :
    ((s.timerTrip p drop).facet p).pp.tripCause = if s.soaRules p (20 * drop) then 2 else 1 := by
  obtain ⟨-, d, g, hpp⟩ := State.trip_ends (s := s) p (if s.soaRules p (20 * drop) then 2 else 1)
  unfold State.timerTrip
  dsimp only
  rw [apply_ite (State.facet · p), State.facet_fault, State.facet_fault, ite_self, State.pp_modPp_same, hpp]
  dsimp only
  split <;> rfl

theorem State.listed_modPp (g : Pp → Pp) (c : Nat) : (s.modPp p g).listed ((s.modPp p g).busOf p) c = s.listed (s.busOf p) c := by
  have hh : (s.modPp p g).hub = s.hub := by cases p <;> rfl
  have hr : (s.modPp p g).regs = s.regs := by cases p <;> rfl
  have hb : (s.modPp p g).busOf p = s.busOf p := by
    unfold State.busOf State.bit State.reg
    rw [hr]
  unfold State.listed State.feed
  rw [hh, hb]

theorem State.swCmd_closeSwitch_eq : ((s.closeSwitch p).facet p).pp.swCmd
    = ((s.facet p).ct.prole || s.listed (s.busOf p) (portNo p + 1)) := by
  by_cases h : (s.facet p).ct.prole = true ∨ s.listed (s.busOf p) (portNo p + 1) = true
  · rw [State.swCmd_closeSwitch h]
    simpa using h
  · rw [not_or, Bool.not_eq_true, Bool.not_eq_true] at h
    obtain ⟨h1, h2⟩ := h
    unfold State.closeSwitch
    dsimp only
    rw [h1, h2, if_pos (by rfl), State.pp_modPp_same]
    rfl

theorem State.reclose_ends : ((s.reclose p).facet p).fstate = .live ∧ UnitFrame [p] s (s.reclose p)
    ∧ ((s.reclose p).facet p).pp.swCmd = ((s.facet p).ct.prole || s.listed (s.busOf p) (portNo p + 1)) := by
  obtain ⟨g, e⟩ : ∃ g : Pp → Pp, s.reclose p = (((s.modPp p g).closeSwitch p).setFState p .live).count (fx p 0x146) 16 16 := ⟨_, rfl⟩
  have hc : PartFrame [.fstate] p ((s.modPp p g).closeSwitch p) (s.reclose p) := by
    rw [e]
    exact (PartFrame.refl.setFState _).count _ _ _
  refine ⟨?_, ?_, hc.swCmd.trans ?_⟩
  · rw [e, State.facet_count, State.fstate_setFState]
  · rw [e]
    exact (((UnitFrame.refl.modPp (State.mem_self p) _).closeSwitch (State.mem_self p)).setFState (State.mem_self p) _).count _ _ _
  · rw [State.swCmd_closeSwitch_eq, State.listed_modPp, (PartFrame.modPp (ps := [.pp]) .refl g).ct]

/-- Settles O34: each row of the current limit, the trips and the retries is its operation. -/
theorem currentLimitTripsAndRetries : Obligations.CurrentLimitTripsAndRetries := by
  intro p s hon
  dsimp only
  refine ⟨fun h1 h2 h3 => ⟨event_of hon (by rw [h1, h2]; rfl) |>.trans ?enter, ?_, ?_, ?_, .ilimStart⟩, fun h1 h2 _ => event_of hon (by rw [h1, h2]; rfl),
    fun h => ⟨event_of hon h, ?_, ?_, ?_, ?_, (PortFrame.refl.modPp _).postF _ _ _⟩, fun h1 h2 => event_of hon (by rw [h1, h2]; rfl),
    fun drop t h1 h2 ht hin => ⟨?expiry, fun hs => State.ftNow_faultDue hs ht, UnitFrame.refl.timerTrip drop, State.tripCause_timerTrip drop⟩,
    fun h1 h2 hin => event_of hon ?_, State.reclose_ends, fun h1 h2 => event_of hon (by rw [h1, h2]; rfl), fun hl cause hc => ?trip⟩
  case enter => rw [State.ilimEntered, if_neg h3]
  case expiry =>
    have hmay : s.faultMay p drop = true := by
      unfold State.faultMay State.inTick
      rw [h1, h2, ht]
      simpa using hin
    change execFaultTimerExpiry p drop s = _
    unfold execFaultTimerExpiry
    rw [ht]
    exact event_of hon hmay
  case trip =>
    obtain ⟨hst, d, g, hpp⟩ := State.trip_ends (s := s) p cause
    rw [hst, hpp, if_pos hl]
    refine ⟨rfl, rfl, ?_, UnitFrame.refl.trip (State.mem_self p) _⟩
    dsimp only
    split <;> rfl
  case refine_1 => rw [State.pp_ilimStart]
  case refine_2 => rw [State.pp_ilimStart]
  case refine_3 => rw [State.pp_ilimStart]
  case refine_4 => rw [State.pp_ilimEnded]
  case refine_5 => rw [State.pp_ilimEnded]
  case refine_6 => rw [State.pp_ilimEnded]
  case refine_7 => rw [State.pp_ilimEnded]
  case refine_8 =>
    rw [decide_eq_true h1, decide_eq_true h2]
    unfold State.inTick
    simpa using hin

/-! ### Power-good, leaks, the discharge, reverse blocking and the bus -/

theorem PortFrame.pgUp (h : PortFrame p s t) : PortFrame p s (t.pgUp p) := by
  unfold State.pgUp
  split
  · exact h
  · exact ((h.modPp _).orReg _ _).postF _ _ _

theorem PortFrame.pgAsserted (h : PortFrame p s t) : PortFrame p s (t.pgAsserted p) := by
  unfold State.pgAsserted
  dsimp only
  have hv : PortFrame p s (if ((t.pgUp p).facet p).pd.hrPhase = 3 then ((t.pgUp p).modPd p fun d => { d with hrPhase := 0 }).refreshVconn p
      else t.pgUp p) := by
    split
    · exact (h.pgUp.modPd _).refreshVconn
    · exact h.pgUp
  split
  · exact (hv.setSeq _).send _
  · exact hv

theorem State.pg_pgUp : ((s.pgUp p).facet p).pp.pg = true := by
  unfold State.pgUp
  split
  · next h => exact h
  · rw [State.facet_postF, State.orReg, State.facet_setReg, State.pp_modPp_same]

theorem State.pg_pgDown : ((s.pgDown p).facet p).pp.pg = false := by
  unfold State.pgDown
  split
  · rw [State.facet_postF, State.orReg, State.facet_setReg, State.pp_modPp_same]
  · next h => simpa using h

/-- R290, R291: what a leak sets. -/
theorem State.leaked_ends (k : LeakKind) : UnitFrame [p] s (s.leaked p k) ∧ ((s.leaked p k).facet p).pp.leak = true
    ∧ ((s.leaked p k).facet p).pp.selOpen = true ∧ ((s.leaked p k).facet p).pp.leakNow = some k := by
  have h : ((s.leaked p k).facet p).pp = { (s.facet p).pp with leak := true, leakNow := some k, selOpen := true } := by
    unfold State.leaked
    dsimp only
    rw [State.facet_fault, State.facet_postF, State.orReg, State.facet_setReg, State.pp_modPp_same]
  have hf : UnitFrame [p] s (s.leaked p k) := (((UnitFrame.refl.modPp (State.mem_self p) _).orReg _ _).postF _ _ _).fault _ _ _ _
  rw [h]
  exact ⟨hf, rfl, rfl, rfl⟩

theorem State.revblk_reverseBlocked : ((s.reverseBlocked p).facet p).pp.revblk = true := by
  unfold State.reverseBlocked
  rw [State.orReg, State.facet_setReg, State.pp_modPp_same]

/-- Settles O35: each row of the power path is its operation. -/
theorem powerPathEventsAct : Obligations.PowerPathEventsAct := by
  intro p s hon
  dsimp only
  refine ⟨fun hh ht mv => ⟨fun h1 h2 hw => ⟨event_of hon ?pg, State.pg_pgUp, PortFrame.refl.pgAsserted⟩,
      fun h1 hw => ⟨event_of hon ?exit, State.pg_pgDown, PortFrame.refl.pgDown⟩⟩,
    State.leaked_ends, fun h => event_of hon (by rw [State.mayLeak, h]; rfl), fun h1 h2 h3 => event_of hon ?leak,
    fun h1 h2 => event_of hon (by rw [decide_eq_true h1, decide_eq_true h2]; rfl),
    fun h1 h2 h3 => ⟨event_of hon (by rw [Facet.sinking, h1, h2, h3]; rfl), State.revblk_reverseBlocked, (PortFrame.refl.modPp _).orReg _ _⟩,
    fun h => event_of hon h, fun m b => powered_of_on s _ hon⟩
  case pg => rw [State.pgMay, decide_eq_true hh, ht, h1, h2, hw]; rfl
  case exit => rw [State.pgMay, decide_eq_true hh, ht, h1, hw]; rfl
  case leak => rw [State.mayLeak, h1, h2, decide_eq_true h3]; rfl

end Sys2Proof.Machine
end

/-! ## The CC pins (R160 to R198) and a hold (R125) -/

section
namespace Sys2Proof.Machine

variable {p : Port} {s t : State}

theorem State.ccTimer_free {x : CcTimer} (h : (s.facet p).fstate ≠ .held) : s.ccTimer p x = s.ccTimerNow p x := if_neg h

theorem State.debounces_of {b : Bool} (hm : s.ccMuted p = false) (hb : b = true) : s.debounces p b = true := by
  rw [State.debounces, hm, hb]; rfl

theorem State.debounces_muted (hm : s.ccMuted p = true) (b : Bool) : s.debounces p b = false := by
  rw [State.debounces, hm, Bool.not_true, Bool.and_false]

/-- R187: a VCONN overcurrent turns VCONN off and latches. -/
theorem State.vconnTrip_ends (i : Nat) : ((s.vconnTrip p i).facet p).cc.vconnOn = false ∧ ((s.vconnTrip p i).facet p).cc.vconnOc = true
    ∧ UnitFrame [p] s (s.vconnTrip p i) := by
  have h : ((s.vconnTrip p i).facet p).cc = { (s.facet p).cc with vconnOn := false, vconnOc := true } := by
    unfold State.vconnTrip
    rw [State.facet_fault, State.orReg, State.facet_setReg, State.modCc, State.modF_cc]
  have hf : UnitFrame [p] s (s.vconnTrip p i) := ((UnitFrame.refl.modCc (State.mem_self p) _).orReg _ _).fault _ _ _ _
  rw [h]
  exact ⟨rfl, rfl, hf⟩

/-- Settles O39: each row of the CC pins is its operation, and the debounces stand still while the comparators are not heard. -/
theorem ccRowsAct : Obligations.CcRowsAct := by
  intro p s hon
  dsimp only
  have hp := State.mem_self p
  refine ⟨fun hm => ⟨fun v hv => event_of hon (by rw [decide_eq_true hm, hv]; rfl), fun below => event_of hon (decide_eq_true hm)⟩,
    fun hm => ⟨fun h => event_of hon (State.debounces_of hm h), fun h => event_of hon (State.debounces_of hm ?pd),
      fun h => event_of hon (State.debounces_of hm h), fun h => event_of hon (State.debounces_of hm h)⟩,
    fun hm i hi => ?muted, fun htc hd => event_of hon ?try', fun htc => event_of hon (decide_eq_true htc),
    fun hd htc => event_of hon ?drp, fun htc => ⟨event_of hon (decide_eq_true htc), fun hh => ?recovery⟩,
    fun hv htc => event_of hon (by rw [hv, decide_eq_true htc]; rfl), fun m l => powered_of_on s _ hon,
    fun pin => ⟨event_of hon rfl, event_of hon rfl⟩, fun hv i => ⟨event_of hon hv, State.vconnTrip_ends i⟩,
    fun t x v below => ⟨UnitFrame.refl.ccTimer hp t, PortFrame.refl.enterTc x, PortFrame.refl.ccLevels v, UnitFrame.refl.vbusCross hp below⟩⟩
  case pd =>
    rw [Facet.ovAttached]
    simpa using h
  case muted =>
    simp only [List.mem_cons, List.not_mem_nil, or_false] at hi
    rcases hi with rfl | rfl | rfl | rfl <;> exact event_not (State.debounces_muted hm _)
  case try' =>
    rw [hd]
    rcases htc with e | e | e <;> rw [e] <;> rfl
  case drp =>
    rw [hd]
    rcases htc with e | e <;> rw [e] <;> rfl
  case recovery =>
    rw [State.ccTimer_free hh]
    exact if_pos htc

/-! ### In a hold -/

theorem State.ccTimer_held_drp (h : (s.facet p).fstate = .held) : s.ccTimer p .drpPhase = s := by
  rw [State.ccTimer, if_pos h, if_pos rfl]

theorem State.ccTimer_held_ov (h : (s.facet p).fstate = .held) (hd : (s.facet p).cc.pdDeb = false) :
    s.ccTimer p .pdDebounce = s.ovLasts p := by
  rw [State.ccTimer, if_pos h, if_neg (by decide), if_pos ⟨rfl, hd⟩]

theorem State.ccTimer_held_late {x : CcTimer} (h : (s.facet p).fstate = .held) (h1 : x ≠ .drpPhase)
    (h2 : x = .pdDebounce → (s.facet p).cc.pdDeb = true) : s.ccTimer p x = s.modRc p fun r => { r with late := r.late ++ [x] } := by
  rw [State.ccTimer, if_pos h, if_neg h1, if_neg]
  rintro ⟨e, hd⟩
  rw [h2 e] at hd
  exact absurd hd (by decide)

/-- Settles O40: what runs out in a hold is noted or waits for the release. -/
theorem holdFreezesCc : Obligations.HoldFreezesCc := by
  intro p t s hh
  refine ⟨fun ht => ?drp, fun ht hd => ?ov, fun h1 h2 => ?late⟩
  case drp =>
    subst ht
    exact State.ccTimer_held_drp hh
  case ov =>
    subst ht
    rw [State.ccTimer_held_ov hh hd]
    unfold State.ovLasts
    dsimp only
    by_cases ho : (s.facet p).ovAttached = true
    · have hc : ((s.facet p).cc.ov1 || (s.facet p).cc.ov2) = true ∧ (s.facet p).cc.attached = true := by
        simpa [Facet.ovAttached] using ho
      rw [if_pos (by rw [hc.1, hc.2, hd]; rfl), ho]
      refine ⟨?_, fun q hq => State.facet_modF_ne _ _ _ _ hq⟩
      rw [State.modCc, State.facet_modF, if_pos (by rfl), Bool.or_true]
    · rw [if_neg (by rw [← Facet.ovAttached, hd]; simpa using ho), Bool.eq_false_iff.mpr ho, Bool.or_false]
      exact ⟨rfl, fun _ _ => rfl⟩
  case late =>
    rw [State.ccTimer_held_late hh h1 h2]
    have h : PartFrame [.rc] p s (s.modRc p fun r => { r with late := r.late ++ [t] }) := PartFrame.refl.modRc _
    exact ⟨congrArg Rcfg.late (State.modF_rc _ _ _), h.cc, h.pp, fun q hq => State.facet_modF_ne _ _ _ _ hq⟩

end Sys2Proof.Machine
end

/-! ## The keeper of a hold (R127) -/

section
namespace Sys2Proof.Machine

variable {p : Port} {s : State} {m : PdMsg}

theorem State.keeper_other (h : m.sop ≠ .sop) : s.keeper p m = s := if_pos h

theorem State.keeper_request (h : m.sop = .sop) (hk : rxKind m = .request) :
    s.keeper p m = (if (s.facet p).pd.seq = .srcOffer then s.endSeq p else s).send p (mkCtl .sop 0x0C) := by
  rw [State.keeper, if_neg (not_not.mpr h), hk]

theorem State.keeper_softReset (h : m.sop = .sop) (hk : rxKind m = .softReset) :
    s.keeper p m = s.modRc p fun r => { r with deferred := some m } := by
  rw [State.keeper, if_neg (not_not.mpr h), hk]

/-- A message in place of the one deferred, but for a Soft_Reset. -/
def deferredAfter (m : PdMsg) (old : Option PdMsg) : Option PdMsg :=
  match old with
  | some x => if rxKind x = .softReset then some x else some m
  | none => some m

theorem State.keeper_else (h : m.sop = .sop) (h1 : rxKind m ≠ .request) (h2 : rxKind m ≠ .softReset) : s.keeper p m
    = if needsAnswer m then s.modRc p fun r => { r with deferred := deferredAfter m r.deferred } else s := by
  rw [State.keeper, if_neg (not_not.mpr h)]
  split
  · next e => exact absurd e h1
  · next e => exact absurd e h2
  · rfl

/-- The keeper touches neither the switch nor the contract. -/
theorem PartFrame.keeper : PartFrame [.cc, .pd, .rc] p s (s.keeper p m) := by
  unfold State.keeper
  refine PartFrame.refl.ite ?_
  split
  · exact (PartFrame.refl.endSeq.ite .refl).send _
  · exact PartFrame.refl.modRc _
  · exact (PartFrame.refl.modRc _).ite .refl

/-- Settles O42: what the keeper does, kind by kind. -/
theorem keeperAnswersInAHold : Obligations.KeeperAnswersInAHold := by
  intro p m s
  have hk : PartFrame [.cc, .pd, .rc] p s (s.keeper p m) := .keeper
  refine ⟨fun h => State.keeper_other h, PortFrame.refl.keeper m, fun h => ⟨fun hr => State.keeper_request h hr, fun hr => ?soft,
    fun h1 h2 ha => ?deferred, fun h1 h2 ha => ?nothing, hk.pp, hk.ct, hk.fstate⟩⟩
  case soft =>
    rw [State.keeper_softReset h hr]
    exact congrArg Rcfg.deferred (State.modF_rc _ _ _)
  case deferred =>
    have e : ((s.keeper p m).facet p).rc.deferred = deferredAfter m (s.facet p).rc.deferred := by
      rw [State.keeper_else h h1 h2, if_pos ha]
      exact congrArg Rcfg.deferred (State.modF_rc _ _ _)
    rw [e]
    refine ⟨fun x hx hs => ?_, fun hn => ?_, fun x hx hs => ?_⟩
    · rw [hx]; exact if_pos hs
    · rw [hn]; rfl
    · rw [hx]; exact if_neg hs
  case nothing =>
    rw [State.keeper_else h h1 h2, if_neg (by rw [ha]; decide)]

/-! ## A received message (R202 to R231) -/

theorem State.receives_iff {sp : Sop} : s.receives p sp = true ↔ (s.facet p).cc.attached = true ∧ (s.facet p).pd.pdEn = true
    ∧ (s.facet p).pd.mute = false ∧ (s.facet p).pd.hrSending = false ∧ (s.facet p).isolated = false
    ∧ (sp = .sop ∨ ((s.facet p).ct.vconnSrc = true ∧ s.bit (fx p 0x080) 1 = true)) := by
  simp [State.receives, and_assoc]

theorem State.rx_deaf (h : s.receives p m.sop = false) : s.rx p m = s := by
  rw [State.rx, State.rxWith, h]; rfl

theorem State.rx_reserved (h : s.receives p m.sop = true) (hr : m.rev = 0) :
    s.rx p m = (s.hush p).modPd p fun d => { d with goodCrc := some (m.sop, m.id) } := by
  rw [State.rx, State.rxWith, h]
  exact if_pos hr

/-- A message received is noted, what waited on its ordered set is discarded, and a duplicate goes no further. -/
theorem State.rx_noted (h : s.receives p m.sop = true) (hr : m.rev ≠ 0) : s.rx p m
    = (let n := ((s.hush p).noteMsg p m).discardQueued p m.sop
      if (n.facet p).pd.repeats m.sop m.id && decide (rxKind m ≠ .softReset) then n
      else if (n.facet p).pd.bistData && decide (m.sop = .sop) then n
      else
        let fresh := n.modPd p fun d => { d with rxId := d.rxId.set m.sop m.id, rxSeen := d.rxSeen.set m.sop true }
        ((if (fresh.facet p).fstate = .held then fresh.keeper p m else fresh.handleMsg p m).modPd p
          fun d => { d with fwDue := none, fwAsk := false }).idleTx p) := by
  rw [State.rx, State.rxWith, h]
  exact if_neg hr

theorem PartFrame.hush : PartFrame [.cc] p s (s.hush p) := PartFrame.refl.modCc _
theorem PartFrame.noteMsg {ps : List Part} {t : State} (h : PartFrame ps p s t) (hin : .pd ∈ ps := by decide) :
    PartFrame ps p s (t.noteMsg p m) := h.modPd _ hin

theorem PortFrame.noted : PortFrame p s ((s.hush p).noteMsg p m) := by
  unfold State.hush State.noteMsg
  exact (PortFrame.refl.modCc _).modPd _

/-- Nothing is left waiting on an ordered set whose messages were discarded (R202). -/
theorem State.queue_discardQueued {sp : Sop} : ∀ x ∈ ((s.discardQueued p sp).facet p).pd.queue, x.sop ≠ sp := by
  unfold State.discardQueued
  dsimp only
  split
  · rw [State.orReg, State.facet_setReg, State.modPd, State.modF_pd]
    intro x hx
    simpa using (List.mem_filter.mp hx).2
  · next h => simpa using h

/-- Settles O41: a received message's row is `rx`, which the branches of `rxWith` give case by case. -/
theorem receivedMessagesAreHandled : Obligations.ReceivedMessagesAreHandled := by
  intro p m s
  refine ⟨fun hon => ⟨fun row hrow => ?row, fun ra => event_of hon rfl⟩, State.receives_iff, State.rx_deaf, State.rx_reserved, fun h hr => ?noted⟩
  case row =>
    simp only [IsRxRow, List.mem_cons, List.not_mem_nil, or_false] at hrow
    rcases hrow with rfl | rfl | rfl | rfl | rfl | rfl | rfl | rfl | rfl | rfl | rfl | rfl | rfl | rfl | rfl | rfl | rfl | rfl | rfl | rfl
      | rfl | rfl | rfl | rfl | rfl | rfl | rfl | rfl <;> exact event_of hon rfl
  case noted =>
    intro noted n known testing fresh
    have hrx : s.rx p m = if (n.facet p).pd.repeats m.sop m.id && decide (rxKind m ≠ .softReset) then n
        else if (n.facet p).pd.bistData && decide (m.sop = .sop) then n
        else ((if (fresh.facet p).fstate = .held then fresh.keeper p m else fresh.handleMsg p m).modPd p
          fun d => { d with fwDue := none, fwAsk := false }).idleTx p := State.rx_noted h hr
    have hhush : ((s.hush p).facet p).pd = (s.facet p).pd := PartFrame.hush.pd
    have hpd : (noted.facet p).pd = { (s.facet p).pd with
        goodCrc := some (m.sop, m.id), hrCount := 0, noResp := none
        partner := (s.facet p).pd.partner || decide (m.sop = .sop)
        rev := if m.sop ≠ .sop then (s.facet p).pd.rev else if m.rev = 1 ∨ (s.facet p).pd.rev = 1 then 1 else 2 } := by
      rw [← hhush]
      exact State.modF_pd _ _ _
    have hfr : PartFrame [.cc, .pd] p s noted := PartFrame.hush.mono.noteMsg
    have hfresh : (fresh.facet p).pd = { (n.facet p).pd with rxId := (n.facet p).pd.rxId.set m.sop m.id
                                                             rxSeen := (n.facet p).pd.rxSeen.set m.sop true } := State.modF_pd _ _ _
    have iknown : ((n.facet p).pd.repeats m.sop m.id && decide (rxKind m ≠ .softReset)) = true ↔ known := by
      rw [Bool.and_eq_true, decide_eq_true_iff]
    have itesting : ((n.facet p).pd.bistData && decide (m.sop = .sop)) = true ↔ testing := by
      rw [Bool.and_eq_true, decide_eq_true_iff]
    refine ⟨by rw [hpd], by rw [hpd], by rw [hpd], .noted, by rw [hpd], hfr.ct, hfr.pp, State.queue_discardQueued, fun hk => ?_, fun hk ht => ⟨?_, ?_⟩⟩
    · rw [hrx]
      by_cases hknown : known
      · exact if_pos (iknown.mpr hknown)
      · rw [if_neg (iknown.not.mpr hknown)]
        exact if_pos (itesting.mpr (hk.resolve_left hknown))
    · rw [hfresh]
      cases m.sop <;> rfl
    · rw [hrx, if_neg (iknown.not.mpr hk), if_neg (itesting.not.mpr ht)]

end Sys2Proof.Machine
end

/-! ## Transmission, Hard Reset and the protocol timers (R201 to R266) -/

section
namespace Sys2Proof.Machine

variable {p : Port} {s : State}

/-! ### Transmission -/

/-- R207: a message without GoodCRC is sent again while resends are left. -/
theorem State.noGoodCrc_again {m : TxMsg} (h : m.resends < (s.facet p).retries) :
    ((s.noGoodCrc p m).facet p).pd = { (s.facet p).pd with inFlight := some { m with resends := m.resends + 1 } } := by
  rw [State.noGoodCrc, if_pos h, State.facet_count, State.modPd, State.modF_pd]

/-- Settles O43: each row of a transmission is its operation. -/
theorem pdTransmissionProceeds : Obligations.PdTransmissionProceeds := by
  intro p s hon
  dsimp only
  refine ⟨fun m hm => ⟨fun hi hs => ?ack, fun sp id hno => ?other, ?timeout, fun hr => ?again⟩,
    fun h1 h2 h3 => event_of hon (by rw [h1, h2, h3]; rfl), fun m v => powered_of_on s _ hon,
    fun m => ⟨powered_of_on s _ hon, ?_, PortFrame.refl.modPd _⟩, fun h => ⟨_, event_of hon h, ?_, (PortFrame.refl.modPd _).orReg _ _⟩,
    fun h => event_of hon (by simpa using h), fun h => event_of hon h⟩
  case ack =>
    change execGoodcrcReceived p m.sop m.id s = _
    unfold execGoodcrcReceived
    rw [hm]
    exact event_of hon (by rw [decide_eq_true rfl, decide_eq_true rfl, hi, hs]; rfl)
  case other =>
    change execGoodcrcReceived p sp id s = _
    unfold execGoodcrcReceived
    rw [hm]
    refine event_not ?_
    rcases hno with h | h | h | h
    · rw [decide_eq_false h]; rfl
    · rw [decide_eq_false h, Bool.and_false]; rfl
    · rw [h, Bool.not_true, Bool.and_false, Bool.false_and]
    · rw [h, Bool.not_true, Bool.and_false]
  case timeout =>
    change execGoodcrcTimeout p s = _
    unfold execGoodcrcTimeout
    rw [hm]
    exact event_of hon rfl
  case again =>
    have hret : m.resends < (s.facet p).retries := hr
    rw [State.noGoodCrc_again hret]
    exact ⟨rfl, rfl⟩
  case refine_1 => exact congrArg Pd.rxFull (State.modF_pd _ _ _)
  case refine_2 =>
    rw [State.orReg, State.facet_setReg]
    exact congrArg Pd.fwAwait (State.modF_pd _ _ _)

/-! ### Hard Reset -/

theorem State.hrOff_ends : ((s.hrOff p).facet p).pd.hrPhase = 2 ∧ ((s.hrOff p).facet p).pp.swCmd = false := by
  have h : PartFrame [.cc] p ((s.openSwitch p).modPd p fun d => { d with hrPhase := 2 }) (s.hrOff p) := PartFrame.refl.refreshVconn
  have k : PartFrame [.pd] p (s.openSwitch p) ((s.openSwitch p).modPd p fun d => { d with hrPhase := 2 }) := PartFrame.refl.modPd _
  exact ⟨(congrArg Pd.hrPhase h.pd).trans (congrArg Pd.hrPhase (State.modF_pd _ _ _)), h.swCmd.trans (k.swCmd.trans (State.swCmd_openSwitch _ p))⟩

theorem State.hrSink_hrGraceEnd (h : s.vbusOk.get p = true) : ((s.hrGraceEnd p).facet p).pd.hrSink = false := by
  have hv : (s.modPd p fun d => { d with hrSink := false }).vbusOk.get p = true := by
    obtain ⟨-, e⟩ := PortFrame.refl (p := p) (s := s) |>.modPd fun d => { d with hrSink := false }
    rw [e]
    exact h
  unfold State.hrGraceEnd
  dsimp only
  rw [if_pos hv]
  exact congrArg Pd.hrSink (State.modF_pd _ _ _)

/-- Settles O44: each row of a Hard Reset is its operation. -/
theorem hardResetProceeds : Obligations.HardResetProceeds := by
  intro p s hon
  dsimp only
  refine ⟨fun ha hi => ⟨fun h => event_of hon (by rw [ha, h, hi]; rfl), fun hh => ?_, fun hh => ?_⟩,
    fun h => ⟨event_of hon h, ?frame⟩, fun h => ⟨event_of hon (decide_eq_true h), State.hrOff_ends⟩,
    fun h => ⟨event_of hon (decide_eq_true h), event_of hon (decide_eq_true h)⟩, fun h => ⟨event_of hon h, State.hrSink_hrGraceEnd⟩,
    fun h => ?_⟩
  case frame => exact UnitFrame.refl.hardResetEnd (State.mem_self p) _ _
  · change execFrSwapSignal p s = _
    unfold execFrSwapSignal
    rw [if_neg hh]
    exact event_of hon (by rw [ha, hi]; rfl)
  · change execFrSwapSignal p s = _
    unfold execFrSwapSignal
    rw [if_pos hh]
    exact event_of hon (by rw [ha, hi]; rfl)
  · rw [State.onFrSignal, h]
    rfl

/-! ### The timers -/

/-- Settles O45: each timer's row is its operation, in the sequence in which it runs. -/
theorem pdTimersAct : Obligations.PdTimersAct := by
  intro p s hon
  dsimp only
  refine ⟨fun h => ?softReset, fun h hc => ?cableReset, fun h => event_of hon h, fun h => event_of hon h,
    fun h => ⟨?select, fun hb => if_pos hb⟩, fun r => ⟨fun h => ?retry, fun h => ?accepted, fun h => ?start, fun h => ⟨fun mv hs => ?settled, ?limit⟩⟩,
    fun h1 h2 h3 => event_of hon (by rw [h1, h2, h3]; rfl), fun he => ⟨fun h => event_of hon (by rw [h, he]; rfl), fun h => event_of hon (by rw [h, he]; rfl)⟩,
    fun h => event_of hon h, fun h1 h2 h3 => event_of hon (by rw [h1, h2, decide_eq_true h3]; rfl),
    fun h => event_of hon (decide_eq_true h), fun h => event_of hon (decide_eq_true h), fun h => event_of hon ?swap,
    fun h => event_of hon (decide_eq_true h), fun h => event_of hon ?frs⟩
  case softReset =>
    change execSoftResetAcceptTimeout p s = _
    unfold execSoftResetAcceptTimeout
    rw [if_pos h]
    exact event_of hon rfl
  case cableReset =>
    change execSoftResetAcceptTimeout p s = _
    unfold execSoftResetAcceptTimeout
    rw [if_neg h]
    exact event_of hon hc
  case select =>
    change execSnkSelTimeout p s = _
    unfold execSnkSelTimeout
    rw [h]
    exact event_of hon rfl
  case retry =>
    change execSinkRequestRetry p s = _
    unfold execSinkRequestRetry
    rw [h]
    exact event_of hon rfl
  case accepted =>
    change execPsTransitionTimeout p s = _
    unfold execPsTransitionTimeout
    rw [h]
    exact event_of hon rfl
  case start =>
    change execSrcTransitionStart p s = _
    unfold execSrcTransitionStart
    rw [h]
    exact event_of hon rfl
  case settled =>
    change execTransitionSettled p mv s = _
    unfold execTransitionSettled
    rw [h]
    exact event_of hon hs
  case limit =>
    change execTransitionTimeLimit p s = _
    unfold execTransitionTimeLimit
    rw [h]
    exact event_of hon rfl
  case swap => rcases h with h | h <;> rw [h] <;> rfl
  case frs => rcases h with h | h <;> rw [h] <;> rfl

end Sys2Proof.Machine
end

/-! ## The USB PD opcodes of a facet (R229 to R266) -/

section
namespace Sys2Proof.Machine

variable {p : Port} {s t : State} {e : Byte} {src : Src}

/-! ### What sending keeps -/

/-- Of the protocol layer, only what a transmission moves differs. -/
def TxOnly (d d' : Pd) : Prop := ∃ q i n w x, d' = { d with queue := q, inFlight := i, txNg := n, txWait := w, txStat := x }

theorem TxOnly.refl (d : Pd) : TxOnly d d := ⟨_, _, _, _, _, rfl⟩
theorem TxOnly.trans {a b c : Pd} (h : TxOnly a b) (k : TxOnly b c) : TxOnly a c := by
  obtain ⟨_, _, _, _, _, rfl⟩ := h
  obtain ⟨_, _, _, _, _, rfl⟩ := k
  exact ⟨_, _, _, _, _, rfl⟩

theorem State.txOnly_modPd {g : Pd → Pd} (hg : ∀ d, TxOnly d (g d)) : TxOnly (s.facet p).pd ((s.modPd p g).facet p).pd := by
  rw [State.modPd, State.modF_pd]
  exact hg _

theorem State.txOnly_fwFailed (m : TxMsg) : TxOnly (s.facet p).pd ((s.fwFailed p m).facet p).pd := by
  unfold State.fwFailed
  split
  · exact State.txOnly_modPd fun d => ⟨_, _, _, _, _, rfl⟩
  · exact .refl _

theorem State.txOnly_turnNg : TxOnly (s.facet p).pd ((s.turnNg p).facet p).pd := by
  unfold State.turnNg
  split
  · rw [(PartFrame.refreshRp (ps := [.cc]) .refl).pd]
    exact State.txOnly_modPd fun d => ⟨_, _, _, _, _, rfl⟩
  · exact .refl _

theorem State.txOnly_pump : TxOnly (s.facet p).pd ((s.pump p).facet p).pd := by
  unfold State.pump
  dsimp only
  split
  · exact State.txOnly_turnNg.trans (State.txOnly_modPd fun d => ⟨_, _, _, _, _, rfl⟩)
  · exact State.txOnly_turnNg

/-- Sending a message moves nothing of the protocol layer but the transmission. -/
theorem State.txOnly_send (m : TxMsg) : TxOnly (s.facet p).pd ((s.send p m).facet p).pd := by
  unfold State.send
  dsimp only
  split
  · exact State.txOnly_fwFailed m
  · exact (State.txOnly_modPd fun d => ⟨_, _, _, _, _, rfl⟩).trans State.txOnly_pump

theorem TxOnly.seq {d d' : Pd} (h : TxOnly d d') : d'.seq = d.seq := by obtain ⟨_, _, _, _, _, rfl⟩ := h; rfl
theorem TxOnly.srCable {d d' : Pd} (h : TxOnly d d') : d'.srCable = d.srCable := by obtain ⟨_, _, _, _, _, rfl⟩ := h; rfl

theorem State.seq_setSeq (q : Seq) : ((s.setSeq p q).facet p).pd.seq = q := congrArg Pd.seq (State.modF_pd _ _ _)

/-- A sequence that begins with a message waits as it was set. -/
theorem State.seq_send_setSeq (q : Seq) (m : TxMsg) : (((s.setSeq p q).send p m).facet p).pd.seq = q :=
  (State.txOnly_send m).seq.trans (State.seq_setSeq q)

/-! ### The opcodes -/

/-- R222: a Hard Reset that is sent, and a sink's switch open. -/
theorem State.orderHardReset_ends (ha : (s.facet p).cc.attached = true) (hp : (s.facet p).pd.pdEn = true) (hm : (s.facet p).pd.mute = false)
    (hs : (s.facet p).pd.hrSending = false) (hc : (s.facet p).pd.hrCount ≠ 3) :
    ((s.orderHardReset p 0).facet p).pd.hrSending = true
      ∧ ((s.facet p).ct.prole = false → ((s.orderHardReset p 0).facet p).pp.swCmd = false) := by
  obtain ⟨x, e⟩ : ∃ x : State, s.orderHardReset p 0 = (if (s.facet p).ct.prole then x.modPd p fun d => { d with hrSending := true }
      else (((x.modPd p fun d => { d with hrSending := true }).feedGone p).openSwitch p).modPd p fun d => { d with hrSink := true }) := by
    refine ⟨s.cutTx p, ?_⟩
    unfold State.orderHardReset
    dsimp only
    rw [ha, hp, hm, hs, decide_eq_false hc]
    rfl
  have hsend : (((x.modPd p fun d => { d with hrSending := true }).facet p).pd).hrSending = true :=
    congrArg Pd.hrSending (State.modF_pd _ _ _)
  rw [e]
  cases hr : (s.facet p).ct.prole with
  | true => exact ⟨hsend, fun h => absurd h (by decide)⟩
  | false =>
    rw [if_neg (by decide)]
    generalize hy : (x.modPd p fun d => { d with hrSending := true }) = y at hsend
    have hopen : PartFrame [.pp] p y ((y.feedGone p).openSwitch p) := (PartFrame.refl.feedGone p).openSwitch
    have hlast : PartFrame [.pd] p ((y.feedGone p).openSwitch p) (((y.feedGone p).openSwitch p).modPd p fun d => { d with hrSink := true }) :=
      PartFrame.refl.modPd _
    refine ⟨(congrArg Pd.hrSending (State.modF_pd _ _ _)).trans ?_, fun _ => hlast.swCmd.trans (State.swCmd_openSwitch _ p)⟩
    exact (congrArg Pd.hrSending hopen.pd).trans hsend

/-- R219: a Soft_Reset on SOP is a sequence; on a cable it is noted beside the sequence that runs. -/
theorem State.sendSoftReset_ends {sp : Sop} : (sp = .sop → ((s.sendSoftReset p sp).facet p).pd.seq = .softReset)
    ∧ (sp ≠ .sop → ((s.sendSoftReset p sp).facet p).pd.srCable = some sp ∧ ((s.sendSoftReset p sp).facet p).pd.seq = (s.facet p).pd.seq) := by
  constructor
  · rintro rfl
    exact State.seq_send_setSeq .softReset _
  · intro hsp
    obtain ⟨x, hx, e⟩ : ∃ x : State, (x.facet p).pd.seq = (s.facet p).pd.seq ∧ s.sendSoftReset p sp = ((x.modPd p fun d =>
        { (d.resetIdsOf sp) with queue := d.queue.filter fun m => decide (m.sop ≠ sp), srCable := some sp }).send p (mkCtl sp 0x0D)) := by
      unfold State.sendSoftReset
      dsimp only
      rw [if_neg hsp]
      simp only [if_neg hsp]
      refine ⟨_, ?_, rfl⟩
      have fold (l : List TxMsg) (y : State) : (((l.foldl (fun z m => z.fwFailed p m) y).facet p).pd.seq) = (y.facet p).pd.seq := by
        induction l generalizing y with
        | nil => rfl
        | cons m l ih => exact (ih _).trans (State.txOnly_fwFailed m).seq
      rw [fold, State.abandonOn, if_neg hsp, State.modPd, State.modF_pd]
      dsimp only
      split <;> rfl
    have hsend := State.txOnly_send (s := x.modPd p fun d =>
        { (d.resetIdsOf sp) with queue := d.queue.filter fun m => decide (m.sop ≠ sp), srCable := some sp }) (p := p) (mkCtl sp 0x0D)
    rw [e]
    refine ⟨hsend.srCable.trans (congrArg Pd.srCable (State.modF_pd _ _ _)), hsend.seq.trans ((congrArg Pd.seq (State.modF_pd _ _ _)).trans hx)⟩

theorem State.seq_vdmBegin (st : VdmStep) (h : st ∈ [.identity, .enterMode]) : ((s.vdmBegin p st).facet p).pd.seq = .vdm st := by
  simp only [List.mem_cons, List.not_mem_nil, or_false] at h
  rcases h with rfl | rfl <;> exact State.seq_send_setSeq _ _

theorem PortFrame.vdmBegin (st : VdmStep) (h : PortFrame p s t) : PortFrame p s (t.vdmBegin p st) := by
  unfold State.vdmBegin State.vdmStep State.vdmRequest
  split
  all_goals first
    | exact ((h.modPd _).setSeq _).send _
    | exact (h.modPd _).endSeq

theorem State.linkOn_linkOff : ((s.linkOff p).facet p).ct.linkOn = false := by
  unfold State.linkOff
  split
  · rw [State.facet_postF]
    exact congrArg Ct.linkOn (State.modF_ct _ _ _)
  · next h => simpa using h

/-! ### An authentication exchange -/

/-- Of the contract's records, only the offer differs. -/
def OfferOnly (c c' : Ct) : Prop := ∃ a b o f, c' = { c with offerCode := a, offerOwed := b, offer := o, offerFast := f }

theorem State.offerOnly_modCt {g : Ct → Ct} (hg : ∀ c, OfferOnly c (g c)) : OfferOnly (s.facet p).ct ((s.modCt p g).facet p).ct := by
  rw [State.modCt, State.modF_ct]
  exact hg _

theorem OfferOnly.trans {a b c : Ct} (h : OfferOnly a b) (k : OfferOnly b c) : OfferOnly a c := by
  obtain ⟨_, _, _, _, rfl⟩ := h
  obtain ⟨_, _, _, _, rfl⟩ := k
  exact ⟨_, _, _, _, rfl⟩

theorem State.offerOnly_sendCaps (init : Bool) : OfferOnly (s.facet p).ct ((s.sendCaps p init).facet p).ct := by
  obtain ⟨g, hg, b, o, m, e⟩ : ∃ g : Ct → Ct, (∀ c, OfferOnly c (g c)) ∧ ∃ (b : Nat) (o : List Word) (m : TxMsg), s.sendCaps p init
      = (let x := s.modCt p g
        if (s.facet p).ct.grant = 0 ∧ 0 < (s.facet p).ct.pending then x.modCt p fun c => { c with offerOwed := true }
        else if (b = 4 ∧ (s.facet p).ct.epr = false) ∨ (s.facet p).srcTable = [] then x
        else (((x.modCt p fun c => { c with offer := o, offerOwed := false, offerFast := false }).modPd p
          fun d => { d with capsSent := d.capsSent + 1, capsAck := false }).setSeq p .srcOffer).send p m) :=
    ⟨_, fun c => ⟨_, _, _, _, rfl⟩, _, _, _, rfl⟩
  have hx := State.offerOnly_modCt (s := s) (p := p) hg
  rw [e]
  dsimp only
  split
  · exact hx.trans (State.offerOnly_modCt fun c => ⟨_, _, _, _, rfl⟩)
  · split
    · exact hx
    · have h : PartFrame [.cc, .pd] p ((s.modCt p g).modCt p fun c => { c with offer := o, offerOwed := false, offerFast := false })
          (((((s.modCt p g).modCt p fun c => { c with offer := o, offerOwed := false, offerFast := false }).modPd p
            fun d => { d with capsSent := d.capsSent + 1, capsAck := false }).setSeq p .srcOffer).send p m) :=
        ((PartFrame.refl.modPd _).setSeq _).send _
      rw [h.ct]
      exact hx.trans (State.offerOnly_modCt fun c => ⟨_, _, _, _, rfl⟩)

theorem State.offerOnly_authPassed : OfferOnly { (s.facet p).ct with authed := true } ((s.authPassed p).facet p).ct := by
  have h : ((s.modCt p fun c => { c with authed := true }).facet p).ct = { (s.facet p).ct with authed := true } := State.modF_ct _ _ _
  unfold State.authPassed
  dsimp only
  rw [← h]
  split
  · exact ⟨_, _, _, _, rfl⟩
  · split
    · exact State.offerOnly_sendCaps _
    · have k : PartFrame [.cc, .pd] p (s.modCt p fun c => { c with authed := true })
          ((s.modCt p fun c => { c with authed := true }).sendGetCaps p) := (PartFrame.refl.setSeq _).send _
      rw [k.ct]
      exact ⟨_, _, _, _, rfl⟩

/-- What the end of an authentication exchange records. -/
theorem State.authEnd_ends (r : AuthResult) : ((s.authEnd p r).facet p).ct.authRun = false
    ∧ ((s.authEnd p r).facet p).ct.authed = ((s.facet p).ct.authed || decide (r = .passed)) := by
  obtain ⟨x, hx, e⟩ : ∃ x : State, (x.facet p).ct = { (s.facet p).ct with authRun := false, authX := .reset }
      ∧ s.authEnd p r = (match r with
        | .passed => (x.authPassed p).postF p 0x26 0
        | .failed => ((x.orReg (fx p 0x107) (flag 5 true)).postF p 0x26 1).fault (portNo p) 0x0F 0
        | .unsupported => x.postF p 0x26 2) := by
    unfold State.authEnd
    refine ⟨_, ?_, rfl⟩
    rw [apply_ite (State.facet · p), apply_ite Facet.ct, (PartFrame.endSeq (ps := [.pd]) .refl).ct, ite_self]
    exact State.modF_ct _ _ _
  rw [e]
  cases r with
  | passed =>
    obtain ⟨a, b, o, f, h⟩ := State.offerOnly_authPassed (s := x) (p := p)
    dsimp only
    rw [State.facet_postF, h, hx]
    exact ⟨rfl, (Bool.or_true _).symm⟩
  | failed =>
    dsimp only
    rw [State.facet_fault, State.facet_postF, State.orReg, State.facet_setReg, hx]
    exact ⟨rfl, (Bool.or_false _).symm⟩
  | unsupported =>
    dsimp only
    rw [State.facet_postF, hx]
    exact ⟨rfl, (Bool.or_false _).symm⟩

theorem State.authRun_authBegin : ((s.authBegin p).facet p).ct.authRun = !(s.facet p).rev2 := by
  have hct : ((s.modCt p fun c => { c with authRun := true, authX := .reset }).facet p).ct
      = { (s.facet p).ct with authRun := true, authX := .reset } := State.modF_ct _ _ _
  have hpd : ((s.modCt p fun c => { c with authRun := true, authX := .reset }).facet p).pd = (s.facet p).pd :=
    (PartFrame.modCt (ps := [.ct]) .refl _).pd
  have hrev : ((s.modCt p fun c => { c with authRun := true, authX := .reset }).facet p).rev2 = (s.facet p).rev2 := by
    unfold Facet.rev2
    rw [hpd]
  unfold State.authBegin
  dsimp only
  rw [hrev]
  cases hr : (s.facet p).rev2 with
  | true => exact (State.authEnd_ends .unsupported).1
  | false =>
    have hask : PartFrame [.cc, .pd] p ((s.modCt p fun c => { c with authRun := true, authX := .reset }).modCt p
          fun c => { c with authX := { c.authX with stage := 1 } })
        ((s.modCt p fun c => { c with authRun := true, authX := .reset }).authAsk p 1 [0x10, 0x81, 0, 0]) := (PartFrame.refl.setSeq _).send _
    rw [if_neg (by decide), hask.ct]
    refine (congrArg Ct.authRun (State.modF_ct _ _ _)).trans ?_
    exact congrArg Ct.authRun hct

/-- Settles O22: each opcode's judgement comes to the message and the sequence it starts. -/
theorem facetProtocolCommandsTakeEffect : Obligations.FacetProtocolCommandsTakeEffect := by
  intro p e src s h hlive f does starts seq
  have hf : f = s.facet p := rfl
  clear_value f
  subst hf
  have hon : s.on = true := h.1
  have self : PortFrame p s s := .refl
  have run {op : Nat} {i : Instr} {a : Half} {u : State} (hi : exec i s = powered s (s.unitRow (some p) op e a.toNat src))
      (ha : facetArgOk op a.toNat = true) (hop : op ≠ 1 ∧ op ≠ 3 ∧ op < 0x30) (hok : s.facetOk p op a.toNat = true)
      (hu : s.runFacet p op a.toNat = u) : exec i s = done (u.reportF p src .accepted .none) := by
    obtain ⟨h1, h3, hlt⟩ := hop
    refine (exec_facet_accepted hi h ha (facetAllowed_live hlive h1 (by omega)) h3 hlt hok).trans ?_
    rw [hu]
  have start {u : State} (hu : PortFrame p s u) : PortFrame p s (if (s.facet p).noSeq then u else s) := by
    split
    · exact hu
    · exact self
  refine ⟨fun h1 h2 h3 h4 => ⟨run (op := 5) rfl rfl (by decide) ?hard rfl, UnitFrame.refl.orderHardReset (State.mem_self p) 0,
      fun k1 k2 k3 => State.orderHardReset_ends h1 h2 k1 k2 k3⟩,
    fun h1 h2 => ⟨⟨run (op := 7) rfl rfl (by decide) ?soft rfl, self.sendSoftReset .sop⟩, State.sendSoftReset_ends.1 rfl,
      fun h3 => ⟨⟨run (op := 7) rfl rfl (by decide) ?soft1 rfl, self.sendSoftReset .sopP⟩, ⟨run (op := 7) rfl rfl (by decide) ?soft2 rfl, self.sendSoftReset .sopPP⟩,
        State.sendSoftReset_ends.2 (by decide)⟩⟩,
    fun h1 h2 h3 => ⟨⟨run (op := 8) rfl rfl (by decide) ?cable rfl, self.modPd _⟩, ?cableEnds⟩,
    fun h1 h2 h3 => ⟨⟨run (op := 0x10) rfl rfl (by decide) ?caps0 rfl, self.sendCaps _⟩,
      ⟨run (op := 0x10) rfl rfl (by decide) ?caps1 rfl, self.requestGrant.sendCaps _⟩⟩,
    fun h1 h2 a h3 h4 h5 h6 => ⟨⟨run (op := 0x11) rfl (by simpa [facetArgOk] using h3) (by decide) ?request rfl, self.requestCmd _⟩, ?only5v⟩,
    fun h1 => ⟨⟨run (op := 0x12) rfl rfl (by decide) h1 (if_pos ?prs), (self.setSeq _).send _⟩, State.seq_send_setSeq _ _⟩,
    fun h1 h2 h3 => ⟨run (op := 0x13) rfl rfl (by decide) ?drs (if_pos h2), (self.setSeq _).send _⟩,
    fun h1 => ⟨run (op := 0x14) rfl rfl (by decide) h1 (if_pos ?vcs), ?vcsFrame⟩,
    fun h1 h2 h3 h4 => ⟨⟨run (op := 0x15) rfl rfl (by decide) ?epr rfl, start self.eprEnterSend⟩, fun hr => ?eprSeq⟩,
    fun h1 => ⟨run (op := 0x16) rfl rfl (by decide) h1 rfl, start ((self.setSeq _).send _)⟩,
    fun h1 h2 => ⟨⟨run (op := 0x17) rfl rfl (by decide) ?disc rfl, start (self.vdmBegin _)⟩, State.seq_vdmBegin _ (by decide),
      fun h3 => ⟨run (op := 0x17) rfl rfl (by decide) ?disc1 rfl, start self.cableIdentity⟩⟩,
    fun h1 h2 h3 h4 => ⟨⟨run (op := 0x18) rfl rfl (by decide) ?enter rfl, start (self.vdmBegin _)⟩, State.seq_vdmBegin _ (by decide)⟩,
    fun h1 => ⟨⟨run (op := 0x19) rfl rfl (by decide) h1 rfl, start (self.linkOff.vdmBegin _)⟩, State.linkOn_linkOff⟩,
    fun h1 h2 h3 h4 => ⟨run (op := 0x1A) rfl rfl (by decide) ?auth rfl, UnitFrame.refl.authBegin (State.mem_self p), State.authRun_authBegin⟩,
    fun r => ⟨fun h1 => ⟨event_of hon h1, UnitFrame.refl.authEnd (State.mem_self p) r, State.authEnd_ends r⟩, fun h1 => event_not h1⟩⟩
  case hard => simp [State.facetOk, Facet.mayReset, h1, h2, h3, h4]
  case soft => simp [State.facetOk, h1, h2]
  case soft1 => simp [State.facetOk, h1, h2, h3]
  case soft2 => simp [State.facetOk, h1, h2, h3]
  case cable => simp [State.facetOk, h1, h2, h3]
  case cableEnds =>
    unfold State.cableReset
    rw [State.modPd, State.modF_pd]
    exact ⟨rfl, rfl, rfl⟩
  case caps0 => rcases h3 with h3 | h3 | h3 <;> simp [State.facetOk, State.contractOk, h1, h2, h3]
  case caps1 => rcases h3 with h3 | h3 | h3 <;> simp [State.facetOk, State.contractOk, h1, h2, h3]
  case request =>
    have hcaps : (s.facet p).ct.srcCaps ≠ [] := by
      intro hnil
      rw [hnil] at h4
      have hpos : 0 < argPos a.toNat := by
        unfold argPos
        split <;> omega
      exact absurd h4 (Nat.not_le.mpr hpos)
    rcases h6 with h6 | h6 <;> simp [State.facetOk, State.contractOk, Facet.sinking, h1, h2, h4, h5, h6, hcaps]
  case only5v =>
    have hreq : PartFrame [.cc, .pd] p (s.modCt p fun c => { c with only5v := false }) (s.requestCmd p a.toNat) := by
      unfold State.requestCmd State.startSeq State.sendRequest
      dsimp only
      split
      · exact (((PartFrame.refl.setSeq _).orReg _ _).ite (PartFrame.refl.setSeq _)).send _
      · exact .refl
    rw [hreq.ct]
    exact congrArg Ct.only5v (State.modF_ct _ _ _)
  case prs =>
    simp only [State.prsAllowed, Facet.swapFree, Bool.and_eq_true] at h1
    obtain ⟨⟨⟨-, hidle⟩, -⟩, -⟩ := h1
    exact hidle
  case drs => simp [State.facetOk, State.contractOk, Facet.drsAllowed, Facet.swapFree, h1, h2, h3]
  case vcs =>
    simp only [State.vcsAllowed, Facet.swapFree, Bool.and_eq_true] at h1
    obtain ⟨⟨-, hidle⟩, -⟩ := h1
    exact hidle
  case vcsFrame =>
    refine PortFrame.send (PortFrame.setSeq ?_ _) _
    split
    · exact self
    · exact self.modCc _
  case epr => simp [State.facetOk, State.contractOk, Facet.sinking, h1, h2, h3, h4]
  case eprSeq =>
    change ((s.eprEnterSend p).facet p).pd.seq = _
    rw [State.eprEnterSend, if_neg (by rw [hr]; decide)]
    exact State.seq_send_setSeq _ _
  case disc => simp [State.facetOk, State.contractOk, h1, h2]
  case disc1 => simp [State.facetOk, State.contractOk, h1, h2, h3]
  case enter => simp [State.facetOk, State.contractOk, h1, h2, h3, h4]
  case auth => simp [State.facetOk, State.contractOk, h1, h2, h3, h4]

end Sys2Proof.Machine
end

/-! ## The window monitors (R368 to R379) -/

section
namespace Sys2Proof.Machine

variable {s t : State} {k : Nat}

/-- The comparators' outputs and the mode are kept. -/
def WmKept (s t : State) : Prop := t.wmHi = s.wmHi ∧ t.wmLo = s.wmLo ∧ t.mode = s.mode

namespace WmKept

theorem refl : WmKept s s := ⟨rfl, rfl, rfl⟩
theorem trans {u : State} (h : WmKept s t) (k : WmKept t u) : WmKept s u := by
  obtain ⟨h1, h2, h3⟩ := h
  obtain ⟨k1, k2, k3⟩ := k
  exact ⟨k1.trans h1, k2.trans h2, k3.trans h3⟩
theorem wmPost (k : Nat) (a : Half) : WmKept s (s.wmPost k a) := by
  unfold State.wmPost State.postF
  dsimp only
  split
  · split <;> exact refl
  · split <;> exact refl
theorem wmCount (k : Nat) (high : Bool) : WmKept s (s.wmCount k high) := by
  unfold State.wmCount
  exact ⟨State.wmHi_fault .., State.wmLo_fault .., State.mode_fault ..⟩
theorem sentCancel : WmKept s s.sentCancel := by
  unfold State.sentCancel
  split <;> exact refl

/-- Outside SENTINEL an event that wakes ends at most a waiting entry. -/
theorem wakeEvent (k : Nat) (hm : s.mode ≠ .sentinel) : WmKept s (s.wakeEvent k) := by
  unfold State.wakeEvent
  split
  · exact refl
  · split
    · exact sentCancel (s := s.orReg 0x0104 (flag k true))
    · exact refl

theorem wmOut (h : WmKept s t) (k : Nat) (high : Bool) : t.wmOut k high = s.wmOut k high := by
  obtain ⟨h1, h2, -⟩ := h
  unfold State.wmOut
  rw [h1, h2]

end WmKept

theorem getLsbD_putBit (w : Word) (hk : k < 32) (b : Bool) : (putBit w k b).getLsbD k = b := by
  unfold putBit
  cases b <;> simp [getLsbD_flag hk, hk]

/-- The outputs as an edge sets them. -/
def State.wmSet (s : State) (k : Nat) (high v : Bool) : State :=
  if high then { s with wmHi := putBit s.wmHi k v } else { s with wmLo := putBit s.wmLo k v }

theorem State.wmOut_wmSet (hk : k < 32) (high v : Bool) :
    (s.wmSet k high v).wmOut k high = v ∧ (s.wmSet k high v).wmOut k (!high) = s.wmOut k (!high) := by
  cases high with
  | true => exact ⟨getLsbD_putBit _ hk v, rfl⟩
  | false => exact ⟨getLsbD_putBit _ hk v, rfl⟩

/-- R368: outside SENTINEL an edge sets its comparator's output and no other. -/
theorem State.wmEdge_kept (hm : s.mode ≠ .sentinel) (high rising : Bool) : WmKept (s.wmSet k high rising) (s.wmEdge k high rising) := by
  have hset : (s.wmSet k high rising).mode ≠ .sentinel := by
    unfold State.wmSet
    split <;> exact hm
  obtain ⟨x, hx, e⟩ : ∃ x : State, WmKept (s.wmSet k high rising) x ∧ s.wmEdge k high rising
      = (if !rising then x
        else if ((x.setReg (0x0403 + 4 * k) x.stamp).wmCount k high).bit (0x0400 + 4 * k) 18
          then ((x.setReg (0x0403 + 4 * k) x.stamp).wmCount k high).wakeEvent 4
          else (x.setReg (0x0403 + 4 * k) x.stamp).wmCount k high) := by
    refine ⟨if (s.wmSet k high rising).bit (0x0402 + 4 * k) (wmFlag high rising)
        then (s.wmSet k high rising).orReg (0x0402 + 4 * k) (flag (wmFlag high rising) true)
        else ((s.wmSet k high rising).orReg (0x0402 + 4 * k) (flag (wmFlag high rising) true)).wmPost k (wmArg k high rising), ?_, rfl⟩
    split
    · exact WmKept.refl
    · exact WmKept.wmPost (s := (s.wmSet k high rising).orReg (0x0402 + 4 * k) (flag (wmFlag high rising) true)) _ _
  have hcount : WmKept (s.wmSet k high rising) ((x.setReg (0x0403 + 4 * k) x.stamp).wmCount k high) :=
    hx.trans (WmKept.wmCount (s := x.setReg (0x0403 + 4 * k) x.stamp) k high)
  rw [e]
  split
  · exact hx
  · split
    · exact hcount.trans (WmKept.wakeEvent 4 (by rw [hcount.2.2]; exact hset))
    · exact hcount

/-- Settles O46: each row of the monitors is its operation, and an edge's output is `wmSet`'s. -/
theorem monitorsFollowTheirNets : Obligations.MonitorsFollowTheirNets := by
  intro k s hon
  refine ⟨fun high rising level h1 h2 h3 h4 h5 => ⟨event_of hon ?edge, fun hm => ?out⟩, fun hi lo level hhi hlo => ⟨fun hg hl => ⟨event_of hon ?sample, ?latch⟩,
    fun hg hs => event_of hon ?settle⟩, fun m v => ⟨powered_of_on s _ hon, powered_of_on s _ hon⟩⟩
  case edge => rw [State.edgeMay, h1, h2, decide_eq_true h3, decide_eq_true h4, h5]; rfl
  case out =>
    have hk := State.wmEdge_kept (k := k) hm high rising
    obtain ⟨ho, hother⟩ := State.wmOut_wmSet (s := s) k.isLt high rising
    exact ⟨(hk.wmOut _ _).trans ho, (hk.wmOut _ _).trans hother⟩
  case sample => rw [decide_eq_true hg, hl, hhi, hlo]; rfl
  case latch =>
    intro hb
    unfold State.toLatch
    rw [hb]
    exact State.cycles_reach _
  case settle =>
    rw [decide_eq_true hg, hhi, hlo]
    simpa using hs

end Sys2Proof.Machine
end

/-! ## Lapidary's rows (R147 to R155, R505, R512) -/

section
namespace Sys2Proof.Machine

variable {s : State}

theorem event_iff {g : Bool} {G : Prop} {u : State} (hon : s.on = true) (hg : g = true ↔ G) :
    (G → event s g u = done u) ∧ (¬ G → event s g u = .next s) :=
  ⟨fun h => event_of hon (hg.mpr h), fun h => event_not (Bool.eq_false_iff.mpr fun k => h (hg.mp k))⟩

theorem State.lapClocked_iff : s.lapClocked = true ↔ s.lap.run = .running ∧ s.mode ≠ .standby ∧ s.mode ≠ .sentinel := by
  simp [State.lapClocked, and_assoc]

theorem State.halted_iff : s.halted = true ↔ s.onx.dbgEn = true ∧ s.lap.run = .halted := by
  simp [State.halted, State.dbgOn]

/-! ### Halt and resume -/

/-- A freeze changes the hub alone. -/
theorem State.freeze_rest : s.freeze = { s with hub := s.freeze.hub } := by
  unfold State.freeze
  split <;> rfl

theorem State.gpwmCtlDone_rest : s.gpwmCtlDone = { s with hub := s.gpwmCtlDone.hub } := by
  unfold State.gpwmCtlDone
  split <;> rfl

/-- The end of a freeze changes the hub alone. -/
theorem State.unfreeze_rest : s.unfreeze = { s with hub := s.unfreeze.hub } := by
  unfold State.unfreeze
  split
  · exact State.gpwmCtlDone_rest
  · rfl

/-- A halt keeps the pc for the debugger and freezes the outputs. -/
theorem State.lapHalt_ends (k : BitVec 4) : (s.lapHalt k).lap = { s.lap with run := .halted, dbgCause := k } ∧ (s.lapHalt k).hub.frozen = true
    ∧ (s.wf = true → (s.lapHalt k).reg 0x2102 = s.lap.pc) ∧ (s.lapHalt k).nvm = s.nvm ∧ ∀ p, (s.lapHalt k).facet p = s.facet p := by
  obtain ⟨x, e, hl, hr, hn, hf⟩ : ∃ x : State, s.lapHalt k = x.freeze ∧ x.lap = { s.lap with run := .halted, dbgCause := k }
      ∧ (∀ i, x.reg i = (s.setReg 0x2102 s.lap.pc).reg i) ∧ x.nvm = s.nvm ∧ ∀ p, x.facet p = s.facet p :=
    ⟨_, rfl, rfl, fun _ => rfl, rfl, fun p => by cases p <;> rfl⟩
  rw [e]
  refine ⟨?_, x.frozen_freeze, fun hw => ?_, ?_, fun p => ?_⟩
  · rw [x.freeze_rest, ← hl]
  · rw [x.freeze_rest]
    exact (hr _).trans ((State.reg_setReg _ _ _ _ (RegKept.regsWf hw)).trans (if_pos rfl))
  · rw [x.freeze_rest, ← hn]
  · rw [x.freeze_rest, ← hf]
    cases p <;> rfl

/-- A resume runs on from the debugger's pc and ends the freeze. -/
theorem State.lapResume_ends : s.lapResume.lap = { s.lap with run := .running, pc := s.reg 0x2102 } ∧ s.lapResume.hub.frozen = false
    ∧ s.lapResume.regs = s.regs ∧ s.lapResume.nvm = s.nvm ∧ ∀ p, s.lapResume.facet p = s.facet p := by
  obtain ⟨x, e, hl, hr, hn, hf⟩ : ∃ x : State, s.lapResume = x.unfreeze ∧ x.lap = { s.lap with run := .running, pc := s.reg 0x2102 }
      ∧ x.regs = s.regs ∧ x.nvm = s.nvm ∧ ∀ p, x.facet p = s.facet p := ⟨_, rfl, rfl, rfl, rfl, fun p => by cases p <;> rfl⟩
  rw [e]
  refine ⟨?_, x.frozen_unfreeze, ?_, ?_, fun p => ?_⟩
  · rw [x.unfreeze_rest, ← hl]
  · rw [x.unfreeze_rest, ← hr]
  · rw [x.unfreeze_rest, ← hn]
  · rw [x.unfreeze_rest, ← hf]
    cases p <;> rfl

/-! ### The watchdog, the reload and the timers -/

theorem State.wdExpire_ends : s.wdExpire.lap.run = .reset ∧ s.wdExpire.lap.wdCount = 0 ∧ s.wdExpire.ldr.reload = true := by
  obtain ⟨x, v, e, h1, h2, h3⟩ : ∃ (x : State) (v : Nat), s.wdExpire = x.fault 5 0x03 v ∧ x.lap.run = .reset ∧ x.lap.wdCount = 0
      ∧ x.ldr.reload = true := ⟨_, _, rfl, rfl, rfl, rfl⟩
  rw [e, State.lap_fault, State.ldr_fault]
  exact ⟨h1, h2, h3⟩

theorem State.reloadEnd_ends : s.reloadEnd.ldr.reload = false ∧ (s.mode = .safe → s.reloadEnd.lap.run = s.lap.run) := by
  obtain ⟨x, e, hr, hl, hm⟩ : ∃ x : State, s.reloadEnd = (match x.policySec with
        | some c => if x.mode = .safe then x else x.lapRelease c
        | none => (x.fault 5 0x03 (x.rf 0x0700 8 8) true).nvmUnread x.bootSlot.toNat 0 isPolicy x.policyCode)
      ∧ x.ldr.reload = false ∧ x.lap = s.lap ∧ x.mode = s.mode := ⟨_, rfl, rfl, rfl, rfl⟩
  rw [e]
  split
  · split
    · exact ⟨hr, fun _ => by rw [hl]⟩
    · next hs => exact ⟨hr, fun h => absurd (hm.trans h) hs⟩
  · have hu : UnitFrame [] (x.fault 5 0x03 (x.rf 0x0700 8 8) true)
        ((x.fault 5 0x03 (x.rf 0x0700 8 8) true).nvmUnread x.bootSlot.toNat 0 isPolicy x.policyCode) := by
      unfold State.nvmUnread
      split
      · exact UnitFrame.refl.capture _ _ _ _ _ _
      · exact .refl
    obtain ⟨-, -, hrest⟩ := hu
    rw [hrest]
    dsimp only
    rw [State.ldr_fault, State.lap_fault, hl]
    exact ⟨hr, fun _ => rfl⟩

theorem timerWord_bits (w : Word) : (w ||| flag 27 true).getLsbD 27 = true ∧ (w ||| flag 27 true).getLsbD 26 = w.getLsbD 26
    ∧ (w ||| flag 27 true).getLsbD 25 = w.getLsbD 25 ∧ (withFld (w ||| flag 27 true) 26 1 0).getLsbD 27 = true
    ∧ (withFld (w ||| flag 27 true) 26 1 0).getLsbD 26 = false := by
  have h27 : (flag 27 true).getLsbD 27 = true ∧ (flag 27 true).getLsbD 26 = false ∧ (flag 27 true).getLsbD 25 = false := by decide
  have h26 : (fw 26 (2 ^ 1 - 1)).getLsbD 26 = true ∧ (fw 26 (2 ^ 1 - 1)).getLsbD 27 = false ∧ (fw 26 (0 % 2 ^ 1)).getLsbD 26 = false := by decide
  obtain ⟨a, b, c⟩ := h27
  obtain ⟨d, e, f⟩ := h26
  unfold withFld
  simp only [BitVec.getLsbD_or, BitVec.getLsbD_and, BitVec.getLsbD_not, a, b, c, d, e, f]
  simp

/-- R155: a timer that expires sets its flag, and goes on only where it is periodic. -/
theorem State.timerExpire_ends (n : Fin 8) (hw : s.wf = true) : (s.timerExpire n).bit (0x0710 + 2 * n) 27 = true
    ∧ (s.timerExpire n).bit (0x0710 + 2 * n) 26 = (s.bit (0x0710 + 2 * n) 26 && s.bit (0x0710 + 2 * n) 25) := by
  obtain ⟨b27, b26, b25, c27, c26⟩ := timerWord_bits (s.reg (0x0710 + 2 * n))
  have hr := RegKept.regsWf hw
  obtain ⟨x, hx⟩ : ∃ x : State, x = s.orReg (0x0710 + 2 * n) (flag 27 true) := ⟨_, rfl⟩
  have hreg : x.reg (0x0710 + 2 * n) = s.reg (0x0710 + 2 * n) ||| flag 27 true := by
    rw [hx, State.orReg, State.reg_setReg _ _ _ _ hr, if_pos rfl]
  have hxr : spWf resetWord x.regs = true := by
    rw [hx]
    exact State.setReg_wf _ _ _ hr
  have e : s.timerExpire n = if x.bit (0x0710 + 2 * n) 25 then x.setTmr n (Tmr.load (x.reg (0x0710 + 2 * n)))
      else x.setFld (0x0710 + 2 * n) 26 1 0 := by
    rw [hx]
    rfl
  rw [e]
  unfold State.bit
  rw [hreg, b25]
  cases hb : (s.reg (0x0710 + 2 * n)).getLsbD 25 with
  | true =>
    have hk : (x.setTmr n (Tmr.load (s.reg (0x0710 + 2 * n) ||| flag 27 true))).reg (0x0710 + 2 * n) = x.reg (0x0710 + 2 * n) := rfl
    rw [if_pos rfl, hk, hreg, b27, b26]
    simp
  | false =>
    have hk : (x.setFld (0x0710 + 2 * n) 26 1 0).reg (0x0710 + 2 * n) = withFld (s.reg (0x0710 + 2 * n) ||| flag 27 true) 26 1 0 := by
      rw [State.setFld, State.reg_setReg _ _ _ _ hxr, if_pos rfl, hreg]
    rw [if_neg (by decide), hk, c27, c26]
    simp

/-- Settles O54: each of Lapidary's rows is its operation, under its own condition. -/
theorem lapidaryRowsAct : Obligations.LapidaryRowsAct := by
  intro s hon clocked stopped goes stepped
  refine ⟨fun c u => ⟨event_iff hon State.lapClocked_iff, fun h => event_of hon (State.halted_iff.mpr h),
      fun h => event_not (Bool.eq_false_iff.mpr fun k => h (State.halted_iff.mp k))⟩,
    event_iff hon (by rw [Bool.and_eq_true, State.lapClocked_iff]), fun h => by rw [State.lapEbreak, State.dbgOn, h]; rfl, fun h => ?ebreak,
    event_iff hon (by rw [State.mayHalt, State.dbgOn, Bool.and_eq_true, decide_eq_true_iff]), State.lapHalt_ends, event_iff hon State.halted_iff,
    State.lapResume_ends, fun m => ⟨fun code => ?doorbell, powered_of_on s _ hon, fun key => ?kick, fun n v => powered_of_on s _ hon, fun i v => ?req⟩,
    event_iff hon (by simp [State.wdDue, and_assoc]), State.wdExpire_ends, event_iff hon Iff.rfl, State.reloadEnd_ends,
    fun n => ⟨event_iff hon (by rw [State.timerDue, Bool.and_eq_true, decide_eq_true_iff]), State.timerExpire_ends n⟩⟩
  case ebreak =>
    rw [State.lapEbreak, State.dbgOn, h]
    exact ⟨rfl, rfl, rfl, rfl⟩
  case doorbell =>
    refine (powered_of_on s (s.doorbell code.toNat) hon).trans ?_
    unfold State.doorbell
    by_cases hc : code = 0
    · rw [if_pos hc, if_pos (by rw [hc]; rfl)]
    · have hn : ¬ code.toNat = 0 := fun h => hc (BitVec.eq_of_toNat_eq h)
      rw [if_neg hc, if_neg hn]
  case kick =>
    refine (powered_of_on s (s.wdKick key.toNat) hon).trans ?_
    unfold State.wdKick
    by_cases hk : key = 0x6B
    · rw [if_pos hk, if_pos (by rw [hk]; rfl)]
      rfl
    · have hn : ¬ key.toNat = 0x6B := fun h => hk (BitVec.eq_of_toNat_eq h)
      rw [if_neg hk, if_neg hn]
  case req =>
    change (_ → execReqWrite m i v s = _) ∧ (_ → execReqWrite m i v s = _)
    unfold execReqWrite isReq
    refine ⟨fun h => ?_, fun h => ?_⟩
    · rw [decide_eq_true h]
      exact powered_of_on s _ hon
    · rw [decide_eq_false h]
      rfl

end Sys2Proof.Machine
end

/-! ## Lapidary's instructions and their frame (R145 to R148) -/

section
namespace Sys2Proof.Machine

variable {s : State} {l : Lap}

theorem Lap.x_setX_same {n : Nat} (hlen : l.xs.length = 31) (hn : n < 32) (v : Word) : (l.setX n v).x n = if n = 0 then 0 else v := by
  unfold Lap.setX Lap.x
  by_cases h : n = 0
  · rw [if_pos h, if_pos h]
  · rw [if_neg h, if_neg h, if_neg h, List.getD_eq_getElem?_getD, List.getElem?_set_self (by omega)]
    rfl

theorem Lap.x_setX_ne {n k : Nat} (hk : k ≠ n) (v : Word) : (l.setX n v).x k = l.x k := by
  unfold Lap.setX Lap.x
  by_cases h : n = 0
  · rw [if_pos h]
  · rw [if_neg h]
    by_cases h0 : k = 0
    · rw [if_pos h0, if_pos h0]
    · rw [if_neg h0, if_neg h0, List.getD_eq_getElem?_getD, List.getD_eq_getElem?_getD, List.getElem?_set_ne (by omega)]

theorem Lap.setX_rest (n : Nat) (v : Word) : l.setX n v = { l with xs := (l.setX n v).xs } := by
  unfold Lap.setX
  split <;> rfl

/-- A step of an instruction that the core fetches, with no interrupt to take and an even pc. -/
theorem State.lapStep_alu {op : AluOp} {rd a b len : Nat} {bits : Word} (hf : s.lap.fetch = .got (.alu op rd a b) len bits)
    (hpc : s.lap.pc.getLsbD 0 = false) (hi : s.lapIrq = false) (c u : Bool) :
    s.lapStep c u = s.retireX (s.lap.pc + BitVec.ofNat 32 len) rd (aluRes op (s.lap.x a) (s.lap.x b)) := by
  have hint : s.lapInterrupt = s := by
    rw [State.lapInterrupt, hi]
    rfl
  rw [State.lapStep, hint, State.lapRun, hpc, hf]
  rfl

/-- What a register instruction leaves: its result, the next pc and one instruction retired. -/
theorem State.retireX_ends {next v : Word} {rd : Nat} (hlen : s.lap.xs.length = 31) (hrd : rd < 32) :
    (s.retireX next rd v).lap.pc = next ∧ (s.retireX next rd v).lap.x rd = (if rd = 0 then 0 else v)
      ∧ (∀ k, k < 32 → k ≠ rd → (s.retireX next rd v).lap.x k = s.lap.x k) ∧ (s.retireX next rd v).lap.sram = s.lap.sram
      ∧ (s.retireX next rd v).lap.csr = { s.lap.csr with minstret := s.lap.csr.minstret + 1 }
      ∧ s.retireX next rd v = { s with lap := (s.retireX next rd v).lap } := by
  obtain ⟨m, e, h1, h2, h3, h4⟩ : ∃ m : Lap, s.retireX next rd v = { s with lap := m.setX rd v } ∧ m.pc = next ∧ m.xs = s.lap.xs
      ∧ m.sram = s.lap.sram ∧ m.csr = { s.lap.csr with minstret := s.lap.csr.minstret + 1 } := ⟨_, rfl, rfl, rfl, rfl, rfl⟩
  have hx (k : Nat) : m.x k = s.lap.x k := by
    unfold Lap.x
    rw [h2]
  rw [e]
  dsimp only
  refine ⟨?_, Lap.x_setX_same (by rw [h2]; exact hlen) hrd v, fun k _ hk => (Lap.x_setX_ne hk v).trans (hx k), ?_, ?_, rfl⟩
  · rw [Lap.setX_rest]; exact h1
  · rw [Lap.setX_rest]; exact h3
  · rw [Lap.setX_rest]; exact h4

/-! ### Stores to SRAM -/

theorem spRun_eq_of {d : Nat → Byte} {m : List (Nat × Byte)} {o n : Nat} {bs : List Byte} (hlen : bs.length = n)
    (h : ∀ i (hi : i < bs.length), spGet d m (o + i) = bs[i]) : spRun d m o n = bs := by
  induction bs generalizing o n with
  | nil => subst hlen; rfl
  | cons b bs ih =>
    subst hlen
    have hb := h 0 (by simp)
    have ht := ih (o := o + 1) rfl fun i hi => by
      have := h (i + 1) (by simpa using hi)
      rw [show o + 1 + i = o + (i + 1) by omega]
      exact this
    simp only [List.length_cons, spRun]
    rw [ht]
    exact congrArg (· :: bs) hb

/-- A store changes the bytes that it stores to. -/
theorem Lap.sramNum_sramPut (hw : spWf (fun _ => (0 : Byte)) l.sram = true) (o n v : Nat) : (l.sramPut o n v).sramNum o n = v % 256 ^ n := by
  have hrun : spRun (fun _ => (0 : Byte)) (l.sramPut o n v).sram o n = leBytes n v :=
    spRun_eq_of (length_leBytes n v) fun i hi => by
      unfold Lap.sramPut
      rw [spGet_spPutAll _ _ _ _ _ hw, if_pos (Nat.le_add_right o i), Nat.add_sub_cancel_left, List.getElem?_eq_getElem hi, Option.getD_some]
  rw [Lap.sramNum, hrun, leNat_leBytes]

/-- A store changes no other byte. -/
theorem Lap.sramNum_sramPut_ne (hw : spWf (fun _ => (0 : Byte)) l.sram = true) {o n k : Nat} (v : Nat) (hk : k < o ∨ o + n ≤ k) :
    (l.sramPut o n v).sramNum k 1 = l.sramNum k 1 := by
  have hget : spGet (fun _ => (0 : Byte)) (l.sramPut o n v).sram k = spGet (fun _ => (0 : Byte)) l.sram k := by
    unfold Lap.sramPut
    rw [spGet_spPutAll _ _ _ _ _ hw]
    split
    case isTrue h => rw [List.getElem?_eq_none (by rw [length_leBytes]; omega), Option.getD_none]
    case isFalse => rfl
  simp only [Lap.sramNum, spRun, hget]

/-- Settles O55: a register instruction by its retirement, a store by the bytes it puts. -/
theorem lapidaryInstructionsKeepTheirFrame : Obligations.LapidaryInstructionsKeepTheirFrame := by
  refine ⟨fun s op rd a b len bits hlen hrd _ _ hf hpc hi c u => ?_, fun l o n v hw => ⟨fun k hk => Lap.sramNum_sramPut_ne hw v hk,
    Lap.sramNum_sramPut hw o n v, rfl, rfl, spPutAll_wf _ _ _ _ hw⟩⟩
  intro t
  have ht : t = s.retireX (s.lap.pc + BitVec.ofNat 32 len) rd (aluRes op (s.lap.x a) (s.lap.x b)) := State.lapStep_alu hf hpc hi c u
  clear_value t
  rw [ht]
  exact State.retireX_ends hlen hrd

end Sys2Proof.Machine
end

/-! ## The service port (R462 to R477) -/

section
namespace Sys2Proof.Machine

variable {s t u : State} {g : Svc → Svc}

/-- Only the service port and the registers differ. -/
def SvcFrame (s u : State) : Prop := u = { s with svc := u.svc, regs := u.regs }

namespace SvcFrame

theorem refl : SvcFrame s s := rfl
theorem trans (h : SvcFrame s t) (k : SvcFrame t u) : SvcFrame s u :=
  Eq.trans k (congrArg (fun x : State => { x with svc := u.svc, regs := u.regs }) h)
theorem regs (h : SvcFrame s t) (k : RegFrame t u) : SvcFrame s u :=
  h.trans (Eq.trans k (by rw [show u = { t with regs := u.regs } from k]))
theorem modSvc (h : SvcFrame s t) (g : Svc → Svc) : SvcFrame s (t.modSvc g) := h.trans rfl
theorem setReg (h : SvcFrame s t) (i : Nat) (w : Word) : SvcFrame s (t.setReg i w) := h.trans rfl
theorem ite {c : Prop} [Decidable c] (ht : SvcFrame s t) (hu : SvcFrame s u) : SvcFrame s (if c then t else u) := by
  split
  · exact ht
  · exact hu

end SvcFrame

theorem RegFrame.svc (h : RegFrame s u) : u.svc = s.svc := by
  rw [show u = { s with regs := u.regs } from h]

theorem RegFrame.svcPtr (h : RegFrame s u) : u.svc.ptr = s.svc.ptr := congrArg Svc.ptr h.svc

theorem RegFrame.bufBytes (h : RegFrame s t) (k : Nat) (bs : List Byte) : RegFrame s (t.bufBytes k bs) := by
  induction bs generalizing t k with
  | nil => exact h
  | cons b bs ih => exact ih (h.setReg ..) (k + 1)

theorem RegFrame.ctlRead (h : RegFrame s t) (rd : List Byte) : RegFrame s (t.ctlRead rd) := h.bufBytes ..

/-! ### Target -/

theorem State.svcIndex_ptr {i : Half} (h : s.onx.dbgEn = true ∨ i.toNat < 0x2100 ∨ 0x21FF < i.toNat) : (s.svcIndex i).svc.ptr = i := by
  have hopen : (dbgIndex i.toNat && !s.dbgOn) = false := by
    simp only [dbgIndex, State.dbgOn, Bool.and_eq_false_iff, decide_eq_false_iff_not, Bool.not_eq_false']
    obtain h | h | h := h
    · exact .inr h
    · exact .inl (.inl (by omega))
    · exact .inl (.inr (by omega))
  unfold State.svcIndex
  rw [if_neg (by rw [hopen]; decide)]
  rfl

theorem SvcFrame.svcListen (h : SvcFrame s t) : SvcFrame s t.svcListen := h.modSvc _

/-- What a STOP or a repeated START leaves. -/
theorem State.svcEnd_ends (n : Nat) (again : Bool) : (s.svcEnd n again).svc.ptr = s.svc.ptr ∧ SvcFrame s (s.svcEnd n again) := by
  obtain ⟨t, ht, he⟩ : ∃ t, RegFrame s t ∧ s.svcEnd n again = if again then t.svcListen else t.modSvc fun v => { v with tx := .idle, fetched := none } :=
    ⟨_, .ite (RegFrame.refl.setReg ..) .refl, rfl⟩
  rw [he]
  cases again with
  | true =>
    rw [if_pos rfl]
    exact ⟨ht.svcPtr, (SvcFrame.refl.regs ht).svcListen⟩
  | false =>
    rw [if_neg Bool.false_ne_true]
    exact ⟨ht.svcPtr, (SvcFrame.refl.regs ht).modSvc _⟩

theorem State.svcTimeout_ends : s.svcTimeout.svc.ptr = s.svc.ptr ∧ SvcFrame s s.svcTimeout := ⟨rfl, (SvcFrame.refl.modSvc _).setReg ..⟩

/-! ### Controller engine -/

/-- What the end of the engine's transaction leaves. -/
theorem State.ctlDone_ends (r : CtlEnd) (n : Nat) (rd : List Byte) :
    (s.ctlDone r n rd).svc.ctl = .idle ∧ (s.ctlDone r n rd).svc.ptr = s.svc.ptr ∧ SvcFrame s (s.ctlDone r n rd) := by
  obtain ⟨t, ht, he⟩ : ∃ t, RegFrame s t ∧ s.ctlDone r n rd = match r with
      | .done => t.modSvc fun v => { v with ctl := .idle, busBusy := true, tx := .idle }
      | .nack => (t.modSvc fun v => { v with ctl := .idle, busBusy := true, tx := .idle }).svcFlag 4 :=
    ⟨((s.ctlRead rd).setFld 0x2004 4 5 n).svcFlag 3, ((RegFrame.refl.ctlRead rd).setReg ..).setReg .., by cases r <;> rfl⟩
  rw [he]
  cases r with
  | done => exact ⟨rfl, ht.svcPtr, (SvcFrame.refl.regs ht).modSvc _⟩
  | nack => exact ⟨rfl, ht.svcPtr, ((SvcFrame.refl.regs ht).modSvc _).setReg ..⟩

theorem SvcFrame.ctlLost (byte bit : Nat) (own : Bool) (rd : List Byte) : SvcFrame s (s.ctlLost byte bit own rd) := by
  unfold State.ctlLost
  refine SvcFrame.ite (((SvcFrame.modSvc (SvcFrame.refl.regs ?_) _).setReg ..).setReg ..) (SvcFrame.modSvc (SvcFrame.refl.regs ?_) _) <;>
  exact ((((RegFrame.refl.ctlRead rd).setReg ..).setReg ..).setReg ..).setReg ..

/-- A `GO` is refused, or starts the engine at once or behind the transaction on the bus (R471). -/
theorem State.ctlGo_ends {w : Word} (hgo : w.getLsbD 24 = true) :
    (s.goRefused w = true → s.ctlGo w = s.orReg 0x2001 0x80)
      ∧ (s.goRefused w = false → (s.ctlGo w).svc.ctl = if s.svc.busBusy then .waitBus else .running) := by
  refine ⟨fun h => ?_, fun h => ?_⟩
  · unfold State.ctlGo
    rw [hgo, h]
    rfl
  · unfold State.ctlGo
    rw [hgo, h]
    rfl

theorem State.svcAnswers_of (h : s.mode = .standby ∨ s.mode = .run ∨ s.mode = .safe) : s.svcAnswers = true := by
  unfold State.svcAnswers
  obtain h | h | h := h <;> rw [h] <;> rfl

theorem Svc.writing_of {v : Svc} (h : v.tx = .index ∨ (v.tx = .data ∧ v.fetched = none)) : v.writing = true := by
  unfold Svc.writing
  obtain h | ⟨h, k⟩ := h
  · rw [h]; rfl
  · rw [h, k]; rfl

theorem Svc.reading_of {v : Svc} (h : v.tx = .started ∨ (v.tx = .data ∧ v.fetched.isSome = true)) : v.reading = true := by
  unfold Svc.reading
  obtain h | ⟨h, k⟩ := h
  · rw [h]; rfl
  · rw [h, k]; rfl

/-- Settles O57: by the rows of the target and of the controller engine, each under its condition. -/
theorem servicePortRowsAct : Obligations.ServicePortRowsAct := by
  intro s hon
  refine ⟨event_of hon rfl, fun hm => ⟨fun htx i => ⟨?_, State.svcIndex_ptr⟩, fun htx w => ?_, fun htx c u => ?_⟩,
    fun hb n again => ⟨?_, (State.svcEnd_ends n again).1, ?_⟩, fun hm => ⟨?_, State.svcTimeout_ends.1⟩,
    fun m w => ⟨powered_of_on s _ hon, fun hgo => (State.ctlGo_ends hgo).1, fun hgo => (State.ctlGo_ends hgo).2⟩,
    fun hctl rd => ⟨fun byte bit own => ?_, fun r n => ?_, ?_⟩, fun hctl htx h1 h2 => ?_, fun hb htx => ?_⟩
  · exact event_of hon (by rw [State.svcAnswers_of hm, htx]; rfl)
  · exact event_of hon (by rw [State.svcAnswers_of hm, Svc.writing_of htx]; rfl)
  · exact event_of hon (by rw [State.svcAnswers_of hm, Svc.reading_of htx]; rfl)
  · exact event_of hon hb
  · rintro u (rfl | rfl)
    · exact (State.svcEnd_ends n again).2
    · exact State.svcTimeout_ends.2
  · exact event_of hon (decide_eq_true hm)
  · exact event_of hon (decide_eq_true hctl)
  · obtain ⟨hidle, hptr, -⟩ := State.ctlDone_ends (s := s) r n.toNat rd
    exact ⟨event_of hon (decide_eq_true hctl), hidle, hptr⟩
  · rintro u (⟨r, n, rfl⟩ | ⟨byte, bit, own, rfl⟩)
    · exact (State.ctlDone_ends r n rd).2.2
    · exact SvcFrame.ctlLost byte bit own rd
  · exact event_of hon (by rw [hctl, htx, State.ctlRuns, decide_eq_true h1, decide_eq_true h2]; rfl)
  · exact ⟨_, event_of hon (by rw [hb, htx]; rfl), rfl⟩

end Sys2Proof.Machine
end

/-! ## The chain link and the pins (R479 to R500, R508) -/

section
namespace Sys2Proof.Machine

variable {s t : State} {p : Port}

/-! ### Flags and rings -/

@[simp] theorem State.facet_linkFlags (fl : Nat) (q : Port) : (s.linkFlags p fl).facet q = s.facet q := by
  unfold State.linkFlags
  dsimp only
  split <;> split <;> simp [State.orReg]

theorem State.lap_postF (c : Byte) (a : Half) : (s.postF p c a).lap = s.lap := by
  unfold State.postF
  dsimp only
  split <;> rfl

theorem State.lap_modF (g : Facet → Facet) : (s.modF p g).lap = s.lap := by
  cases p <;> rfl

theorem State.regs_modF (g : Facet → Facet) : (s.modF p g).regs = s.regs := by
  cases p <;> rfl

theorem State.lap_linkFlags (fl : Nat) : (s.linkFlags p fl).lap = s.lap := by
  unfold State.linkFlags
  dsimp only
  have hpost (n : Nat) (a : Half) : (if n = 0 then s.orReg (fx p 0x202) (BitVec.ofNat 32 fl)
      else (s.orReg (fx p 0x202) (BitVec.ofNat 32 fl)).postF p 0x42 a).lap = s.lap := by
    split
    · rfl
    · exact State.lap_postF ..
  split
  · exact hpost ..
  · exact (State.lap_fault ..).trans (hpost ..)

theorem UnitFrame.linkFlags {ps : List Port} (h : UnitFrame ps s t) (fl : Nat) : UnitFrame ps s (t.linkFlags p fl) := by
  unfold State.linkFlags
  dsimp only
  have hpost (n : Nat) (a : Half) : UnitFrame ps s (if n = 0 then t.orReg (fx p 0x202) (BitVec.ofNat 32 fl)
      else (t.orReg (fx p 0x202) (BitVec.ofNat 32 fl)).postF p 0x42 a) := by
    split
    · exact h.orReg ..
    · exact (h.orReg ..).postF ..
  split
  · exact hpost ..
  · exact (hpost ..).fault ..

/-- The receive ring stands in two registers of its facet. -/
theorem State.rxRing_kept (h3 : RegKept (fx p 0x203) s t) (h4 : RegKept (fx p 0x204) s t) (hw : s.wf = true) : t.rxRing p = s.rxRing p := by
  unfold State.rxRing State.rf
  rw [h3.reg hw, h4.reg hw]

theorem State.lap_postLinkRx : (s.postLinkRx p).lap = s.lap := (State.lap_postF ..).trans (State.lap_modF _)

theorem State.lap_ringStore (e : Nat) :
    (s.ringStore p e).lap = s.lap.sramPut ((s.rxRing p).base + 2 * (s.rxRing p).wr) 2 e := by
  unfold State.ringStore
  dsimp only
  split
  · exact State.lap_postLinkRx
  · rfl

/-- A character received puts one entry in the receive ring, or none. -/
theorem State.linkRx_lap (hw : s.wf = true) (d : Byte) (mk fr no br : Bool) :
    (s.linkRx p d mk fr no br).lap = s.lap
      ∨ ∃ e, (s.linkRx p d mk fr no br).lap = s.lap.sramPut ((s.rxRing p).base + 2 * (s.rxRing p).wr) 2 e := by
  obtain ⟨t, c, e, fl, hl, hk, he⟩ : ∃ (t : State) (c : Bool) (e fl : Nat), t.lap = s.lap
      ∧ (∀ i, i ≠ fx p 0x207 → RegKept i s t)
      ∧ s.linkRx p d mk fr no br
        = (let u := if c then t.ringStore p e else t; if fl = 0 then u else u.linkFlags p fl) := by
    refine ⟨_, _, _, _, ?_, fun i hi => ?_, rfl⟩
    · split <;> split <;> exact State.lap_modF _
    · have h0 : RegKept i s ((s.modLk p fun l => { l with rxActive := false, brkWait := br }).count (fx p 0x207) 0 16) :=
        RegKept.setReg (RegKept.of_regs .refl (State.regs_modF _)) _ hi
      refine .ite (RegKept.setReg ?_ _ hi) ?_ <;> exact .ite (h0.setReg _ hi) h0
  have hlap (u : State) : (if fl = 0 then u else u.linkFlags p fl).lap = u.lap := by
    split
    · rfl
    · exact State.lap_linkFlags fl
  have hne (o : Nat) (ho : o ≠ 0x207) : fx p o ≠ fx p 0x207 := by unfold fx; omega
  have hring : t.rxRing p = s.rxRing p :=
    State.rxRing_kept (hk _ (hne _ (by decide))) (hk _ (hne _ (by decide))) hw
  rw [he]
  dsimp only
  rw [hlap]
  cases c with
  | false => exact .inl hl
  | true => exact .inr ⟨e, by rw [if_pos rfl, State.lap_ringStore, hl, hring]⟩

theorem State.sramWf (h : s.wf = true) : spWf (fun _ => (0 : Byte)) s.lap.sram = true := by
  simp only [State.wf, Bool.and_eq_true] at h
  exact h.1.2

/-! ### Conditions of the rows -/

theorem Facet.linked_of {f : Facet} (h : f.ct.linkOn = true ∧ f.lk.isolated = false) : f.linked = true := by
  rw [Facet.linked, h.1, h.2]
  rfl

theorem Facet.rxArmed_of {f : Facet} (h : f.ct.linkOn = true ∧ f.lk.isolated = false) (hb : f.lk.brkWait = false) (ht : f.lk.txActive = false) :
    f.rxArmed = true := by
  rw [Facet.rxArmed, Facet.linked_of h, hb, ht]
  rfl

theorem PortFrame.txFetch (h : PortFrame p s t) : PortFrame p s (t.txFetch p) := h.modLk _

theorem PortFrame.linkSent (h : PortFrame p s t) : PortFrame p s (t.linkSent p) := by
  unfold State.linkSent
  dsimp only
  split
  · exact (h.setFld ..).txFetch
  · exact ((h.setFld ..).modLk _).postF ..

/-- Settles O58: by the rows of the link, each under its condition, and the registers of the pins. -/
theorem linkAndPinRowsAct : Obligations.LinkAndPinRowsAct := by
  intro s hon
  refine ⟨fun p => ?link, fun n lv h => event_of hon h, fun m n v => powered_of_on s _ hon, fun h => event_of hon h,
    fun m v => powered_of_on s _ hon⟩
  refine ⟨fun hl hup hin mark => ⟨?_, ?_, PortFrame.refl.modF _⟩, fun hl => ⟨event_of hon (Facet.linked_of hl), ?_, ?_⟩,
    fun hon' hiso => ?_, fun hl hb ht => ⟨fun d mk fr no br => event_of hon (Facet.rxArmed_of hl hb ht), event_of hon (Facet.rxArmed_of hl hb ht)⟩,
    fun hw d mk fr no br k hk => ?_, fun hl hb => ?_, fun hl hf hp => ?_, fun h => ⟨event_of hon h, ?_, PortFrame.refl.txFetch⟩,
    fun h => ⟨event_of hon h, ?_, event_of hon h, ?_, ?_, ?_⟩, fun m v => ⟨powered_of_on s _ hon, powered_of_on s _ hon⟩⟩
  · exact dueEvent_of_due hon (by rw [Facet.linked_of hl, hup]; rfl) hin fun s => s.linkIsUp p mark
  · exact congrArg Lk.linkUp (State.modF_lk _ p _)
  · rw [State.sbuIsolate, State.facet_linkFlags]
    exact congrArg Lk.isolated (State.modF_lk _ p _)
  · exact (UnitFrame.refl.modLk (List.mem_singleton_self p) _).linkFlags _
  · exact event_of hon (by rw [hon', hiso]; rfl)
  · obtain h | ⟨e, h⟩ := State.linkRx_lap (p := p) hw d mk fr no br
    · rw [h]
    · rw [h]
      exact Lap.sramNum_sramPut_ne (State.sramWf hw) e hk
  · exact event_of hon (by rw [Facet.linked_of hl, hb]; rfl)
  · exact event_of hon (by rw [Facet.linked_of hl, decide_eq_true hf, hp]; rfl)
  · exact congrArg Lk.txActive (State.modF_lk _ p _)
  · exact PortFrame.refl.linkSent
  · rw [State.linkCollide, State.facet_linkFlags]
    exact congrArg Lk.txHalt (State.modF_lk _ p _)
  · rw [State.linkCollide, State.facet_linkFlags]
    exact congrArg Lk.txActive (State.modF_lk _ p _)
  · exact (UnitFrame.refl.modLk (List.mem_singleton_self p) _).linkFlags _

end Sys2Proof.Machine
end

/-! ## The hub's RCFG_CANCEL with the mark of an OFF apply

The staging that RCFG_CANCEL discards is one that is READY and not an OFF apply under verification (log entry 42). Only a
facet's apply sets that mark, but the statement, which speaks of every state, does not exclude it in the hub: there the
command is accepted without effect, and the hub stays READY. That no other state which the statement allows settles to
the same end takes an invariant, `Calm`: nothing in the rest of the cycle takes an idle hub out of its phase. The facets
of the counterexample are QUARANTINED, where no owed action moves them. -/

section
namespace Sys2Proof.Machine

/-- Every facet is QUARANTINED, every unit without a reconfiguration, `CLK`'s modes but BOOT, SENTINEL and COLD, and no
loader command waits: nothing that the end of a cycle does changes this. -/
structure CalmOf (f : Port → Facet) (h : Hub) (m : Mode) (l : Ldr) : Prop where
  facets : ∀ p, (f p).fstate = .quarantined ∧ (f p).rc.phase = .idle
  hub : h.rc.phase = .idle
  awake : m = .standby ∨ m = .run ∨ m = .safe
  loader : l.waiting = none

def Calm (s : State) : Prop := CalmOf s.facet s.hub s.mode s.ldr

variable {s t u : State}

namespace Calm

theorem keep (h : Calm s) (hf : ∀ p, (u.facet p).fstate = (s.facet p).fstate ∧ (u.facet p).rc = (s.facet p).rc) (hh : u.hub.rc = s.hub.rc)
    (hm : u.mode = s.mode) (hl : u.ldr = s.ldr) : Calm u where
  facets p := ⟨(hf p).1.trans (h.facets p).1, (congrArg (·.phase) (hf p).2).trans (h.facets p).2⟩
  hub := (congrArg (·.phase) hh).trans (CalmOf.hub h)
  awake := hm ▸ h.awake
  loader := (congrArg Ldr.waiting hl).trans h.loader

theorem regs (h : Calm s) (k : RegFrame s u) : Calm u := by
  rw [show u = { s with regs := u.regs } from k]
  exact h

theorem modF (h : Calm s) (p : Port) (g : Facet → Facet) (hg : ∀ f, (g f).fstate = f.fstate ∧ (g f).rc = f.rc) : Calm (s.modF p g) := by
  refine h.keep (fun q => ?_) (by cases p <;> rfl) (by cases p <;> rfl) (by cases p <;> rfl)
  by_cases hq : q = p
  · subst hq
    rw [State.modF_fstate, State.modF_rc]
    exact hg _
  · rw [State.facet_modF_ne _ _ _ _ hq]
    exact ⟨rfl, rfl⟩

theorem modPp (h : Calm s) (p : Port) (g : Pp → Pp) : Calm (s.modPp p g) := h.modF p _ fun _ => ⟨rfl, rfl⟩
theorem modCc (h : Calm s) (p : Port) (g : Cc → Cc) : Calm (s.modCc p g) := h.modF p _ fun _ => ⟨rfl, rfl⟩

theorem hubTo (h : Calm s) {x : Hub} (e : x.rc = s.hub.rc) : Calm { s with hub := x } := h.keep (fun _ => ⟨rfl, rfl⟩) e rfl rfl

theorem modHub (h : Calm s) (g : Hub → Hub) (hg : ∀ x, (g x).rc = x.rc) : Calm (s.modHub g) :=
  h.keep (fun _ => ⟨by rw [State.facet_modHub], by rw [State.facet_modHub]⟩) ((State.rc_modHub ..).trans (hg _)) rfl rfl

theorem modCv (h : Calm s) (c : Conv) (g : Cv → Cv) : Calm (s.modCv c g) := by
  cases c <;> exact h.modHub _ fun _ => rfl

theorem modBat (h : Calm s) (g : Bat → Bat) : Calm (s.modBat g) := h.modHub _ fun _ => rfl

theorem postF (h : Calm s) (p : Port) (c : Byte) (a : Half) : Calm (s.postF p c a) := by
  unfold State.postF
  dsimp only
  split <;> exact h

theorem jrn (h : Calm s) (a : Nat) (l : List Byte) (b : Bool) : Calm (s.jrn a l b) := by
  rw [State.jrn_keep Calm (fun _ _ => rfl) (fun _ _ => rfl)]
  exact h

/-! ### The end of a cycle -/

theorem sentCancel (h : Calm s) : Calm s.sentCancel := by
  unfold State.sentCancel
  split <;> exact h

theorem sentWatch (h : Calm s) : Calm s.sentWatch := by
  unfold State.sentWatch
  split
  · exact h
  · exact Calm.sentCancel (s := s.orReg ..) h

theorem syncBus (h : Calm s) (b : Bus) : Calm (s.syncBus b) := by
  unfold State.syncBus
  split
  · exact h
  · cases b <;> exact h.hubTo rfl

theorem syncFeeds (h : Calm s) : Calm s.syncFeeds := by
  unfold State.syncFeeds
  dsimp only
  split <;> exact (h.syncBus .nbus1).syncBus .nbus2

end Calm

theorem RegFrame.refreshCc (h : RegFrame s t) (p : Port) : RegFrame s (t.refreshCc p) := .ite h (h.setReg ..)

theorem RegFrame.refreshFresh (h : RegFrame s t) : RegFrame s t.refreshFresh := by
  have hall {c : Prop} [Decidable c] {v : State} (k : RegFrame s v) (p : Port) : RegFrame s (if c then v.refreshFacet p else v) :=
    .ite (k.refreshFacet p) k
  have hcc {v : State} (k : RegFrame s v) : RegFrame s ((((v.refreshCc .a).refreshCc .b).refreshCc .c).refreshCc .d) :=
    (((k.refreshCc .a).refreshCc .b).refreshCc .c).refreshCc .d
  unfold State.refreshFresh
  exact .ite (hcc (hall (hall (hall (hall h .a) .b) .c) .d)).refreshHub (hcc (hall (hall (hall (hall h .a) .b) .c) .d))

namespace Calm

theorem clearFresh (h : Calm s) : Calm s.clearFresh :=
  h.keep (fun p => by cases p <;> exact ⟨rfl, rfl⟩) rfl rfl rfl

theorem deliverAll (h : Calm s) (l : List Post) : Calm (deliverAll s l) := by
  induction l generalizing s with
  | nil => exact h
  | cons x l ih =>
    refine ih ?_
    unfold State.deliver State.setEvq
    dsimp only
    split <;> exact h

theorem standbyEnd (h : Calm s) : Calm s.standbyEnd := by
  unfold State.standbyEnd
  split
  · exact ⟨h.facets, CalmOf.hub h, .inr (.inl rfl), h.loader⟩
  · exact h

theorem endCycle (h : Calm s) : Calm s.endCycle :=
  (Calm.deliverAll (s := { s.sentWatch.syncFeeds.refreshFresh.clearFresh with posts := [] })
    (h.sentWatch.syncFeeds.regs (RegFrame.refl.refreshFresh)).clearFresh _).standbyEnd

/-! ### SAFE entry -/

theorem clkUp (h : Calm s) : Calm s.clkUp := by
  have hm : s.mode ≠ .sentinel := by obtain e | e | e := h.awake <;> rw [e] <;> decide
  unfold State.clkUp
  rw [if_neg hm]
  exact h

theorem cutHoldH (h : Calm s) : Calm s.cutHoldH := by
  unfold State.cutHoldH
  rw [h.hub]
  exact h

theorem refreshRp (h : Calm s) (p : Port) : Calm (s.refreshRp p) := by
  unfold State.refreshRp
  split
  · exact h
  · exact h.modF _ _ fun _ => ⟨rfl, rfl⟩

theorem present (h : Calm s) (p : Port) (x : Term) : Calm (s.present p x) := Calm.refreshRp (h.modCc p _) p

theorem portSafe (h : Calm s) (p : Port) : Calm (s.portSafe p) := by
  have hhold : s.cutHold p = s := State.cutHold_idle (by rw [(h.facets p).2]; decide)
  unfold State.portSafe
  rw [hhold]
  dsimp only
  rw [if_pos (h.facets p).1]
  refine Calm.present (Calm.modF (h.modPp p _) p _ ?_) p _
  exact fun _ => ⟨rfl, rfl⟩

theorem convsOff (h : Calm s) : Calm s.convsOff := by
  have hstop : Calm (if s.hub.bat.phase.active then s.stopCharge .suspended else s) := by
    split
    · unfold State.stopCharge State.setPhase
      have k := (h.modCv .cv1 Cv.endCharge).modCv .cv2 Cv.endCharge
      split
      · exact k
      · exact Calm.modBat k _
    · exact h
  exact ((hstop.modCv .cv1 Cv.off).modCv .cv2 Cv.off).modHub _ fun _ => rfl

theorem safe (h : Calm s) : Calm { s with mode := .safe } := ⟨h.facets, CalmOf.hub h, .inr (.inr rfl), h.loader⟩

theorem lapReset (h : Calm s) : Calm s.lapReset := h

theorem modGpio (h : Calm s) (g : Gpio → Gpio) : Calm (s.modGpio g) := h

theorem safeOutputs (h : Calm s) : Calm s.safeOutputs := by
  unfold State.safeOutputs
  refine Calm.safe (Calm.modGpio (Calm.modHub h.convsOff.lapReset _ ?_) _)
  exact fun _ => rfl

theorem cfgWaiting (h : Calm s) : Calm s.cfgWaiting := by
  unfold State.cfgWaiting
  rw [h.loader]
  exact h

theorem portsSafe (h : Calm s) : Calm s.portsSafe := (((h.portSafe .a).portSafe .b).portSafe .c).portSafe .d

theorem enterSafe (h : Calm s) (cause cls block : Nat) : Calm (s.enterSafe cause cls block) := by
  obtain k | ⟨v, hv, he⟩ : s.enterSafe cause cls block = s ∨ ∃ v, Calm v ∧ s.enterSafe cause cls block
      = (v.safeOutputs.cfgWaiting.setReg 0x0107 (fw 0 cause ||| fw 8 cls ||| fw 12 block)).jrn 0x03
        (leBytes 4 (fw 0 cause ||| fw 8 cls ||| fw 12 block).toNat) := by
    unfold State.enterSafe
    split
    · exact .inl rfl
    · refine .inr ⟨_, ?_, rfl⟩
      have hc := h.sentCancel
      rw [if_neg (c := s.sentCancel.mode = .boot) (by obtain e | e | e := hc.awake <;> rw [e] <;> decide),
        if_neg (c := s.sentCancel.mode = .sentinel) (by obtain e | e | e := hc.awake <;> rw [e] <;> decide)]
      exact hc.clkUp.cutHoldH.portsSafe
  · rw [k]
    exact h
  · rw [he]
    exact Calm.jrn (s := v.safeOutputs.cfgWaiting.setReg ..) hv.safeOutputs.cfgWaiting _ _ _

/-! ### The owed actions -/

theorem refreshIlim (h : Calm s) (p : Port) : Calm (s.refreshIlim p) := by
  unfold State.refreshIlim
  split
  · exact h
  · dsimp only
    have hact {t : State} (k : Calm t) (a b : Bool) :
        Calm (if b then ((if a then t.orReg (fx p 0x004) 1 else t).modF p fun f => { f with clampIlim := a }).postF p 0x32 0
          else (if a then t.orReg (fx p 0x004) 1 else t).modF p fun f => { f with clampIlim := a }) := by
      have k' : Calm ((if a then t.orReg (fx p 0x004) 1 else t).modF p fun f => { f with clampIlim := a }) := by
        refine Calm.modF ?_ p _ fun _ => ⟨rfl, rfl⟩
        split <;> exact k
      split
      · exact k'.postF ..
      · exact k'
    exact hact (t := s.setReg ..) h _ _

end Calm

theorem State.afterStore_ilim (p : Port) (old raw : Word) : s.afterStore (fx p 0x141) old raw = s.refreshIlim p := by
  cases p <;> rfl

theorem facetOf_ilim (p : Port) : facetOf (fx p 0x141) = some (p, 0x141) := by cases p <;> rfl

namespace Calm

theorem writeIlim (h : Calm s) (p : Port) (v : Word) : Calm (s.bankWrite (fx p 0x141) v) := by
  have hidle := (h.facets p).2
  unfold State.bankWrite
  rw [facetOf_ilim]
  dsimp only
  rw [hidle]
  dsimp only
  unfold State.storeRw
  split
  · exact h
  · split
    · exact h
    · dsimp only
      rw [State.afterStore_ilim]
      exact Calm.refreshIlim (s := s.setReg ..) h p

theorem frsSignalAll (h : Calm s) (b : Bus) : s.frsSignalAll b = s := by
  have hno (p : Port) : s.frsSends p = false := by
    unfold State.frsSends
    dsimp only
    rw [(h.facets p).1]
    exact Bool.and_false _
  have hfold (l : List Port) : l.foldl (fun s p => if s.busOf p = b ∧ s.frsSends p = true then s.frsSignal p else s) s = s := by
    induction l with
    | nil => rfl
    | cons p l ih =>
      rw [List.foldl_cons, if_neg (by rw [hno p]; exact fun k => Bool.false_ne_true k.2)]
      exact ih
  unfold State.frsSignalAll
  split
  · rfl
  · exact hfold _

theorem wakeBurst (h : Calm s) (cause : Word) : Calm (s.wakeBurst cause) := by
  have hm : s.mode ≠ .sentinel := by obtain e | e | e := h.awake <;> rw [e] <;> decide
  unfold State.wakeBurst
  split
  · exact h
  · unfold State.wakeNow
    rw [if_neg (c := (s.orReg 0x0104 cause).mode = .sentinel) hm]
    exact h

theorem runAct (h : Calm s) (a : Act) : Calm (s.runAct a) := by
  cases a with
  | openSwitch p =>
    unfold State.runAct
    dsimp only
    rw [(h.facets p).1]
    exact h
  | hardReset p =>
    unfold State.runAct
    dsimp only
    split
    · exact h
    · rw [(h.facets p).1]
      exact h
  | quarantine p =>
    unfold State.runAct State.quarantine
    dsimp only
    rw [(h.facets p).1]
    exact h
  | safe u c => exact h.enterSafe ..
  | thermalSafe => exact h.enterSafe ..
  | ruleEvent p arg => exact h.postF ..
  | gpio pin level =>
    unfold State.runAct State.ruleGpio
    dsimp only
    split <;> exact h
  | ilim p ma => exact h.writeIlim p _
  | abort p c =>
    unfold State.runAct State.abortHold
    dsimp only
    rw [if_pos (by rw [(h.facets p).2]; decide)]
    exact h
  | wake => exact h.wakeBurst 0
  | frs b =>
    unfold State.runAct
    dsimp only
    rw [h.frsSignalAll b]
    exact h

theorem settleN (h : Calm s) (n : Nat) : Calm (s.settleN n) := by
  induction n generalizing s with
  | zero => exact h
  | succ n ih =>
    unfold State.settleN
    split
    · exact h
    · next a l _ => exact ih (Calm.runAct (s := { s with todo := l }) h a).endCycle

theorem settle (h : Calm s) (hdue : s.pdDueAll = s) (haw : s.awaits = []) : Calm s.settle := by
  have heval : s.evaluate = s := by
    unfold State.evaluate
    rw [if_pos (.inl haw)]
  unfold State.settle
  rw [hdue, heval]
  dsimp only
  split
  · exact h.endCycle
  · exact h.endCycle.settleN 64

end Calm

/-! ### The counterexample -/

/-- The hub is LIVE and its staging READY, with the mark of an OFF apply; every facet is QUARANTINED. -/
def offVerifying : State :=
  let f := { Facet.reset with fstate := .quarantined }
  { State.reset with
    mode := .run, fa := f, fb := f, fc := f, fd := f
    hub := { Hub.reset with fstate := .live, rc := { Hub.reset.rc with phase := .ready, offApply := true } } }

theorem State.pdDueAll_idle (h : ∀ p, (s.facet p).pd = Pd.reset) : s.pdDueAll = s := by
  have hp (p : Port) : s.pdDue p = s := by
    have hno : s.pdIsDue p = false := by
      unfold State.pdIsDue
      dsimp only
      rw [h p]
      exact Bool.and_false _
    unfold State.pdDue
    rw [hno]
    rfl
  unfold State.pdDueAll
  rw [hp, hp, hp, hp, ite_self]

/-- Whatever a command leaves of the counterexample but the hub, an idle hub stays idle to the end of the cycle. -/
theorem phase_settle_offVerifying (hu : UnitFrame [] offVerifying u) (hidle : u.hub.rc.phase = .idle) (m : Master) :
    (u.reportH (.direct m) .accepted .none).settle.hub.rc.phase = .idle := by
  obtain ⟨hf, -, hrest⟩ := hu
  have hfacet (p : Port) : u.facet p = offVerifying.facet p := hf p List.not_mem_nil
  have hcalm : Calm u := {
    facets := fun p => by rw [hfacet]; cases p <;> exact ⟨rfl, rfl⟩
    hub := hidle
    awake := .inr (.inl (by rw [hrest]; rfl))
    loader := by rw [hrest]; rfl }
  have hpd (p : Port) : (u.facet p).pd = Pd.reset := by rw [hfacet]; cases p <;> rfl
  have haw : u.awaits = [] := by rw [hrest]; rfl
  exact CalmOf.hub (Calm.settle (s := u.reportH ..) hcalm (State.pdDueAll_idle fun p => hpd p) haw)

/-- The model run on the counterexample. -/
theorem phase_cancel_offVerifying :
    (match exec (.rcfgCancel none 0 0 (.direct .service)) offVerifying with
      | .next t => decide (t.hub.rc.phase = .ready)
      | _ => false) = true := by
  decide +kernel

/-- Refutes O29: its third clause fails for a hub that is READY with the mark of an OFF apply, where RCFG_CANCEL is
accepted without effect (log entry 42). -/
theorem not_hubReconfigurationTakesEffect : ¬ Obligations.HubReconfigurationTakesEffect := by
  intro h
  have htakes : offVerifying.takesH 0 := ⟨rfl, rfl, rfl, rfl, .inr rfl⟩
  obtain ⟨-, -, hcancel, -⟩ := h 0 (.direct .service) offVerifying htakes rfl
  obtain ⟨u, ⟨hexec, hframe⟩, hidle, -⟩ := hcancel rfl
  have hready := phase_cancel_offVerifying
  rw [hexec] at hready
  have hphase := phase_settle_offVerifying hframe hidle .service
  exact absurd ((of_decide_eq_true hready).symm.trans hphase) (by decide)

end Sys2Proof.Machine
end
